-- ==== Sys2Proof/Word.lean ====
section
/-! DEFINITION. The plain word types of the Ovlos DS16 model. -/
namespace Sys2Proof

/-- One byte of a host buffer, a frame payload or an image file. -/
abbrev Byte := BitVec 8

end Sys2Proof
end

