-- ==== Sys2Proof/Syntax.lean ====
section
/-! DEFINITION. The commands of the Ovlos DS16: one constructor per row of spec/opcode_table.json.
What the module measures (currents, counts, voltages), what arrives on a link (frames, host words)
and what the outside decides is an operand of the row; 95_what_each_step_holds.md lists the steps. -/
namespace Sys2Proof

/-- Where a ring command comes from: its ring, its DESC_INDEX, its TAG and its IRQ and NO_PROGRESS
bits (R129). -/
structure Hdr where
  ring : Nat
  idx : Nat
  tag : Nat
  irq : Bool
  noProg : Bool
  deriving DecidableEq, Repr

/-- ATTEST and CERT_READ come from a ring or from the service port (R573). -/
inductive Src where
  | ring (h : Hdr)
  | svc
  deriving DecidableEq, Repr

/-- The two sides of a car (R238). -/
inductive Side where
  | L
  | R
  deriving DecidableEq, Repr

/-- The two safety channels (01_module_architecture.md, The Reed and Bore channels). -/
inductive Chan where
  | reed
  | bore
  deriving DecidableEq, Repr

/-- The SRAM regions of R38; `fabricBuf` to `reserve` are not retained. -/
inductive Region where
  | fingering (ax : Nat)
  | profile (ax : Nat)
  | preTrigger
  | firmware
  | fabricBuf
  | ringStaging
  | mirrorBuf
  | txnContexts
  | workingConfig
  | recorderStaging
  | reserve
  deriving DecidableEq, Repr

/-- What causes a control-die reset (R82, R90, R503, R508). -/
inductive ResetCause where
  | watchdog
  | srst
  | startRequest
  | restoreFactory
  | clockRatio
  | updatePause
  | autoRestart
  | relinquish
  | split
  deriving DecidableEq, Repr

/-- Wake sources of DORMANT (R103). -/
inductive WakeSource where
  | fabric
  | host
  | input
  | evacuation
  deriving DecidableEq, Repr

/-- What a start step found (R86 to R89, R100, R163, R349, R557). -/
structure StepReport where
  /-- the step passed within its time limit -/
  pass : Bool
  /-- the reason carried by START_FAILED when it did not -/
  reason : Nat
  /-- step 2: the measured hold-up energy in mJ -/
  holdupMj : Nat
  /-- step 5: user fingering tables (axis, table) whose CRC-32 fails -/
  badTables : List (Nat × Nat)
  /-- step 5: leaf axes whose learned profile fails its block check -/
  badProfiles : List Nat
  /-- step 6: valid copies of the factory area, the user calibration and the configuration -/
  factoryCopies : Bool × Bool
  calibCopies : Bool × Bool
  configCopies : Bool × Bool
  /-- step 6: the CRC-32 the Bore channel computed of its image -/
  boreCrc : BitVec 32
  /-- step 10: loop voltage present on LOOP_L_IN and LOOP_R_IN -/
  loopVolt : Bool × Bool
  deriving DecidableEq, Repr

/-- MOVE words 6 to 11 (R209). -/
structure MoveArgs where
  target : Int
  speed : Nat
  accel : Nat
  decel : Nat
  jerk : Nat
  redirect : Bool
  relative : Bool
  deriving DecidableEq, Repr

/-- Words 7 to 10 of SET_MOTION_LIMITS; 0 keeps the present value (R215). -/
structure LimitArgs where
  speed : Nat
  accel : Nat
  decel : Nat
  jerk : Nat
  deriving DecidableEq, Repr

/-- An action that a descriptor with STAGE set carries (R460); `other` is any opcode that cannot be
staged. `buf` of TXN_STAGE_ACTION says whether BUF_ADDR is non-zero. -/
inductive Action where
  | move (ax : Nat) (m : MoveArgs)
  | setLimits (ax : Nat) (l : LimitArgs)
  | stop (ax : Nat)
  | portalRequest (p : Nat) (close : Nat)
  | sideRelease (mask : Nat) (grant : Bool)
  | lsSet (n : Nat) (st : Nat)
  | pointWrite (pt : Nat) (v : Int)
  | other (opcode : Nat)
  deriving DecidableEq, Repr

/-- A fabric action of R461: kind and argument words 7 and 8. -/
structure FabAct where
  kind : Nat
  w7 : Nat
  w8 : Int
  deriving DecidableEq, Repr

/-- The key of a fabric-wide transaction: coordinator's address, EPOCH, serial (R470). -/
structure TxnKey where
  coord : Nat
  epoch : Nat
  serial : Nat
  deriving DecidableEq, Repr

/-- What the end of one step of a long operation brings (R141): whether it was the last step, whether
the operation succeeded, and its data: a value, records delivered and skipped, or bytes. -/
structure LongEnd where
  last : Bool
  ok : Bool
  value : Nat
  count : Nat
  bytes : List Byte
  deriving DecidableEq, Repr

/-- Levels of an encoder's A and B that stood for some MOT ticks (R181). -/
structure EncRun where
  ticks : Nat
  a : Bool
  b : Bool
  deriving DecidableEq, Repr

/-- What one 100 us tick measures: per axis the levels of A and B since the last sample and the Bore shadow count,
the voltage in V of the four phase wires of each axis in turn, the bus power in W and the bus voltage in 0.1 V. A
shadow count that is not listed has not changed; a voltage that is not listed is 0. -/
structure TickIn where
  enc : List (List EncRun)
  shadows : List Int
  wireVolt : List Nat
  power : Nat
  vbus : Nat
  deriving DecidableEq, Repr

/-- The transfer that a DMA error ended (R128): of a ring's own, or of the buffer of the command fetched with an index. -/
inductive DmaXfer where
  | ringRead
  | ringWrite
  | bufRead (idx : Nat)
  | bufWrite (idx : Nat)
  deriving DecidableEq, Repr

/-- What one 25 us update of an axis measures (R175, R176): the phase currents of the measurement channel and of the
fast channel in mA, and the ripple of each phase in mA. -/
structure LoopIn where
  ia : Int
  ib : Int
  fastA : Int
  fastB : Int
  rippleA : Nat
  rippleB : Nat
  deriving DecidableEq, Repr

/-- One SSI frame as the control die and the Bore shadow receive it (R186): its bits in each channel, and the line
checks of R185. -/
structure SsiFrame where
  bits : Nat
  shadow : Nat
  startHigh : Bool
  endHigh : Bool
  deriving DecidableEq, Repr

/-- One channel's evaluations in an exchange of R307. -/
structure Evals where
  pairs : List Nat
  enables : List Bool
  contribs : List Bool
  stos : List Bool
  deriving DecidableEq, Repr

/-- The fields of an upstream field frame that a step takes (R369); `ok` is SYNC and CRC. -/
structure UpFrame where
  ok : Bool
  seq : Nat
  sampleIdx : Nat
  rawNew : Nat
  rawPrev : Nat
  /-- the 8 bits of TEST_FLAGS -/
  testFlags : Nat
  edges : List Nat
  lsOut : Nat
  /-- the 48 bits of LS_FLAGS -/
  lsFlags : Nat
  slot : Nat
  currents : List Nat
  feeds : List Nat
  /-- DIE_STATUS: the die's temperature, fail-safe active, resume count -/
  temp : Nat
  failsafe : Bool
  resumes : Nat
  tokenEcho : Nat
  deriving DecidableEq, Repr

/-- CAN_TX words 6 and 7 and the data (R417). -/
structure CanArgs where
  ide : Bool
  fdf : Bool
  brs : Bool
  ident : Nat
  addrEmbed : Bool
  rtr : Bool
  dlc : Nat
  reserved : Bool
  data : List Byte
  deriving DecidableEq, Repr

/-- A CAN frame on the bus with its ESI bit and the raw instant of its SOF sample point. -/
structure CanFrame where
  ide : Bool
  fdf : Bool
  brs : Bool
  esi : Bool
  rtr : Bool
  ident : Nat
  dlc : Nat
  data : List Byte
  deriving DecidableEq, Repr

/-- How a transmit attempt ends (R406, R408): success, lost arbitration, a bit error in the data field,
or another error with its LEC code. -/
inductive Attempt where
  | success
  | lost
  | dataBit
  | error (lec : Nat)
  deriving DecidableEq, Repr

/-- The receive-error rules of ISO 11898-1 that change REC (R407): add 1 or add 8. -/
inductive RxErr where
  | plus1 (lec : Nat)
  | plus8 (lec : Nat)
  deriving DecidableEq, Repr

/-- A Wegato frame header (R420) and the black-channel trailer (R437). -/
structure Frame where
  version : Nat
  type : Nat
  origin : Nat
  noAddr : Bool
  dest : Nat
  hops : Nat
  flags : Nat
  seq : Nat
  payload : List Byte
  epoch : Nat
  safeSeq : Nat
  tsNs : Nat
  tsSec : Nat
  safeCrc : BitVec 32
  deriving DecidableEq, Repr

/-- A hello (R424): the sender's serial, address and Wegato version, and the previous major it speaks
with that major's highest minor (none when it speaks no previous major). -/
structure Hello where
  serial : Nat
  addr : Option Nat
  major : Nat
  minor : Nat
  prevMinor : Option Nat
  deriving DecidableEq, Repr

/-- A topology record (R425). -/
structure TopoRec where
  serial : Nat
  fixedAddr : Option Nat
  anchorEnable : Bool
  anchorPriority : Nat
  anchorBase : Nat
  n1 : Option Nat
  n2 : Option Nat
  deriving DecidableEq, Repr

/-- A transaction message (R471). -/
inductive TxnMsg where
  | prepare (key : TxnKey) (c v q : Int) (parts : List Nat) (acts : List FabAct)
  | vote (key : TxnKey) (voter : Nat) (yes : Bool) (reason : Nat)
  | decision (key : TxnKey) (commit : Bool)
  | query (key : TxnKey) (querier : Nat)
  | answer (key : TxnKey) (commit : Bool)
  deriving DecidableEq, Repr

/-- What the peer sends at ligature link-up (R487). -/
structure PeerHello where
  serialLo : Nat
  role : Nat
  peerSerial : Nat
  /-- the check value confirmed there, none where no configuration is confirmed -/
  confirmed : Option (BitVec 64)
  pairCheck : BitVec 64
  major : Nat
  minor : Nat
  prevMinor : Option Nat
  mode : Nat
  deriving DecidableEq, Repr

/-- A service certificate as SVC_AUTHENTICATE carries it (R546). -/
structure Cert where
  certType : Nat
  issuer : Nat
  subject : Nat
  operator : Nat
  roles : Nat
  notBefore : Nat
  notAfter : Nat
  publicKey : List Byte
  signature : List Byte
  deriving DecidableEq, Repr

/-- The fields of an image header (R553). -/
structure ImgHdr where
  magic : Nat
  fmtMajor : Nat
  fmtMinor : Nat
  part : Nat
  variantMask : Nat
  hwMin : Nat
  hwMax : Nat
  keyId : Nat
  fwVersion : Nat
  antiRollback : Nat
  bodyLength : Nat
  revokeMask : Nat
  ligMajor : Nat
  ligPrev : Nat
  bodyDigest : BitVec 512
  /-- bytes 27 to 31 and 96 to 1,023 -/
  pad : List Byte
  tail : List Byte
  deriving DecidableEq, Repr

/-- A running plan as a mirror frame carries it (R495): start and limits in the generator's own units,
stop 0 none, 1 stop, 2 fault stop, 3 Safe Stop, and a pending REDIRECT target. -/
structure MirPlan where
  start : Nat
  target : Int
  speed : Nat
  accel : Nat
  decel : Nat
  jerk : Nat
  tag : Nat
  /-- the segment the plan is in, from 0 -/
  seg : Nat
  /-- 0 none, 1 stop, 2 fault stop, 3 Safe Stop -/
  stop : Nat
  next : Option Int
  deriving DecidableEq, Repr

/-- One axis as a mirror frame carries it (R495). -/
structure MirAxis where
  pcmd : Int
  penc : Int
  vel : Int
  acc : Int
  addr : Nat
  lead : Int
  amp : Nat
  rmsA : Nat
  rmsB : Nat
  torque : Bool
  plan : Option MirPlan
  homeRef : Int
  posOrigin : Int
  fault : Option Nat
  deriving DecidableEq, Repr

/-- One portal as a mirror frame carries it (R495); timers as instants of the sender's R_RAW, 0 for an
expired one. -/
structure MirPortal where
  state : Nat
  stepState : Nat
  openReq : Bool
  openPress : Nat
  closePress : Nat
  reversals : Nat
  obstacle : Nat
  obstReact : Nat
  probe : Nat
  timers : List (Option Nat)
  armed : List Bool
  user : List Int
  prev : List (Nat × Nat × Int)
  deriving DecidableEq, Repr

/-- A transaction context as a mirror frame carries it (R481, R495). -/
structure MirCtx where
  no : Nat
  st : Nat
  reusable : Bool
  acts : List Action
  tags : List Nat
  fab : List FabAct
  c : Int
  v : Int
  q : Int
  coord : Bool
  key : Option TxnKey
  addr : Nat
  parts : List Nat
  votes : List (Nat × Bool × Nat)
  decision : Option Bool
  final : Bool
  order : Nat
  table : Option Nat
  deriving DecidableEq, Repr

/-- A mirror frame (R495); its tick is an instant of the sender's R_RAW. `tests` are the results of the
PRIMARY's test pulses (R368, R500), true for failed. -/
structure MirFrame where
  crcOk : Bool
  tick : Nat
  seq : Nat
  mode : Nat
  axes : List MirAxis
  portals : List MirPortal
  grants : Bool × Bool
  stos : List Bool
  trips : List Bool
  ls : List Nat
  timed : List (Option (Nat × Nat))
  loopsLatched : Bool × Bool
  ctxs : List MirCtx
  tests : List Bool
  deriving DecidableEq, Repr

/-- The four quantities of a step 11 phase test (R197): gain errors in 0.01 %, an open phase
(0 none, 1 A, 2 B), an overcurrent phase and the fast channel's reading of it in mA. -/
structure PhaseTestResult where
  errA : Int
  errB : Int
  openPhase : Nat
  overPhase : Nat
  overMa : Int
  deriving DecidableEq, Repr

/-- A configuration file of the Tholar workbench (R82): parameter values and sequence tables. -/
structure ConfigFile where
  params : List (Nat × Nat × Int)
  tables : List (Nat × List (List Nat))
  deriving DecidableEq, Repr

/-- The commands: one constructor per row of the opcode table, in the table's order. -/
inductive Instr where
  | lockstepMismatch (pair : Nat)
  | pllLockLoss (mems : Bool)
  | clockRatioWindowEnd (count : Nat)
  | boreWindowMarker (ticks : Nat)
  | budgetPeriodBoundary
  | classBudgetExhausted (cls : Nat) (reed : Bool) (ov : Nat)
  | budgetApply
  | overrunClear (mask : Nat)
  | sramScrub (corrected : Nat)
  | sramUncorrectableError (region : Region)
  | supplySag (vbus : Nat)
  | supplyInterrupted (vbus : Nat) (svc24 : Bool)
  | dcLinkCollapse
  | supplyRestored (vbus : Nat) (riseAt : Nat)
  | powerFail (vbus : Nat)
  | holdupReserveLevel
  | serviceSupplyLoss (vbus : Nat)
  | serviceSupplyBusReturn (vbus : Nat)
  | holdupExhausted
  | busPowerLimit (power : Nat)
  | busPowerLowering (power : Nat)
  | busPowerLimitClear (power : Nat)
  | peakReserveEmpty
  | regenClamp (vbus : Nat)
  | busOvervoltage (vbus : Nat)
  | overvoltageRecovery (vbus : Nat)
  | baseplateTempSample (t : Int)
  | encoderSupplyFault (conn : Nat)
  | logicPowerOn (svc24 : Bool) (srstLow : Bool)
  | controlDieReset (cause : ResetCause)
  | startStep (r : StepReport)
  | startComplete
  | startFailed
  | autoRestart
  | loopVoltageAppears (side : Side) (reedPass borePass : Bool)
  | resetLoopHoldExpiry
  | srstPress (afterHigh : Bool)
  | srstStuck
  | modeRequest (h : Hdr) (target : Nat)
  | startRequest (h : Hdr)
  | restoreFactory (h : Hdr) (word : Nat)
  | evacuate (h : Hdr) (set : Bool)
  | dormantWake (src : WakeSource) (pass : Bool)
  | hostLinkReset (cause : Nat)
  | hostLinkUp (width speed : Nat)
  | hostVerReq (value : Nat)
  | ringEnable (ring cfg : Nat)
  | ringDisable (ring cfg : Nat)
  | ringDrained (ring : Nat)
  | doorbellHostIndex (ring idx : Nat)
  | doorbellCplConsumed (ring idx : Nat)
  | descriptorFetch (ring : Nat) (words : List Nat)
  | hostDmaError (ring : Nat) (what : DmaXfer)
  | interruptCoalesceTimeout (ring : Nat)
  | msixVectorUnmask (k : Nat)
  | paramRead (h : Hdr) (dom id inst : Nat)
  | paramWrite (h : Hdr) (dom id inst value : Nat)
  | paramReadBlock (h : Hdr) (dom tid inst off len : Nat)
  | paramWriteBlock (h : Hdr) (dom tid inst off : Nat) (data : List Byte)
  | nop (h : Hdr)
  | longOpCancel (h : Hdr) (ring idx : Nat)
  | longOpQuery (h : Hdr) (ring idx : Nat)
  | longOpStep (slot : Nat) (r : LongEnd)
  | timeNsRead
  | rawLoRead
  | offsetLoRead
  | timeCapture
  | healthFaultBitsClear (mask : Nat)
  | clearRegLocked
  | clearSramCe
  | hostWatchdogExpiry
  | registerWrite (off value bytes : Nat)
  | profileTick (inp : TickIn)
  | currentLoopUpdate (ax : Nat) (x : LoopIn) (enc : List EncRun)
  | chopperCycle (ax phase onTicks : Nat) (reached : Bool)
  | currentNotReached (ax phase count : Nat)
  | phaseOvercurrent (ax phase : Nat) (ma : Int)
  | phaseOpen (ax phase : Nat)
  | isolatorClosureConfirmed (ax : Nat)
  | isolatorOpenConfirmed (ax : Nat)
  | isolatorFault (ax wire : Nat)
  | encLineBreak (ax sig : Nat)
  | encIllegalTransition (ax : Nat) (count : Int)
  | encOverspeed (ax : Nat) (count : Int)
  | encIndexCapture (ax : Nat) (count : Int) (revCounts : Nat)
  | ssiFrame (ax : Nat) (f : SsiFrame)
  | axisStall (ax : Nat)
  | holdDelayExpiry (ax : Nat)
  | driveStatus (h : Hdr) (ax len : Nat)
  | axisFaultClear (h : Hdr) (ax : Nat) (passes : Bool)
  | phaseTest (h : Hdr) (ax : Nat)
  | phaseTestDone (ax : Nat) (r : PhaseTestResult)
  | move (h : Hdr) (ax : Nat) (m : MoveArgs)
  | setMotionLimits (h : Hdr) (ax : Nat) (l : LimitArgs)
  | stop (h : Hdr) (ax : Nat)
  | home (h : Hdr) (inst : Nat) (portal : Bool)
  | jog (h : Hdr) (ax : Nat) (pos redirect : Bool) (speed : Nat)
  | positionRead (h : Hdr) (ax : Nat)
  | axisInPosition (ax : Nat)
  | jogTimeout (ax : Nat)
  | homeAlignHoldEnd (ax : Nat) (count : Int)
  | homeEndStopDetected (ax : Nat)
  | homeConfirmTimeout (ax : Nat)
  | homeTimeout (ax : Nat)
  | portalTimerExpiry (p t : Nat)
  | lockConfirmTimeout (p : Nat)
  | stepConfirmTimeout (p : Nat)
  | loadTemplate (h : Hdr) (p n : Nat)
  | portalReset (h : Hdr) (p : Nat)
  | portalRequest (h : Hdr) (p close : Nat)
  | sideRelease (h : Hdr) (mask : Nat) (grant : Bool)
  | obstacleForceDetect (ax : Nat)
  | obstacleErrGrowth (ax : Nat)
  | edgeMeasurement (e ohm : Nat)
  | edgeFault (e cause : Nat)
  | edgePwTestEnd (e : Nat) (pass : Bool)
  | edgeFaultCleared (e : Nat)
  | obstacleSupervisionLate (ax : Nat)
  | probeDecision (ax compliance : Nat) (periods : List (Int × Nat))
  | profileSaveInterval
  | profileReloadDone (ax : Nat) (ok : Bool)
  | learnRun (h : Hdr) (p : Nat)
  | profileSave (h : Hdr)
  | safetyExchange (reed bore : Evals)
  | inputSample (raw : List Bool)
  | pairDiscrepancy (p : Nat)
  | inputStuckSuspect (n : Nat)
  | stoDemand (g cause : Nat) (chan : Chan)
  | stoReadbackTimeout (g : Nat) (presentWhileCut boreMeans : Bool)
  | safeStopEnd (g : Nat)
  | sflTrip (ax : Nat) (chan : Chan) (ma : Nat)
  | currentViewLost (ax reedMa boreMa : Nat)
  | loopClose (side : Side) (chan : Chan)
  | loopCurrentLimitTrip (side : Side)
  | loopRetry (side : Side)
  | loopReset (h : Hdr) (side : Nat)
  | offpulseStart (voltL voltR : Nat)
  | offpulseEnd (voltL voltR : Nat)
  | offpulseSuspended
  | releaseEnableMismatch (side : Side)
  | degradedTimeWrite
  | degradedLimitReached
  | checkValueCompute (h : Hdr)
  | pairStatus (h : Hdr)
  | fieldUpstreamFrame (die : Nat) (f : UpFrame)
  | fieldDownstreamFrame (die : Nat) (ok : Bool)
  | fieldLinkStale (die : Nat)
  | fieldWatchdogFailsafe (die : Nat)
  | lsTimedSwitch (n : Nat)
  | lsFlashToggle (n : Nat)
  | lsLimitTrip (n ma : Nat)
  | lsFuseUpdate (n ma : Nat)
  | groupCheck (g avg : Nat)
  | lsOpenLoad (n cur : Nat)
  | lsThermalLatchSet (n : Nat)
  | lsThermalLatchClear (n : Nat)
  | lsRetry (n : Nat)
  | lsRetryCounterReset (n : Nat)
  | lsSet (h : Hdr) (n st : Nat)
  | lsClear (h : Hdr) (n : Nat)
  | ioStatus (h : Hdr) (len : Nat)
  | feedSagOff (f volt : Nat)
  | feedRestored (f volt : Nat)
  | feedAbsent (f volt : Nat)
  | canPortEnable (p cfg : Nat)
  | canPortDisable (p cfg : Nat)
  | canBusOffRecover (p : Nat)
  | canCounterClear (p : Nat)
  | canTx (h : Hdr) (p buf : Nat) (a : CanArgs)
  | canTxCancel (h : Hdr) (p src : Nat)
  | canObjWrite (h : Hdr) (p obj : Nat) (sendNow : Bool) (data : List Byte)
  | canObjRead (h : Hdr) (p obj len : Nat)
  | canArbitration (p tdc : Nat)
  | canTxAttemptEnd (p : Nat) (r : Attempt)
  | canRxFrame (p : Nat) (f : CanFrame)
  | canBusOffRecovered (p : Nat)
  | canTxdTimeout (p : Nat)
  | canPeriodicSend (p obj : Nat)
  | canStatusFrame (p : Nat)
  | fabricLinkUp (port : Nat)
  | fabricLinkLoss (port : Nat)
  | fabricHelloSend
  | fabricHelloRx (port : Nat) (m : Hello)
  | topologyRecordRx (r : TopoRec)
  | discoveryComplete
  | fabricFrameArrival (port pcp len : Nat) (f : Frame)
  | publicationSend (cls : Nat)
  | publicationRx (f : Frame)
  | fabricLoadMeasure (load1 load2 : Nat)
  | fabricDiscover (h : Hdr)
  | pointWrite (h : Hdr) (pt : Nat) (v : Int)
  | pointRead (h : Hdr) (pt sel : Nat)
  | topologyRead (h : Hdr) (len : Nat)
  | sessionOpen (h : Hdr) (peer : Nat)
  | sessionSend (h : Hdr) (sess : Nat) (data : List Byte)
  | sessionRecv (h : Hdr) (sess len : Nat)
  | sessionClose (h : Hdr) (sess : Nat)
  | sessionDataRx (peer kind sess seq : Nat) (data : List Byte)
  | sessionAckRx (sess seq : Nat)
  | sessionRtoExpiry (sess : Nat)
  | fabricCommand (h : Hdr) (dest cmd : Nat)
  | fabricCommandRx (f : Frame) (cmd : Nat)
  | ptpSyncRx (o : Int)
  | gmLossTimeout
  | gmSelected (id : Nat) (there self : Bool)
  | holdoverTrustExpiry
  | fabricCounterClear
  | txnOpen (h : Hdr) (reusable : Bool)
  | txnStageAction (h : Hdr) (ctx : Nat) (a : Action) (buf : Bool)
  | txnFabricAction (h : Hdr) (ctx : Nat) (a : FabAct)
  | txnCommit (h : Hdr) (ctx : Nat) (fabric : Bool) (atTime : Option Int) (parts : List Nat)
  | txnAbort (h : Hdr) (ctx : Nat)
  | txnResult (h : Hdr) (ctx : Nat)
  | txnClose (h : Hdr) (ctx : Nat)
  | txnStatus (h : Hdr) (ctx : Nat)
  | txnCheckInstant (ctx : Nat)
  | txnCommitInstant (ctx : Nat)
  | txnPrepareRx (f : Frame) (m : TxnMsg)
  | txnVoteRx (f : Frame) (m : TxnMsg)
  | txnVoteDeadline (ctx : Nat)
  | txnTwinAckRx (ctx : Nat)
  | txnTwinAckTimeout (ctx : Nat)
  | txnDecisionRx (f : Frame) (m : TxnMsg)
  | txnResendTimer (ctx : Nat)
  | txnQueryRx (f : Frame) (m : TxnMsg)
  | txnAnswerRx (f : Frame) (m : TxnMsg)
  | txnLateApply (ctx : Nat)
  | txnQueryTimeout (ctx : Nat)
  | txnContextExpiry (ctx : Nat)
  | ligatureLinkUp (peer : PeerHello)
  | ligatureHeartbeatSend
  | ligatureHeartbeatRx (lane mode : Nat) (peerRaw mirSeq : Nat)
  | ligatureLaneLoss (lane : Nat)
  | twinHeartbeatLost
  | mirrorFrameRx (f : MirFrame)
  | twinMirrorLate
  | twinLsCommandRx (n st : Nat) (inst : Nat)
  | twinCurrentExchange (currents : List Nat)
  | twinProfileRx (ax : Nat) (bins : List (Nat × List Int)) (ref : List Nat)
  | twinDecisionWriteRx (key : TxnKey) (commit : Bool)
  | takeoverCheckDone (switching : List (Nat × Nat × Nat))
  | twinOrphanTimeout
  | relinquishRx (handover cause : Nat)
  | handoverInstant
  | isolatorsOpenReportRx
  | twinPeerWaitExpiry
  | twinReturn
  | twinHealthReport (self : Option Nat) (peer : Option Nat)
  | twinCounterClear
  | recordCommit (cycleRing : Bool) (readback : List Bool)
  | eventBlockClose
  | incidentFrameSample
  | preTriggerCopied
  | incidentFull
  | lifetimeCounterWrite
  | twinRecordRx (cycleRing : Bool) (body : List Byte)
  | recorderStatus (h : Hdr)
  | journalRead (h : Hdr) (ring first len : Nat)
  | incidentRead (h : Hdr) (part off len : Nat)
  | incidentTrigger (h : Hdr)
  | incidentRearm (h : Hdr) (no : Nat)
  | countersRead (h : Hdr) (len : Nat)
  | sentinelRead (h : Hdr) (len : Nat)
  | sentinelClear (h : Hdr)
  | attest (src : Src) (nonce : List Byte) (len : Nat)
  | certRead (src : Src) (len : Nat)
  | svcConnectionOpen (major minor : Nat) (prevMinor : Option Nat)
  | svcConnectionClose
  | svcNetworkFrame (icmp : Bool) (ip : Nat)
  | svcChallenge
  | svcAuthenticate (c : Cert) (nonce : Nat) (sig : List Byte)
  | authLockoutExpiry
  | checkValueConfirm (value : BitVec 64)
  | debugUnlock
  | debugLock
  | debugUnlockExpiry
  | updateHeader (hd : ImgHdr)
  | updateData (off : Nat) (data : List Byte) (readback : Bool)
  | updateVerify
  | updateActivate
  | updateConfirm
  | updateAbort
  | trialWindowExpiry
  | updateIdleTimeout
  | twinUpdateForwardRx (hd : ImgHdr) (rxAt : Nat)
  | powerFailRestart
  | peakReserveRecovered
  | safetyRailLoss
  | loopTest (side : Side)
  | loopTestTimeout (side : Side)
  | configurationFileLoad (f : ConfigFile)
  | powerStateChange (d3 : Bool)
  | canReceiveError (p : Nat) (e : RxErr)
  | ptpMessageSend (kind : Nat)
  | ptpDelayMessageRx (kind : Nat) (t : List Int)
  deriving DecidableEq, Repr

end Sys2Proof
end

