-- ==== Sys2Proof/Decode.lean ====
section
/-! DEFINITION. The command a word spells. The module has no instruction words: spec/opcode_table.json gives no
row any bits. -/
namespace Sys2Proof

/-- The table gives no row bits, so that no word spells a command. (Assumption 126 DESIGN CHOICE) -/
def decodeTableWord (_nbits _w : Nat) : Option Instr := none

end Sys2Proof
end

