-- ==== Sys2Proof/Config.lean ====
section
/-! DEFINITION. What the manual leaves open: free values with no body, so that every statement holds
whatever they are. notes/assumptions names each. -/
namespace Sys2Proof.Config

/-- The 64 payload bits of an event whose chapter lists only its items (R135, R544): code, items.
 (Assumption 8 DESIGN CHOICE) -/
opaque eventBits : Nat → List Int → BitVec 64

/-- Bus energy an axis drew over a portal cycle, in mJ (R523): no command carries the measurement.
 (Assumption 10 DESIGN CHOICE) -/
opaque axisEnergy : Nat → Nat

/-- Which of the nine values 119 to 127 the receive error counter takes after a frame received above 127
(R407: ISO 11898-1 leaves the choice). (Assumption 11 DESIGN CHOICE) -/
opaque recPick : Nat → Nat

/-- The watchdog token at a position of the 8-bit LFSR sequence (R371): the manual gives no polynomial and
no seed. (Assumption 12 DESIGN CHOICE) -/
opaque token : Nat → Nat

/-- The configuration word at an address of a field die under given parameter values (R370): the manual gives the words no
addresses and no layout. (Assumption 146 DESIGN CHOICE) -/
opaque cfgWord : Nat → Nat → List (Nat × Int) → BitVec 32

/-- The payload bytes of a fabric frame of a TYPE with given items (R437), where no rule lays them out: every frame but a
publication. (Assumption 147 DESIGN CHOICE) -/
opaque frameBody : Nat → List Int → List Byte

/-- The compliance ratio of PROBE_RESULT while the reference holds no compliance (R292: a division by 0).
 (Assumption 13 DESIGN CHOICE) -/
opaque probeRatio : Nat → Nat

/-- The onset of a zone in which the stiffness never exceeded twice its first value (R291 states none).
 (Assumption 13 DESIGN CHOICE) -/
opaque onsetUnseen : Nat → Int

/-- CRC-32 of the Bore configuration image that holds given values (R349): the manual gives the image no
layout. (Assumption 14 DESIGN CHOICE) -/
opaque boreCrc : List Int → BitVec 32

/-- SHAKE256 of bytes with an output length in bytes (R347, R554, R555), which FIPS 202 defines and the
manual does not. (Assumption 15 DESIGN CHOICE) -/
opaque shake256 : List Byte → Nat → List Byte

/-- The n-th nonce the module issues (R550). (Assumption 15 DESIGN CHOICE) -/
opaque nonce : Nat → Nat

/-- SLH-DSA verification (FIPS 205): context string number (1 image, 2 certificate, 3 attestation, 4 service
authentication), public key, message, signature. (Assumption 15 DESIGN CHOICE) -/
opaque slhVerify : Nat → List Byte → List Byte → List Byte → Bool

/-- The SLH-DSA signature of the sealed identity key over an attestation body (R545, R547).
 (Assumption 15 DESIGN CHOICE) -/
opaque slhSign : List Byte → List Byte

/-- The certificate store, written at the factory (R546): the identity certificate, the four Sarmuob root
keys, and the four firmware keys. (Assumption 15 DESIGN CHOICE) -/
opaque identityCert : List Byte
/-- (Assumption 15 DESIGN CHOICE) -/
opaque rootKey : Nat → List Byte
/-- (Assumption 15 DESIGN CHOICE) -/
opaque firmwareKey : Nat → List Byte

/-- Whether the twin takes the header that the holder of an update session passes on (R569): its own check, by what
it holds. (Assumption 130 DEDUCED) -/
opaque twinTakes : Nat → Bool

/-- How many of the changed transaction contexts the n-th mirror frame has room for beside the first, in its 7.5 KB
(R495): the size of a context in a frame is not stated. (Assumption 111 DEDUCED) -/
opaque mirrorFits : Nat → Nat

/-- Whether SRST_N is low when the module restarts after POWER_FAIL (R61, R98). (Assumption 152 DESIGN CHOICE) -/
opaque srstLow : Nat → Bool

/-- Whether the recorder's memory test of a ring at a start reads back (R538). (Assumption 149 DESIGN CHOICE) -/
opaque recTestOk : Nat → Bool

/-- Units of the frozen pre-trigger buffer copied in a millisecond beyond the 63 of 2 MB/s (R531).
 (Assumption 149 DESIGN CHOICE) -/
opaque copyMore : Nat → Nat

end Sys2Proof.Config
end

