-- ==== Sys2Proof/Machine/State.lean ====
section
/-! DEFINITION. The state of the Ovlos DS16: plain data, one structure per chapter of the manual, the
two reasons a step can stop, and the state after reset. INVENTORY.md lists every field with its rule
and its reset value; notes/assumptions holds the values the manual does not give. -/
namespace Sys2Proof.Machine

/-- The order code (R1). -/
inductive Part where
  | A
  | B
  deriving DecidableEq, Repr

/-- The fixed properties of one module (R119). (Assumption 3 DESIGN CHOICE) -/
structure Ident where
  part : Part := .A
  hwRev : Nat := 3
  /-- 64-bit serial number -/
  serial : Nat := 0
  deriving DecidableEq, Repr

/-- The twelve operating modes (R79), in the order of their numbers 1 to 12. -/
inductive Mode where
  | assembly
  | commission
  | service
  | dormant
  | starting
  | shadow
  | activeClosed
  | activeReleased
  | degraded
  | safeHold
  | updatePause
  | egress
  deriving DecidableEq, Repr

/-- The two sides, in one pair. -/
structure LR (α : Type) where
  L : α
  R : α
  deriving DecidableEq, Repr

/-- An event as raised: code, source, fabric time in ns, R_RAW, and its payload items in the order
its chapter lists them (R9, R135). (Assumption 8 DESIGN CHOICE) -/
structure Ev where
  code : Nat
  src : Nat
  time : Int
  raw : Nat
  pay : List Int
  /-- the module's lifetime event count at it (R526) -/
  no : Nat
  deriving DecidableEq, Repr

/-! ## 01 Module architecture, clocks and the breath budget -/

/-- The breath-budget governor (R28 to R34, R145). A pair is (SRAM, Reed); lists run over classes 1
to 8. -/
structure Gov where
  staged : List (Nat × Nat)
  pendingSet : Option (List (Nat × Nat))
  active : List (Nat × Nat)
  lastRejected : Bool
  /-- R_RAW of the last APPLY write -/
  applyAt : Nat
  overrun : List Nat
  suspended : List Bool
  overshoot : List (Nat × Nat)
  left : List (Nat × Nat)
  /-- R_RAW of the last BUDGET_OVERRUN of each class -/
  lastReport : List (Option Nat)
  sinceReport : List Nat
  /-- R_RAW of the last period boundary decided -/
  lastBoundary : Nat
  deriving DecidableEq, Repr

/-- Clock monitors (R20, R21, R23, R146) and the SRAM counter (R37). -/
structure Clk where
  pllLock : Bool
  memsOk : Bool
  crosscheckOk : Bool
  boreClockOk : Bool
  markerTicks : Nat
  ceCount : Nat
  /-- regions outside the safety functions with an uncorrectable error since the start (R37) -/
  ueRegions : List Region
  scrubs : Nat
  deriving DecidableEq, Repr

/-! ## 02 Supply and thermal -/

inductive SupSt where
  | normal
  | sag
  | interrupted
  deriving DecidableEq, Repr

/-- Supply and thermal state (R53 to R78, R576, R577). -/
structure Sup where
  st : SupSt
  /-- V_BUS in 0.1 V -/
  vbus : Nat
  /-- baseplate temperature in 0.1 degC -/
  tbp : Int
  band : Nat
  /-- k(T) in 1/10,000 -/
  kT : Nat
  /-- peak energy reserve in 0.1 uJ: 1 mW over one tick -/
  reserve : Int
  reserveEmpty : Bool
  limitActive : Bool
  lowerings : Nat
  /-- R_RAW of the last lowering or of the limit's start -/
  lowerAt : Nat
  regenClamp : Bool
  overvoltage : Bool
  /-- R_RAW at which Normal was left -/
  leftNormal : Nat
  /-- R_RAW at which Interrupted began -/
  intStart : Nat
  powerFail : Bool
  /-- R_RAW at which POWER_FAIL was declared -/
  failAt : Nat
  svc24 : Bool
  svcThrough : Bool
  serviceOnly : Bool
  holdupLow : Bool
  powered : Bool
  dcLinkDown : Bool
  encLimited : Bool × Bool
  /-- bus power of the last tick in W -/
  power : Nat
  deriving DecidableEq, Repr

/-! ## 03 Modes, starts, service reset -/

/-- Mode triggers that are pending for the next budget period boundary (R84). -/
inductive Trig where
  | safeHold (cause : Nat)
  | egress
  | degraded
  | switchOver
  | dormantWake (src : Nat)
  | request (target : Mode) (hdr : Option Hdr)
  | released
  | unreleased
  | shadow
  | confirmed
  | updatePause
  deriving DecidableEq, Repr

structure ModeSt where
  mode : Mode
  prev : Mode
  /-- the mode before the reset or power loss, kept in MRAM (R83) -/
  resume : Mode
  dormantFrom : Mode
  /-- the wake source recognised in DORMANT: every input is sampled at full rate again (R103) -/
  wake : Option WakeSource
  trigs : List Trig
  evacHost : Bool
  /-- the last evaluation of the three evacuation sources: host, fabric point, input pair (R85) -/
  evac : List Bool
  safeHoldLatched : Bool
  safeHoldCause : Option Nat
  deriving DecidableEq, Repr

/-- Start sequencing (R86 to R95). -/
structure StartSt where
  cold : Bool
  /-- step now running, 1 to 12; 13 when all have passed; 0 when no start runs -/
  step : Nat
  cause : Option ResetCause
  failed : Option (Nat × Nat)
  enteredAt : Nat
  /-- R_RAW at which the running step began (R86) -/
  stepAt : Nat
  leftAt : Option Nat
  /-- R_RAW stamps of the failures (MRAM) -/
  history : List Nat
  autoAt : Option Nat
  /-- control die held in reset -/
  inReset : Bool
  /-- axes whose homing of step 12 has not begun (R86, R224) -/
  homes : List Nat
  loopsHeld : Bool × Bool
  holdUntil : Option Nat
  proofPending : Bool × Bool
  /-- the Bore channel's cached image digest (R86 step 7) -/
  boreHash : Option (BitVec 512)
  deriving DecidableEq, Repr

/-- Service reset input (R96 to R98). -/
structure Srst where
  pressedAt : Option Nat
  /-- a press is recognised only after 20 ms high -/
  needHigh : Bool
  stuck : Bool
  atPowerup : Bool
  deriving DecidableEq, Repr

/-- Observation mux (R105). -/
structure Obs where
  sel : List Nat
  en : List Bool
  deriving DecidableEq, Repr

/-! ## 04 Host interface -/

/-- A command's answer before it is written: status, 64-bit result, DETAIL, EXTRA, and the bytes
written to the host buffer (R131, R133). -/
structure Reply where
  status : Nat
  res : Nat := 0
  detail : Nat := 0
  extra : Nat := 0
  buf : List Byte := []
  /-- the instant, when it is not the present fabric time -/
  at? : Option Int := none
  deriving DecidableEq, Repr

/-- A completion (R131). `delivered` is false when the ring was not active or the link was down, so
that nothing was written to the host (R113, R126). -/
structure Cpl where
  ring : Nat
  idx : Nat
  tag : Nat
  irq : Bool
  status : Nat
  res : Nat
  detail : Nat
  extra : Nat
  time : Int
  buf : List Byte
  final : Bool
  phase : Bool
  slot : Nat
  delivered : Bool
  deriving DecidableEq, Repr

/-- A fetched descriptor without its final completion written (R134): its free-running index, the copy of its 16 words
(R128, R129), whether its command has begun to execute, and a completion that waits for descriptor order (R133). -/
structure Fetched where
  idx : Nat
  words : List Nat
  begun : Bool
  done : Option Cpl
  deriving DecidableEq, Repr

/-- What the host sets in the endpoint's configuration space (R111): payload and read request sizes in bytes, ASPM L1,
ECRC generation and checking. -/
structure Pci where
  maxPayload : Nat
  maxRead : Nat
  aspmL1 : Bool
  ecrcGen : Bool
  ecrcCheck : Bool
  deriving DecidableEq, Repr

/-- One of the 32 rings (R124 to R128, R132, R136, R144). -/
structure Ring where
  base : Nat
  cplBase : Nat
  enable : Bool
  eventKind : Bool
  prio : Nat
  coalCount : Nat
  vector : Nat
  log2 : Nat
  evtMask : Nat
  active : Bool
  halted : Bool
  haltCause : Nat
  modIdx : Nat
  cplIdx : Nat
  coalUs : Nat
  hostIdx : Nat
  cplCons : Nat
  fetched : List Fetched
  /-- entries written since the vector was last raised, and R_RAW of the oldest -/
  count : Nat
  since : Option Nat
  ringSeq : Nat
  lost : Bool
  deriving DecidableEq, Repr

/-- An event record as written to an event ring (R135). -/
structure EvRec where
  ring : Nat
  slot : Nat
  phase : Bool
  lost : Bool
  seq : Nat
  ev : Ev
  deriving DecidableEq, Repr

/-- A vector's MSI-X entry (R143). -/
structure Msix where
  addrLo : Nat
  addrHi : Nat
  data : Nat
  mask : Bool
  pending : Bool
  deriving DecidableEq, Repr

/-- What a long operation does (R139). -/
inductive LongKind where
  | home (inst : Nat) (portal : Bool)
  | learn (p : Nat)
  | discover
  | checkValue
  | restoreFactory
  | journalRead (ring first len : Nat)
  | attest (body : List Byte)
  | updateVerify
  /-- the two signatures of SVC_AUTHENTICATE (R550); whether its nonce was issued on the connection and not used -/
  | auth (c : Cert) (nonce : Nat) (fresh : Bool) (sig : List Byte)
  deriving DecidableEq, Repr

/-- A running long operation; `hdr` is none for a service-port command. -/
structure LongOp where
  hdr : Option Hdr
  kind : LongKind
  steps : Nat
  est : Nat
  /-- a registered cancel with its DETAIL -/
  cancel : Option Nat
  lastProg : Option Nat
  skipped : Bool
  /-- records of a JOURNAL_READ whose copying class 7 has been charged for (R26, R536) -/
  moved : Nat
  /-- number of the module's step at which it last had its turn, or began (R140) -/
  turn : Nat
  deriving DecidableEq, Repr

structure HostSt where
  linkUp : Bool
  width : Nat
  speed : Nat
  d3 : Bool
  pci : Pci
  verReq : Nat × Nat
  /-- negotiated versions of protocols 0 to 5 (R119 to R123) -/
  neg : List (Option (Nat × Nat))
  rings : List Ring
  msix : List Msix
  /-- per PRIO, the ring after the last one served: round robin within a priority (R137) -/
  rr : List Nat
  /-- descriptors fetched before a host-link reset, with their rings: they run to their end, their completions are
  discarded (R113) -/
  gone : List (Nat × Fetched)
  /-- vectors whose messages were sent -/
  msgs : List Nat
  cpls : List Cpl
  evrecs : List EvRec
  ops : List LongOp
  /-- steps of long operations so far, which order their turns (R140) -/
  stepNo : Nat
  /-- latches of R147 -/
  timeSec : Nat
  rawHi : Nat
  offHi : Nat
  cap : Int
  /-- health summary (R148) -/
  faultBits : Nat
  regLocked : Nat
  heartbeat : Nat
  wdogMs : Nat
  wdogSince : Nat
  silentDone : Bool
  irqEn : Bool
  irqVec : Nat
  deriving DecidableEq, Repr

/-! ## 15 Recorder -/

/-- One role block of a cycle record (R523). -/
structure RoleBlk where
  endPos : Int
  closeMs : Nat
  openMs : Nat
  peakFClose : Int
  peakFOpen : Int
  peakErr : Nat
  peakRms : Nat
  energy : Nat
  moves : Nat
  flags : Nat
  peakBin : Nat
  deriving DecidableEq, Repr

/-- A cycle record's content (R522). -/
structure CycRec where
  start : Int
  stop : Int
  modeStart : Nat
  modeEnd : Nat
  endState : Nat
  reversals : Nat
  obstacle : Nat
  probe : Nat
  probeRatio : Nat
  onsetShift : Int
  lockConfirm : Nat
  stepConfirm : Nat
  warning : Nat
  opens : Nat
  relCoord : Nat
  relSerial : Nat
  roles : List RoleBlk
  relLate : Nat
  firstFault : Nat
  busMin : Nat
  tempMax : Int
  cycles : Nat
  check : BitVec 64
  user : List Int
  fw : Nat
  deriving DecidableEq, Repr

inductive JBody where
  | cycle (c : CycRec)
  | block (dropped : Nat) (evs : List Ev)
  | bytes (b : List Byte)
  deriving DecidableEq, Repr

/-- A journal record (R520); `seq` is set at its commit. -/
structure JRec where
  seq : Nat
  type : Nat
  source : Nat
  flags : Nat
  raw : Nat
  body : JBody
  deriving DecidableEq, Repr

/-- A journal ring (R517, R519); `recs` holds the committed records still in it, oldest first. -/
structure JRing where
  head : Nat
  floor : Nat
  stored : Nat
  recs : List JRec
  deriving DecidableEq, Repr

/-- An entry of the incident buffers: an event (one unit) or a frame of 72 words (nine units) (R529). -/
inductive IEnt where
  | ev (e : Ev)
  | frame (time : Int) (words : List Nat)
  deriving DecidableEq, Repr

inductive IncSt where
  | armed
  | recording
  | full
  | off
  deriving DecidableEq, Repr

structure Inc where
  st : IncSt
  no : Nat
  endCause : Nat
  trigCode : Nat
  trigTime : Int
  preLen : Nat
  preCopied : Nat
  postLen : Nat
  missed : Nat
  gapMs : Nat
  cycSeq : Nat
  evSeq : Nat
  lastMissEv : Option Nat
  /-- SRAM pre-trigger ring, oldest first -/
  pre : List IEnt
  /-- its copy while frozen (RECORDING before PRE_TRIGGER_COPIED) -/
  copying : Bool
  /-- MRAM pre-trigger and post-trigger parts -/
  preMram : List IEnt
  post : List IEnt
  stage : List IEnt
  frameNo : Nat
  /-- the header's two copies, the older first, as the numbers of R532 before its CRC -/
  hdrs : List Int × List Int
  deriving DecidableEq, Repr

structure RecSt where
  cyc : JRing
  evr : JRing
  /-- the open event block and R_RAW of its first event -/
  blk : List Ev
  blkAt : Nat
  dropped : Nat
  staged : List JRec
  memFault : Bool
  life : List Nat
  lifeAt : Nat
  /-- the two written copies of the counters, each with its sequence number (R527) -/
  lifeNv : (Nat × List Nat) × (Nat × List Nat)
  evCount : Nat
  inc : Inc
  sentinel : List Ev
  sentinelFull : Bool
  /-- Bore events raised during a control-die reset (R525) -/
  boreQ : List Ev
  /-- the frame words sampled at the last profile tick (R529) -/
  tickFrame : List Nat
  lastFrameMs : Int
  /-- records sent to the twin while the recorder memory is faulty (R540) -/
  toTwin : List JRec
  /-- every event raised, oldest first -/
  log : List Ev
  deriving DecidableEq, Repr

/-! ## 05 Axis drive and 06 Motion

Positions of a plan are in 2^-16 microstep, speeds, accelerations and jerks in 2^-16 microstep per s,
per s^2, per s^3; plan times in 2^-16 MOT tick. -/

/-- One phase chopper (R164 to R178). -/
structure Phase where
  /-- set-point S and that of the previous cycle -/
  sp : Int
  prevSp : Int
  /-- average current in mA -/
  ma : Int
  /-- rms^2 estimate in 2^-16 mA^2 (R166) -/
  rms2 : Nat
  /-- fast-decay sixteenths of the running off-phase (R169) -/
  decay : Nat
  /-- chopper parameters the running cycle uses: T_OFF, T_BLANK, EMBOUCHURE, CHOP_FLOOR (R174) -/
  tOff : Nat
  tBlank : Nat
  floorHz : Nat
  /-- begin (R_RAW) and length of the running cycle, and the length of its on-phase, in MOT ticks (R168) -/
  at_ : Nat
  cycle : Nat
  on_ : Nat
  /-- correction of the comparator threshold and half the ripple of the last 25 us, in mA (R176) -/
  trim : Int
  half : Nat
  floorEnds : Nat
  floorTotal : Nat
  deriving DecidableEq, Repr

/-- What the bridge of a phase does (R168, R172). -/
inductive Bridge where
  | off
  | drive (positive : Bool)
  | fastDecay
  | slowDecay
  deriving DecidableEq, Repr

/-- The decoder of a quadrature input (R181): the filtered levels, for how many MOT ticks a new level of each signal
has held, and the signed count. -/
structure Quad where
  a : Bool
  b : Bool
  heldA : Nat
  heldB : Nat
  n : Int
  deriving DecidableEq, Repr

inductive Iso where
  | opened
  | closing
  | closed
  | opening
  | failed
  deriving DecidableEq, Repr

/-- A user fingering table that was accepted (R160, R161): its words, CRC-32 and per-phase mean
square of the set-points (the square of the rms value). -/
structure FTab where
  valid : Bool
  words : List Nat
  crc : BitVec 32
  msA : Nat
  msB : Nat
  deriving DecidableEq, Repr

/-- One constant-jerk segment of a plan: its length, and its speed, acceleration and jerk at its start. -/
structure Seg where
  dur : Nat
  v : Int
  a : Int
  j : Int
  deriving DecidableEq, Repr

/-- The limits of a move (R208). -/
structure Lim where
  v : Nat
  a : Nat
  d : Nat
  j : Nat
  deriving DecidableEq, Repr

/-- Why a running plan stops (R217, R218, R236). -/
inductive StopWhy where
  | stopped
  | superseded
  | jogTimeout
  | endStop
  | fault (latch : Option Nat)
  | safeStop
  deriving DecidableEq, Repr

/-- Where a motion command came from: a ring, a transaction context with its commit instant, the
portal's own sequence table, or the module itself (homing, learn, templates). -/
inductive MSrc where
  | ring (h : Hdr)
  | txn (ctx : Nat) (own : Bool) (tag : Nat)
  | table (row act : Nat)
  | self
  deriving DecidableEq, Repr

/-- A move accepted but not started: its target in microsteps, limits, start instant (2^-16 ticks). -/
structure Pend where
  target : Int
  lim : Lim
  src : MSrc
  tag : Nat
  /-- the direction of a jog (R232) -/
  jog : Option Bool
  home : Bool
  deriving DecidableEq, Repr

/-- A running move or stop (R202, R209 to R222). -/
structure Move where
  start : Nat
  p0 : Int
  segs : List Seg
  /-- rest position of the plan in 2^-16 microstep -/
  rest : Int
  /-- the move's own target in microsteps -/
  target : Int
  lim : Lim
  src : MSrc
  tag : Nat
  jog : Option Bool
  home : Bool
  stop : Option StopWhy
  /-- REDIRECT move waiting for zero speed (R212) -/
  next : Option Pend
  /-- the plan overruns: the distance past the target is reported at rest (R221, R579) -/
  overrun : Bool
  /-- P_CMD becomes P_ENC at zero speed (R191) -/
  toEnc : Bool
  /-- the plan started from rest, not from the end of a REDIRECT stop (R273) -/
  fresh : Bool
  deriving DecidableEq, Repr

/-- What arrived for a generator since the last tick (R223), in execution order. -/
inductive Arr where
  | move (src : MSrc) (m : MoveArgs) (at? : Option Nat)
  | jog (h : Hdr) (pos redirect : Bool) (speed : Nat)
  | limits (src : MSrc) (l : LimitArgs)
  | stop (src : MSrc)
  /-- the DECEL of R283, in 2^-16 microstep per s^2 -/
  | react (d : Nat)
  deriving DecidableEq, Repr

inductive HomePh where
  | align
  | search
  | stopSwitch
  | away
  | awayMore
  | creep
  | creepIndex
  | confirm
  | backoff
  deriving DecidableEq, Repr

/-- A running homing sequence of one axis (R224 to R230). -/
structure HomeRun where
  method : Nat
  ph : HomePh
  /-- the move of this phase has been issued -/
  go : Bool
  begun : Nat
  deadline : Option Nat
  stopTicks : Nat
  /-- direction of the search, 1 or -1 -/
  dir : Int
  /-- filter-decision instant of the switch, and P_ENC of the last tick -/
  stamp : Option Nat
  prevEnc : Int
  ref : Option Int
  /-- the reference in um, once fixed -/
  refUm : Int
  atStart : Bool
  deriving DecidableEq, Repr

structure Axis where
  pcmd : Int
  pcmdPrev : Int
  quad : Quad
  /-- the count at the last tick and at the last 25 us update, each with its instant in R_RAW (R181) -/
  count : Int
  countAt : Nat
  loopCount : Int
  loopAt : Nat
  shadow : Int
  shadowDisc : Bool
  zRef : Int
  homeRef : Int
  posOrigin : Int
  /-- last valid P_ENC while the encoder is faulty (R189) -/
  frozen : Option Int
  align : Bool
  openLoop : Bool
  lead : Int
  addr : Nat
  amp : Nat
  ampCeil : Nat
  rmsCap : Bool
  derated : Bool
  /-- R_RAW since which the axis rests; none while moving -/
  restAt : Option Nat
  /-- R_RAW at which the hold ramp began and the amplitude it began at (R165) -/
  ramp : Option (Nat × Nat)
  A : Phase
  B : Phase
  notReachedAt : Option Nat
  torque : Bool
  gateOff : Bool
  iso : Iso
  /-- the voltages of the four phase wires in V, as last measured (R179) -/
  wires : List Nat
  fault : Option Nat
  /-- causes that came while a latch stood, and latches that wait for rest (R178, R189, R193) -/
  faults : List Nat
  owed : List Nat
  encBad : Bool
  encBadAt : Nat
  illegal : List Nat
  overspeed : List Nat
  nIllegal : Nat
  nOverspeed : Nat
  nSsi : Nat
  ssiErrs : Nat
  /-- last SSI position field in both channels, and the position change over one period -/
  ssiLast : Option Nat
  ssiLastB : Option Nat
  ssiDelta : Int
  ssiAt : Nat
  idxCap : Option (Int × Nat)
  idxDir : Int
  idxBad : Nat
  /-- R_RAW of the last ENC_INDEX_MISMATCH (R341) -/
  idxBadAt : Option Nat
  cross : Nat
  stallTicks : Nat
  stallHeld : Bool
  lost : Bool
  /-- user tables 1 to 7 -/
  tabs : List (Option FTab)
  fellBack : Bool
  mv : Option Move
  arr : List Arr
  /-- torque was removed since the last tick (R223) -/
  cut : Bool
  /-- a fault or Safe Stop that waits for the next tick (R223) -/
  fstop : Option StopWhy
  /-- position and speed of the plan at the last tick -/
  pos : Int
  vel : Int
  coast : Bool
  inPosSince : Option Nat
  inPos : Bool
  inPosRaised : Bool
  lastTag : Nat
  referenced : Bool
  home : Option HomeRun
  jogDir : Option Bool
  jogAt : Nat
  /-- temporary speed limit of R216 in 2^-16 microstep/s, and the one the running plan honours -/
  tempLimit : Option Nat
  tempIn : Option Nat
  testUntil : Option (Hdr × Nat)
  /-- tick value of I_Q in mA and samples of the tick (R265) -/
  iq : Int
  iqSum : Int
  iqN : Nat
  /-- R_RAW of the next 25 us update -/
  curAt : Nat
  /-- ticks with torque and microsteps travelled, not yet in the lifetime counters (R527) -/
  onTicks : Nat
  dist : Nat
  deriving DecidableEq, Repr

/-! ## 07 Portals and 08 Obstacle detection -/

/-- A portal timer (R247). -/
inductive Tmr where
  | idle
  | running (until_ : Nat)
  | expired
  deriving DecidableEq, Repr

/-- One role over a portal cycle (R523), before it is closed. -/
structure RoleAcc where
  closeTicks : Nat
  openTicks : Nat
  peakFClose : Int
  peakFOpen : Int
  peakBin : Nat
  peakErr : Nat
  peakRms : Nat
  moves : Nat
  flags : Nat
  deriving DecidableEq, Repr

/-- The portal cycle in progress (R243, R521 to R524): what its record needs. -/
structure CycAcc where
  start : Int
  startRaw : Nat
  modeStart : Nat
  flags : Nat
  obstacle : Nat
  probe : Nat
  probeRatio : Nat
  onsetShift : Int
  lockAt : Option Nat
  lockConfirm : Option Nat
  stepAt : Option Nat
  stepConfirm : Option Nat
  warnAt : Option Nat
  warning : Option Nat
  opens : Nat
  relCoord : Nat
  relSerial : Nat
  relLate : Nat
  firstFault : Nat
  busMin : Nat
  tempMax : Int
  reversals : Nat
  roles : List RoleAcc
  /-- conditions of R272 that failed, by number -/
  learnFail : List Nat
  /-- bin samples (leaf role, closing, bin, sum in 0.1 N, ticks) (R273) -/
  bins : List (Nat × Bool × Nat × Int × Nat)
  deriving DecidableEq, Repr

structure Portal where
  /-- state code of R149; 0xFF when not configured -/
  state : Nat
  stepState : Nat
  stepBlocked : Bool
  timers : List Tmr
  /-- 64 rows of 16 words -/
  table : List (List Nat)
  held : Option (List (List Nat))
  armed : List Bool
  /-- points sampled at step 3 of R244 -/
  pts : List Int
  /-- values of the CHANGED points at the previous evaluation (module or 512 for this one, point) -/
  prev : Option (List (Nat × Nat × Int))
  openReq : Bool
  openPress : Nat
  closePress : Nat
  lastPress : Option Int
  reversals : Nat
  txnOutcome : Nat
  faultCause : Nat
  user : List Int
  /-- isolated by the DEGRADED limit (R345) -/
  isolDeg : Bool
  cyc : Option CycAcc
  /-- lock axis at POS0 or POS1 contradicting LOCK_PAIR, since R_RAW (R252 rule 5) -/
  lockWatch : Option (Nat × Nat)
  /-- step move end awaiting confirmation: target index and R_RAW of the plan's end (R254) -/
  stepWatch : Option (Nat × Nat)
  obstacle : Nat
  obstReact : Nat
  /-- leaves whose detection waits for its first publication (R285) -/
  fresh : List Nat
  probe : Nat
  /-- a fired MOVE did not start at this boundary (R250) -/
  refused : Bool
  deriving DecidableEq, Repr

/-- A side's release (R256 to R258, R335). -/
structure SideSt where
  grant : Bool
  released : Bool
  ctx : Nat
  coord : Nat
  serial : Nat
  late : Nat
  deriving DecidableEq, Repr

/-- Learned profile with its probe reference (R268, R269); bins not listed were never written. A bin is
CLOSE_MEAN, CLOSE_SPREAD, OPEN_MEAN, OPEN_SPREAD in 0.1 N. -/
structure Prof where
  valid : Bool
  bins : List (Nat × List Int)
  compliance : Nat
  onset : Int
  cycles : Nat
  deriving DecidableEq, Repr

inductive ProbeSt where
  | idle
  | zone
  | dwell (until_ : Nat)
  | clear
  | trapped
  deriving DecidableEq, Repr

/-- Obstacle supervision of one axis (R265 to R294). -/
structure Obst where
  prof : Prof
  loading : Bool
  changed : Bool
  /-- F_EST of the tick in 0.1 N, none while invalid (R267) -/
  fEst : Option Int
  dir : Int
  acc : Int
  /-- start of the leaf's last plan in 2^-16 tick, unaffected by a change or a stop (R273, R275) -/
  planAt : Nat
  forceCnt : Nat
  absCnt : Nat
  openCnt : Nat
  growCnt : Nat
  /-- error e in um of the last 50 ticks, newest first -/
  errs : List Int
  /-- AMP cap of R284 and whether the relief cap of R287 stands -/
  cap : Option Nat
  relief : Bool
  probe : ProbeSt
  compliance : Nat
  onset : Int
  /-- R_RAW at which the probe's dither began -/
  ditherAt : Option Nat
  deriving DecidableEq, Repr

/-- A sensitive edge (R278 to R280). -/
structure Edge where
  ohm : Nat
  filt : Nat
  pressed : Bool
  openCnt : Nat
  pressedAt : Option Nat
  fault : Option Nat
  /-- further causes that came while the fault stood -/
  more : List Nat
  clearAt : Option Nat
  /-- R_RAW at which a pressure-wave test began, at which its switch first read pressed, and first released after the
  pulse (R280) -/
  test : Option Nat
  testPress : Option Nat
  testFree : Option Nat
  /-- portal cycles since a passed pressure-wave test, and whether one passed since the fault -/
  sincePass : Nat
  passed : Bool
  /-- a filtered press waiting for the tick boundary -/
  newPress : Bool
  deriving DecidableEq, Repr

inductive LearnPh where
  | unlock
  | opening
  | warning (until_ : Nat)
  | closing
  | dwell
  | locking
  | confirm (deadline : Nat)
  | write
  deriving DecidableEq, Repr

/-- A running learn run (R270). -/
structure Learn where
  p : Nat
  hdr : Option Hdr
  ph : LearnPh
  cycle : Nat
  /-- (leaf role, closing, bin, one cycle sample each) -/
  samples : List (Nat × Bool × Nat × List Int)
  cur : List (Nat × Bool × Nat × Int × Nat)
  /-- dwell results per leaf role: compliance, onset -/
  dwells : List (Nat × Nat × Int)
  failed : Option Nat
  deriving DecidableEq, Repr

structure ObSt where
  ax : List Obst
  edges : List Edge
  learn : List Learn
  /-- MRAM copies of the profiles, sequence number, R_RAW of the last save -/
  saved : List Prof
  savedSeq : Nat
  savedAt : Nat
  /-- saves that wait while class 8 is suspended (R29, R274): the event's source, the command to complete -/
  saves : List (Nat × Option Hdr)
  /-- portal cycles whose learning waits while class 3 is suspended (R289) -/
  waits : List (Nat × CycAcc)
  deriving DecidableEq, Repr

/-! ## 09 Safety functions -/

/-- A safety pair as both channels read it (R308 to R312): 0 inactive, 1 active, 2 latched discrepant,
3 disagreeing. -/
structure Pair where
  reed : Nat
  bore : Nat
  /-- filtered states of inputs a and b at the last agreed reading since the start -/
  agreed : Option (Bool × Bool)
  cnt : Nat
  latched : Bool
  deriving DecidableEq, Repr

/-- STO of one portal group (R313, R314); a demand is a cause of R357. -/
structure Sto where
  reed : List Nat
  bore : List Nat
  applied : Bool
  /-- R_RAW at which the supply was commanded back, while it is not yet read back -/
  restoring : Option Nat
  deriving DecidableEq, Repr

/-- Monitoring of one axis against the Safe Stop envelope (R316 to R319); speeds in um/s. -/
structure Mon where
  safe : Bool
  t0 : Nat
  v0R : Int
  v0B : Option Int
  overR : Nat
  overB : Nat
  deriving DecidableEq, Repr

/-- Safety data of one axis: counts of the last 11 ticks in both channels (newest first), the rest
window of R314, the monitor, and |I| of both channels (R322, R324). -/
structure SafAx where
  hist : List Int
  histB : List Int
  stillRef : Int
  stillAt : Nat
  mon : Option Mon
  /-- R_RAW since which the axis measures below standstill in both channels (R318) -/
  standAt : Option Nat
  magR : Nat
  magB : Nat
  deriving DecidableEq, Repr

/-- An interlock loop (R304, R306, R326, R328, R80). -/
structure Loop where
  reed : Bool
  bore : Bool
  subst : Bool
  /-- R_RAW since which every portal of the side contributes, per channel -/
  sinceR : Option Nat
  sinceB : Option Nat
  trips : List Nat
  latched : Bool
  retryAt : Option Nat
  volt : Nat
  /-- loop voltage is present on LOOP_x_IN (R87) -/
  inV : Bool
  test : Option Nat
  deriving DecidableEq, Repr

/-- Off-pulse sequencer (R330 to R333): the next switch (0 Reed, 1 Bore), the running pulse, the
suspension cause, failures in a row per side and switch. -/
structure OffP where
  next : Nat
  running : Option Nat
  /-- R_RAW of the last pulse instant; a control-die reset goes on from it (R15) -/
  lastAt : Nat
  /-- the Reed and the Bore switch the running pulse holds open on the pulsed loops (R330, R333) -/
  opened : Bool × Bool
  judged : Bool × Bool
  susp : Option Nat
  suspAt : Nat
  fails : List Nat
  deriving DecidableEq, Repr

/-- Release enables of a side (R335, R337). -/
structure Rel where
  reed : Bool
  bore : Bool
  diffAt : Option Nat
  deriving DecidableEq, Repr

structure Safety where
  reedLost : Option Nat
  boreLost : Option Nat
  /-- views lost: channel (false Reed, true Bore) and sensor -/
  views : List (Bool × Nat)
  halted : Option Nat
  single : Bool
  /-- exchanges in a row with a difference, per item of R307 -/
  diff : List Nat
  pairs : List Pair
  sto : List Sto
  ax : List SafAx
  /-- a Safe Stop runs on the group -/
  ss : List Bool
  loops : LR Loop
  off : OffP
  rel : LR Rel
  /-- per portal: a lock-zone exit was already reported; shadow count at the fall of zero speed -/
  lockOut : List Bool
  stepRef : List (Option Int)
  /-- accumulated degraded time in MOT ticks, R_RAW up to which it is counted, the flags of R345, and
  the seconds and R_RAW of the last MRAM write -/
  deg : Nat
  degAt : Nat
  near : Bool
  reached : Bool
  degMram : Nat
  degMramAt : Nat
  /-- CRC-32 of the Bore image received and the one stored at confirmation (R349) -/
  boreCrc : Option (BitVec 32)
  boreCrcStored : Option (BitVec 32)
  deriving DecidableEq, Repr

/-! ## 10 Field inputs and load switches -/

/-- A digital input (R361 to R368). -/
structure Di where
  raw : Bool
  /-- the last sample that was not a test sample -/
  last : Bool
  cnt : Nat
  filt : Bool
  /-- R_RAW of the last filter decision -/
  stamp : Nat
  fails : Nat
  passes : Nat
  testFailed : Bool
  /-- R_RAW of the raw transitions in the window of R363 -/
  trans : List Nat
  chatter : Bool
  activeAt : Option Nat
  suspect : Bool
  deriving DecidableEq, Repr

/-- A field die and its link (R369 to R373, R580). -/
structure Die where
  seq : Nat
  sampleIdx : Nat
  rawNew : Nat
  rawPrev : Nat
  testFlags : Nat
  lsOut : Nat
  lsFlags : Nat
  temp : Nat
  /-- SEQ of the next downstream frame and the configuration word it carries (R370) -/
  downSeq : Nat
  cfgAddr : Nat
  upLost : Nat
  upGood : Nat
  stale : Bool
  staleAt : Nat
  echo : Nat
  /-- position in the token sequence of the last token sent, and the start it was seeded at -/
  tokPos : Nat
  lag : Nat
  downLost : Bool
  downLostAt : Nat
  /-- the die's own watchdog fall-back: active, valid frames with RESUME since, R_RAW of the last valid
  frame -/
  wdog : Bool
  good : Nat
  lastDown : Nat
  resumes : Nat
  /-- FIELD_WATCHDOG_FAILSAFE has been raised for the standing fall-back -/
  wdogSeen : Bool
  /-- the logic side takes the die's channels to hold their fail-safe states (R580) -/
  fsTaken : Bool
  deriving DecidableEq, Repr

/-- A load-switch channel (R375 to R388). -/
structure Ls where
  /-- commanded state: 0 off, 1 on, 2 flashing -/
  cmd : Nat
  /-- the state the die holds: the last command that reached it -/
  dieCmd : Nat
  /-- fail-safe state in the die's register; none until the first write after power-on -/
  fs : Option Nat
  out : Bool
  onAt : Nat
  flashAt : Nat
  flashing : Bool
  timed : Option (Nat × Nat)
  /-- heating state in 2^-16 mA^2 -/
  x : Nat
  ma : Nat
  /-- 0 none, 1 limit, 2 fuse curve -/
  trip : Nat
  tripAt : Nat
  tripMa : Nat
  retries : Nat
  latch : Bool
  exhausted : Bool
  shed : Bool
  openLoad : Bool
  /-- the twin's current of the same channel (R388) -/
  twinMa : Nat
  /-- R_RAW of the last trip or turn-on, for the 60 s of R383 -/
  goodAt : Nat
  deriving DecidableEq, Repr

/-- A feed group (R379). -/
structure Grp where
  avg : Nat
  belowAt : Option Nat
  deriving DecidableEq, Repr

/-- A feed as one die measures it: FS1, FS2 on die A, FS2 on die B, FS3 (R386). -/
structure Feed where
  volt : Nat
  sag : Bool
  offAt : Nat
  absent : Bool
  deriving DecidableEq, Repr

structure IoSt where
  di : List Di
  die : List Die
  ls : List Ls
  grp : List Grp
  feed : List Feed
  /-- sampling windows since the start, for the test gaps and the wrapping index -/
  windows : Nat
  /-- R_RAW of the last window, and the fail-safe states stand by mode -/
  sampleAt : Nat
  fsMode : Bool
  /-- R_RAW of the last 1 ms current report -/
  reportAt : Nat
  /-- the sample instants in MOT ticks within the budget period (R359) -/
  phase : Nat
  deriving DecidableEq, Repr

/-! ## 11 CAN FD -/

/-- A frame waiting to be sent, with its attempts and its count of R408. -/
structure CanTx where
  ide : Bool
  fdf : Bool
  brs : Bool
  rtr : Bool
  ident : Nat
  dlc : Nat
  data : List Byte
  attempts : Nat
  coll : Nat
  deriving DecidableEq, Repr

/-- A message object in force (R411 to R414). -/
structure CanObj where
  valid : Bool
  send : Bool
  ide : Bool
  ident : Nat
  fdf : Bool
  brs : Bool
  addrEmbed : Bool
  mask : Nat
  period : Nat
  dlc : Nat
  /-- receive: the stored frame and its SOF time -/
  rx : Option (CanFrame × Int)
  new : Bool
  overrun : Bool
  /-- send: data loaded, pending frame, R_RAW of the next period -/
  data : Option (List Byte)
  pend : Option CanTx
  due : Option Nat
  deriving DecidableEq, Repr

/-- One port (R401); sources are 0 to 2, 0x80 + object, and 0x100 for the status frame. -/
structure CanPort where
  nbtp : Nat
  dbtp : Nat
  tdcr : Nat
  cfg : Nat
  errState : Nat
  recovering : Bool
  cfgRejected : Bool
  lec : Nat
  recErr : Nat
  tec : Nat
  txOk : Nat
  rxOk : Nat
  errors : Nat
  rxDropped : Nat
  collisions : Nat
  busOffs : Nat
  txb : List (Option CanTx)
  /-- the object table as written (512 words) and the objects in force -/
  tab : List Nat
  objs : List CanObj
  status : Option CanTx
  statusAt : Nat
  /-- running attempt: source, SOF fabric time, late cancel -/
  attempt : Option (Nat × Int × Option Hdr)
  disabling : Bool
  busOffAt : Nat
  deriving DecidableEq, Repr

/-! ## 12 Fabric time (the fabric's own state follows below) -/

inductive SyncSt where
  | freeRunning
  | acquiring
  | locked
  | holdover
  deriving DecidableEq, Repr

/-- The time unit (R443 to R449). -/
structure TimeSt where
  /-- OFFSET in ns and RATE in 2^-32 -/
  offset : Int
  rate : Int
  integral : Int
  sync : SyncSt
  /-- consecutive measurements within and outside the lock band -/
  good : Nat
  bad : Nat
  lastMsg : Nat
  holdSince : Nat
  gm : Option Nat
  self : Bool
  alone : Bool
  trusted : Bool
  jumps : Nat
  lastMeas : Int
  profile : Nat
  /-- peer or path delay in ns, and the time stamps of the request in progress -/
  delay : Int
  reqs : List Int
  sent : List (Nat × Int)
  deriving DecidableEq, Repr

/-- Something the module sent on a link: link (1 F1, 2 F2, 3 both, 4 ligature, 5 J15, 6 CAN0, 7 CAN1), TYPE or kind,
destination, fields. -/
structure Sent where
  link : Nat
  kind : Nat
  dest : Nat
  body : List Int
  /-- of a black-channel frame: EPOCH, SAFE_SEQ, TS_NS, TS_SEC_LO, and SAFE_CRC of the copy on F1 and of that on F2 -/
  trailer : List Nat
  deriving DecidableEq, Repr

/-- A fabric port (R422 to R424, R430, R452). -/
structure FabPort where
  up : Bool
  /-- negotiated version; none while the two sides share no major -/
  ver : Option (Nat × Nat)
  /-- the neighbour's version reported as incompatible on this link -/
  badVer : Option Nat
  neighSerial : Option Nat
  neighAddr : Option Nat
  lastHello : Nat
  /-- receive buffer, oldest first: PCP and length -/
  buf : List (Nat × Nat)
  rxFrames : Nat
  txFrames : Nat
  rxErrors : Nat
  downCount : Nat
  load : Nat
  deriving DecidableEq, Repr

/-- An unacknowledged session message. -/
structure SessMsg where
  seq : Nat
  data : List Byte
  sentAt : Nat
  retries : Nat
  hdr : Option Hdr
  deriving DecidableEq, Repr

/-- A session (R441). `opening` is the pending SESSION_OPEN. -/
structure Sess where
  used : Bool
  peer : Nat
  opening : Option Hdr
  tx : List SessMsg
  wait : List (List Byte × Hdr)
  nextSeq : Nat
  rxSeq : Nat
  rx : List (List Byte)
  rto : Nat
  retryMax : Nat
  deriving DecidableEq, Repr

/-- A received point of another module (R433). -/
structure ImgPt where
  mod : Nat
  pt : Nat
  value : Int
  time : Int
  /-- fabric time of the newest valid reception before `time` -/
  before : Option Int
  cls : Nat
  ok : Bool
  deriving DecidableEq, Repr

/-- A routing entry (R429). -/
structure Route where
  addr : Nat
  serial : Nat
  f2 : Bool
  hops : Nat
  deriving DecidableEq, Repr

structure FabSt where
  ports : List FabPort
  recs : List TopoRec
  /-- 0 idle, 1 running, 2 complete; R_RAW of the last change of the map -/
  disc : Nat
  changedAt : Nat
  /-- 0 none, 1 line, 2 ring -/
  topology : Nat
  count : Nat
  anchorSerial : Nat
  anchorSelf : Bool
  conflict : Bool
  addr : Option Nat
  routes : List Route
  drops : List Nat
  dropSec : List Nat
  dropAt : List (Option Nat)
  bcReject : Nat
  bcAt : List (Nat × Nat)
  /-- per TYPE: last SEQ and last SAFE_SEQ sent -/
  seqTx : List (Nat × Nat)
  safeTx : List (Nat × Nat)
  epoch : Nat
  /-- (origin, TYPE): last SEQs taken; last accepted EPOCH and SAFE_SEQ -/
  seen : List (Nat × Nat × Nat)
  safeAcc : List (Nat × Nat × Nat × Nat)
  image : List ImgPt
  host : List Int
  /-- POINT_WRITE values that wait for the next tick -/
  hostNext : List (Nat × Int)
  /-- publication table as written and in force -/
  pubTab : List Nat
  pub : List Nat
  /-- next sending instant of the three classes, in class periods -/
  pubNext : List Int
  /-- own points as of the last tick (R435) -/
  pubVals : List (Nat × Int)
  sess : List Sess
  dormantCmd : Bool
  sent : List Sent
  deriving DecidableEq, Repr

/-! ## 13 Transactions -/

/-- A resource that a final bundle locks (R465). -/
inductive Res where
  | axis (i : Nat)
  | portal (p : Nat)
  | side (s : Side)
  | ls (n : Nat)
  | point (n : Nat)
  deriving DecidableEq, Repr

/-- An outcome of R469: the status of TXN_RESULT, DETAIL, RESULT word 2, lateness in ns. -/
structure TxnOut where
  status : Nat
  detail : Nat
  result : Int
  late : Int
  deriving DecidableEq, Repr

/-- A transaction context (R457 to R486); `st` is the state code of R457. -/
structure Ctx where
  st : Nat
  reusable : Bool
  acts : List Action
  /-- the TAGs of the descriptors that staged them (R236) -/
  tags : List Nat
  fab : List FabAct
  /-- commit instant, vote deadline, query timeout: fabric time and spans in ns -/
  c : Int
  v : Int
  q : Int
  /-- coordinator of a fabric-wide transaction -/
  coord : Bool
  key : Option TxnKey
  /-- the address a participant votes under -/
  addr : Nat
  parts : List Nat
  votes : List (Nat × Bool × Nat)
  decision : Option Bool
  /-- R_RAW at which the twin's acknowledgement is overdue -/
  ackBy : Option Nat
  /-- final at K, and the order in which it became final or was committed -/
  final : Bool
  order : Nat
  /-- the portal whose table committed it -/
  table : Option Nat
  /-- R_RAW of a late application -/
  lateAt : Option Nat
  /-- fabric actions skipped at K with their statuses -/
  skips : List (Nat × Nat)
  queries : Nat
  out : Option TxnOut
  deriving DecidableEq, Repr

structure TxnSt where
  ctx : List Ctx
  serial : Nat
  /-- keys this module voted no on, with the reason -/
  noVotes : List (TxnKey × Nat)
  order : Nat
  /-- ring commands and table actions (portal, row, action) that wait on a locked resource (R465) -/
  held : List Instr
  heldActs : List (Nat × Nat × Nat)
  /-- contexts lost at the last reset, with their states, still to be reported (R480) -/
  lost : List (Nat × Nat)
  deriving DecidableEq, Repr

/-! ## 14 Twin operation -/

structure TwinSt where
  /-- TWIN_ROLE and TWIN_PEER_SERIAL are parameters; this is what the link has shown -/
  linkUp : Bool
  pairFormed : Bool
  /-- first failing condition of R487, 0 none -/
  pairFail : Nat
  peerSerial : Nat
  peerHello : Option PeerHello
  /-- the two lanes: up, R_RAW of the last heartbeat -/
  lanes : List (Bool × Nat)
  heart : Bool
  lastHeart : Nat
  peerMode : Nat
  /-- own R_RAW minus the peer's at the same instant (R491) -/
  mapOff : Int
  mirSeqTx : Nat
  /-- the transaction contexts as the newest frames carried them (R495) -/
  ctxSent : List Ctx
  /-- newest valid mirror frame and the own R_RAW of its tick -/
  mir : Option MirFrame
  mirAt : Nat
  late : Bool
  orphan : Bool
  /-- TWIN_SPLIT has been raised for the standing split -/
  split : Bool
  /-- no axis carries torque in the mirror: the takeover waits for TWIN_ORPHAN_TIMEOUT (R502) -/
  noTorque : Bool
  returnInhibit : Bool
  selfHealth : Nat
  peerHealth : Nat
  healthySince : Option Nat
  returns : Nat
  switchOvers : Nat
  laneLosses : Nat
  lateCount : Nat
  lastGap : Nat
  /-- R_RAW at which the running check of R502 ends -/
  checkAt : Option Nat
  /-- cause of a takeover that waits for its period boundary -/
  takeover : Option Nat
  /-- R_RAW at which the peer stopped driving, for the gap -/
  gapFrom : Nat
  /-- handover: instant H, cause of R503, this module gives up control -/
  handover : Option (Nat × Nat × Bool)
  /-- axes that resume at the first tick after closure (R504) -/
  resume : List Nat
  /-- isolators close once the report arrives, or at this R_RAW -/
  closeBy : Option Nat
  waitUntil : Option Nat
  /-- R_RAW of a takeover by this module; none when ACTIVE since its start -/
  tookAt : Option Nat
  /-- decisions the twin wrote (R473) -/
  decisions : List (TxnKey × Bool)
  deriving DecidableEq, Repr

/-! ## 16 Identity, attestation and update -/

/-- A firmware slot (R554, R571): 0 empty, 1 written, 2 verified, 3 invalid; its header, and the file
bytes from offset 1,024. -/
structure Slot where
  st : Nat
  hdr : Option ImgHdr
  content : List Byte
  deriving DecidableEq, Repr

/-- The boot pointer record in force (R556) and the three slots A, B, FACTORY. -/
structure Boot where
  seq : Nat
  current : Nat
  trial : Bool
  previous : Option Nat
  trialFails : Nat
  antiRollback : Nat
  curDigest : BitVec 512
  prevDigest : BitVec 512
  revoked : BitVec 4
  /-- the other copy of the record: the 160 bytes that the newest write left standing -/
  older : List Byte
  slots : List Slot
  deriving DecidableEq, Repr

structure SecSt where
  svcLink : Bool
  conn : Bool
  /-- the version exchange of the open connection: negotiated major and minor -/
  ver : Option (Nat × Nat)
  /-- numbers of the nonces issued on this connection and not used yet, and how many were ever issued -/
  nonces : List Nat
  nonceCtr : Nat
  roles : Option Nat
  timeUnchecked : Bool
  authFails : Nat
  consecFails : Nat
  lockUntil : Option Nat
  debugUntil : Option Nat
  debugCount : Nat
  reportCount : Nat
  /-- service responses, oldest first: code of the command, status, value -/
  resp : List (Nat × Nat × Int)
  deriving DecidableEq, Repr

/-- Update session and the running image (R560 to R571). -/
structure UpdSt where
  stage : Nat
  /-- 0 none, 1 own J15, 2 twin's J15 -/
  source : Nat
  acceptedAt : Nat
  pairSession : Bool
  target : Option Nat
  offset : Nat
  offsetMram : Nat
  fileLen : Nat
  stagedVersion : Nat
  lastStatus : Nat
  lastCmd : Nat
  windowEnd : Option Nat
  /-- a fallback waits for the conditions of R563 -/
  fallbackDue : Bool
  /-- UPDATE-PAUSE is entered at the next boundary, or after the handover -/
  pauseDue : Bool
  /-- the twin's part of an activation (R569): 0 none, 1 passed on, 2 the twin has left SHADOW for its own -/
  twinAct : Nat
  /-- FW_VERSION of the running image -/
  version : Nat
  slot : Nat
  trial : Bool
  deriving DecidableEq, Repr

/-- Parameter values by key (ID * 65,536 + INSTANCE); a key that is not listed stands at its default. -/
abbrev PStore := List (Nat × Int)

/-- Contents of one copy of the configuration area (R99): every parameter, the sequence tables, the user
fingering tables, the CAN object tables, the publication table and the check-value confirmation record. A copy's
SHAKE256 digest is that of its contents: its validity flag in `Areas` says that it matches. -/
structure CfgCopy where
  par : PStore
  tables : List (List (List Nat))
  fing : List (List (Option FTab))
  can : List (List Nat)
  pub : List Nat
  confirmed : Option (BitVec 64)
  deriving DecidableEq, Repr

/-- Contents of one copy of the user calibration (R99): the calibration parameters and the learned profiles. -/
structure CalCopy where
  par : PStore
  profs : List Prof
  deriving DecidableEq, Repr

/-- What the two copies of the two alternately written areas hold (R99). -/
structure Kept where
  cfg : CfgCopy × CfgCopy
  cal : CalCopy × CalCopy
  deriving DecidableEq, Repr

/-- The MRAM areas of R99: validity and sequence numbers of the two copies, the erase that
RESTORE_FACTORY still owes, and the check-value record (R102, R347). -/
structure Areas where
  factory : Bool × Bool
  calib : Bool × Bool
  config : Bool × Bool
  calibSeq : Nat × Nat
  configSeq : Nat × Nat
  eraseOwed : Bool
  /-- computed check value, none when the canonical set changed since (R102) -/
  computed : Option (BitVec 64)
  /-- the confirmed value of the confirmation record -/
  confirmed : Option (BitVec 64)
  deriving DecidableEq, Repr


/-! ## The module and the machine -/

/-- Everything the commands act on, but for the queue, the written parameter values and the boot
record. -/
structure Mod where
  id : Ident
  /-- R_RAW: free-running count of 5 ns MOT ticks (R443) -/
  raw : Nat
  /-- R_RAW of the next tick boundary of R201 -/
  tickAt : Nat
  sup : Sup
  gov : Gov
  clk : Clk
  mode : ModeSt
  start : StartSt
  srst : Srst
  nv : Areas
  obs : Obs
  host : HostSt
  live : PStore
  /-- written values whose instant has not come: key and value, oldest first -/
  due : List (Nat × Int)
  ax : List Axis
  po : List Portal
  side : LR SideSt
  ob : ObSt
  saf : Safety
  time : TimeSt
  recd : RecSt
  io : IoSt
  txn : TxnSt
  can : List CanPort
  fab : FabSt
  tw : TwinSt
  sec : SecSt
  fw : UpdSt
  /-- reads and advances the free values of Config -/
  freeCtr : Nat
  deriving DecidableEq, Repr

/-- The machine: the waiting commands, first in first out; the written parameter values; the
boot pointer record with the firmware slots; and the module. (Assumptions 1 DESIGN CHOICE, 129 DEDUCED) -/
structure State where
  pending : List Instr
  par : PStore
  boot : Boot
  m : Mod
  /-- contents of the copies of the user calibration and the configuration areas (R99) -/
  kept : Kept
  deriving DecidableEq, Repr

/-- No command stops with a fault: the spec gives every command of the table an effect. The one
constructor is raised by no meaning; it keeps the type inhabited (safe). -/
inductive Fault where
  | none_
  deriving DecidableEq, Repr

/-- Why a command is refused by the model. -/
inductive Refusal where
  /-- the command has no meaning in this model yet; answered by `exec` alone (safe: nothing changes) -/
  | notModelled (mnemonic : String)
  deriving DecidableEq, Repr

/-! ## Reset: the machine right after logic power is applied -/

/-- The factory budgets of R28, (SRAM, Reed) of classes 1 to 8. -/
def budgetDefaults : List (Nat × Nat) :=
  [(30000, 60000), (20000, 45000), (30000, 45000), (45000, 30000),
   (30000, 30000), (25000, 20000), (20000, 40000), (10000, 15000)]

def Gov.reset : Gov where
  staged := budgetDefaults
  pendingSet := none
  active := budgetDefaults
  lastRejected := false
  applyAt := 0
  overrun := List.replicate 8 0
  suspended := List.replicate 8 false
  overshoot := List.replicate 8 (0, 0)
  left := budgetDefaults
  lastReport := List.replicate 8 none
  sinceReport := List.replicate 8 0
  lastBoundary := 0

def Clk.reset : Clk where
  pllLock := true
  memsOk := true
  crosscheckOk := true
  boreClockOk := true
  markerTicks := 200000
  ceCount := 0
  ueRegions := []
  scrubs := 0

/-- (Assumptions 4 DESIGN CHOICE, 5 DESIGN CHOICE) -/
def Sup.reset : Sup where
  st := .normal
  vbus := 1100
  tbp := 250
  band := 0
  kT := 10000
  reserve := 72000000000
  reserveEmpty := false
  limitActive := false
  lowerings := 0
  lowerAt := 0
  regenClamp := false
  overvoltage := false
  leftNormal := 0
  intStart := 0
  powerFail := false
  failAt := 0
  svc24 := false
  svcThrough := false
  serviceOnly := false
  holdupLow := false
  powered := true
  dcLinkDown := false
  encLimited := (false, false)
  power := 0

/-- (Assumption 6 DESIGN CHOICE) -/
def ModeSt.reset : ModeSt where
  mode := .starting
  prev := .starting
  resume := .assembly
  dormantFrom := .service
  wake := none
  trigs := []
  evacHost := false
  evac := [false, false, false]
  safeHoldLatched := false
  safeHoldCause := none

def StartSt.reset : StartSt where
  cold := true
  step := 1
  cause := none
  failed := none
  enteredAt := 0
  stepAt := 0
  leftAt := none
  history := []
  autoAt := none
  inReset := false
  homes := []
  loopsHeld := (false, false)
  holdUntil := none
  proofPending := (false, false)
  boreHash := none

def Srst.reset : Srst := ⟨none, false, false, false⟩

/-- Blank copies: a factory-fresh module. (Assumption 6 DESIGN CHOICE) -/
def CfgCopy.reset : CfgCopy := ⟨[], [], [], [], [], none⟩

def CalCopy.reset : CalCopy := ⟨[], []⟩

/-- (Assumption 6 DESIGN CHOICE) -/
def Kept.reset : Kept := ⟨(CfgCopy.reset, CfgCopy.reset), (CalCopy.reset, CalCopy.reset)⟩

/-- (Assumption 6 DESIGN CHOICE) -/
def Areas.reset : Areas where
  factory := (true, true)
  calib := (false, false)
  config := (false, false)
  calibSeq := (0, 0)
  configSeq := (0, 0)
  eraseOwed := false
  computed := none
  confirmed := none

def Obs.reset : Obs := ⟨List.replicate 4 0, List.replicate 4 false⟩

def Ring.reset : Ring where
  base := 0
  cplBase := 0
  enable := false
  eventKind := false
  prio := 0
  coalCount := 0
  vector := 0
  log2 := 0
  evtMask := 0
  active := false
  halted := false
  haltCause := 0
  modIdx := 0
  cplIdx := 0
  coalUs := 0
  hostIdx := 0
  cplCons := 0
  fetched := []
  count := 0
  since := none
  ringSeq := 0
  lost := false

def Msix.reset : Msix := ⟨0, 0, 0, true, false⟩

/-- (Assumption 7 DESIGN CHOICE) -/
def HostSt.reset : HostSt where
  linkUp := false
  width := 0
  speed := 0
  d3 := false
  pci := ⟨128, 512, false, false, false⟩
  verReq := (0, 0)
  neg := List.replicate 6 none
  rings := List.replicate 32 Ring.reset
  msix := List.replicate 32 Msix.reset
  rr := [0, 0, 0, 0]
  gone := []
  msgs := []
  cpls := []
  evrecs := []
  ops := []
  stepNo := 0
  timeSec := 0
  rawHi := 0
  offHi := 0
  cap := 0
  faultBits := 0
  regLocked := 0
  heartbeat := 0
  wdogMs := 0
  wdogSince := 0
  silentDone := false
  irqEn := false
  irqVec := 0

/-- (Assumption 7 DESIGN CHOICE) -/
def Phase.reset : Phase where
  sp := 0
  prevSp := 0
  ma := 0
  rms2 := 0
  decay := 0
  tOff := 4000
  tBlank := 100
  floorHz := 0
  at_ := 0
  cycle := 0
  on_ := 0
  trim := 0
  half := 0
  floorEnds := 0
  floorTotal := 0

/-- (Assumption 7 DESIGN CHOICE) -/
def Axis.reset : Axis where
  pcmd := 0
  pcmdPrev := 0
  quad := ⟨false, false, 0, 0, 0⟩
  count := 0
  countAt := 0
  loopCount := 0
  loopAt := 0
  shadow := 0
  shadowDisc := false
  zRef := 0
  homeRef := 0
  posOrigin := 0
  frozen := none
  align := false
  openLoop := false
  lead := 0
  addr := 0
  amp := 0
  ampCeil := 0
  rmsCap := false
  derated := false
  restAt := some 0
  ramp := none
  A := Phase.reset
  B := Phase.reset
  notReachedAt := none
  torque := false
  gateOff := false
  iso := .opened
  wires := []
  fault := none
  faults := []
  owed := []
  encBad := false
  encBadAt := 0
  illegal := []
  overspeed := []
  nIllegal := 0
  nOverspeed := 0
  nSsi := 0
  ssiErrs := 0
  ssiLast := none
  ssiLastB := none
  ssiDelta := 0
  ssiAt := 0
  idxCap := none
  idxDir := 0
  idxBad := 0
  idxBadAt := none
  cross := 0
  stallTicks := 0
  stallHeld := false
  lost := false
  tabs := List.replicate 7 none
  fellBack := false
  mv := none
  arr := []
  cut := false
  fstop := none
  pos := 0
  vel := 0
  coast := false
  inPosSince := none
  inPos := false
  inPosRaised := true
  lastTag := 0
  referenced := false
  home := none
  jogDir := none
  jogAt := 0
  tempLimit := none
  tempIn := none
  testUntil := none
  iq := 0
  iqSum := 0
  iqN := 0
  curAt := 5000
  onTicks := 0
  dist := 0

def Portal.reset : Portal where
  state := 0xFF
  stepState := 0xF
  stepBlocked := false
  timers := List.replicate 4 .idle
  table := []
  held := none
  armed := List.replicate 64 true
  pts := List.replicate 32 0
  prev := none
  openReq := false
  openPress := 0
  closePress := 0
  lastPress := none
  reversals := 0
  txnOutcome := 0
  faultCause := 0
  user := List.replicate 8 0
  isolDeg := false
  cyc := none
  lockWatch := none
  stepWatch := none
  obstacle := 0
  obstReact := 0
  fresh := []
  probe := 0
  refused := false

def SideSt.reset : SideSt := ⟨false, false, 0, 0xFFFF, 0, 0⟩

def Prof.reset : Prof := ⟨false, [], 0, 0, 0⟩

/-- (Assumption 7 DESIGN CHOICE) -/
def Obst.reset : Obst where
  prof := Prof.reset
  loading := false
  changed := false
  fEst := none
  dir := 1
  acc := 0
  planAt := 0
  forceCnt := 0
  absCnt := 0
  openCnt := 0
  growCnt := 0
  errs := []
  cap := none
  relief := false
  probe := .idle
  compliance := 0
  onset := 0
  ditherAt := none

/-- (Assumption 7 DESIGN CHOICE) -/
def Edge.reset : Edge where
  ohm := 0xFFFF
  filt := 0
  pressed := false
  openCnt := 0
  pressedAt := none
  fault := none
  more := []
  clearAt := none
  test := none
  testPress := none
  testFree := none
  sincePass := 0
  passed := false
  newPress := false

/-- (Assumption 6 DESIGN CHOICE) -/
def ObSt.reset : ObSt where
  ax := List.replicate 16 Obst.reset
  edges := List.replicate 8 Edge.reset
  learn := []
  saved := List.replicate 16 Prof.reset
  savedSeq := 0
  savedAt := 0
  saves := []
  waits := []

def Pair.reset : Pair := ⟨0, 0, none, 0, false⟩

/-- (Assumption 7 DESIGN CHOICE) -/
def SafAx.reset : SafAx := ⟨[], [], 0, 0, none, none, 0, 0⟩

/-- (Assumption 7 DESIGN CHOICE) -/
def Loop.reset : Loop where
  reed := false
  bore := false
  subst := false
  sinceR := none
  sinceB := none
  trips := []
  latched := false
  retryAt := none
  volt := 0
  inV := false
  test := none

def OffP.reset : OffP := ⟨0, none, 0, (false, false), (false, false), none, 0, [0, 0, 0, 0]⟩

def Safety.reset : Safety where
  reedLost := none
  boreLost := none
  views := []
  halted := none
  single := false
  diff := List.replicate 24 0
  pairs := List.replicate 16 Pair.reset
  sto := List.replicate 4 ⟨[1], [1], true, none⟩
  ax := List.replicate 16 SafAx.reset
  ss := List.replicate 4 false
  loops := ⟨Loop.reset, Loop.reset⟩
  off := OffP.reset
  rel := ⟨⟨false, false, none⟩, ⟨false, false, none⟩⟩
  lockOut := List.replicate 4 false
  stepRef := List.replicate 4 none
  deg := 0
  degAt := 0
  near := false
  reached := false
  degMram := 0
  degMramAt := 0
  boreCrc := none
  boreCrcStored := none

/-- (Assumption 7 DESIGN CHOICE) -/
def TimeSt.reset : TimeSt where
  offset := 0
  rate := 0
  integral := 0
  sync := .freeRunning
  good := 0
  bad := 0
  lastMsg := 0
  holdSince := 0
  gm := none
  self := false
  alone := true
  trusted := true
  jumps := 0
  lastMeas := 0
  profile := 0
  delay := 0
  reqs := []
  sent := []

def Inc.reset : Inc where
  st := .armed
  no := 0
  endCause := 0
  trigCode := 0
  trigTime := 0
  preLen := 0
  preCopied := 0
  postLen := 0
  missed := 0
  gapMs := 0
  cycSeq := 0
  evSeq := 0
  lastMissEv := none
  pre := []
  copying := false
  preMram := []
  post := []
  stage := []
  frameNo := 0
  hdrs := (List.replicate 12 0, List.replicate 12 0)

/-- (Assumption 6 DESIGN CHOICE) -/
def RecSt.reset : RecSt where
  cyc := ⟨0, 1, 0, []⟩
  evr := ⟨0, 1, 0, []⟩
  blk := []
  blkAt := 0
  dropped := 0
  staged := []
  memFault := false
  life := List.replicate 150 0
  lifeAt := 0
  lifeNv := ((0, List.replicate 150 0), (0, List.replicate 150 0))
  evCount := 0
  inc := Inc.reset
  sentinel := []
  sentinelFull := false
  boreQ := []
  tickFrame := List.replicate 72 0
  lastFrameMs := 0
  toTwin := []
  log := []

def Di.reset : Di := ⟨false, false, 0, false, 0, 0, 0, false, [], false, none, false⟩

/-- (Assumption 7 DESIGN CHOICE) -/
def Die.reset : Die where
  seq := 0
  sampleIdx := 0
  rawNew := 0
  rawPrev := 0
  testFlags := 0
  lsOut := 0
  lsFlags := 0
  temp := 0
  downSeq := 0
  cfgAddr := 0
  upLost := 0
  upGood := 0
  stale := false
  staleAt := 0
  echo := 0
  tokPos := 0
  lag := 0
  downLost := false
  downLostAt := 0
  wdog := false
  good := 0
  lastDown := 0
  resumes := 0
  wdogSeen := false
  fsTaken := false

def Ls.reset : Ls where
  cmd := 0
  dieCmd := 0
  fs := none
  out := false
  onAt := 0
  flashAt := 0
  flashing := false
  timed := none
  x := 0
  ma := 0
  trip := 0
  tripAt := 0
  tripMa := 0
  retries := 0
  latch := false
  exhausted := false
  shed := false
  openLoad := false
  twinMa := 0
  goodAt := 0

/-- (Assumption 7 DESIGN CHOICE) -/
def IoSt.reset : IoSt where
  di := List.replicate 64 Di.reset
  die := List.replicate 2 Die.reset
  ls := List.replicate 24 Ls.reset
  grp := List.replicate 3 ⟨0, none⟩
  feed := List.replicate 4 ⟨0, false, 0, false⟩
  windows := 0
  sampleAt := 0
  fsMode := true
  reportAt := 0
  phase := 8000

def Ctx.reset : Ctx where
  st := 0
  reusable := false
  acts := []
  tags := []
  fab := []
  c := 0
  v := 0
  q := 0
  coord := false
  key := none
  addr := 0
  parts := []
  votes := []
  decision := none
  ackBy := none
  final := false
  order := 0
  table := none
  lateAt := none
  skips := []
  queries := 0
  out := none

def TxnSt.reset : TxnSt where
  ctx := List.replicate 256 Ctx.reset
  serial := 0
  noVotes := []
  order := 0
  held := []
  heldActs := []
  lost := []

def CanObj.reset : CanObj where
  valid := false
  send := false
  ide := false
  ident := 0
  fdf := false
  brs := false
  addrEmbed := false
  mask := 0
  period := 0
  dlc := 0
  rx := none
  new := false
  overrun := false
  data := none
  pend := none
  due := none

def CanPort.reset : CanPort where
  nbtp := 0x1E3E0F00
  dbtp := 0x00800611
  tdcr := 8
  cfg := 0x62000000
  errState := 3
  recovering := false
  cfgRejected := false
  lec := 0
  recErr := 0
  tec := 0
  txOk := 0
  rxOk := 0
  errors := 0
  rxDropped := 0
  collisions := 0
  busOffs := 0
  txb := List.replicate 3 none
  tab := List.replicate 512 0
  objs := List.replicate 128 CanObj.reset
  status := none
  statusAt := 0
  attempt := none
  disabling := false
  busOffAt := 0

def FabPort.reset : FabPort where
  up := false
  ver := none
  badVer := none
  neighSerial := none
  neighAddr := none
  lastHello := 0
  buf := []
  rxFrames := 0
  txFrames := 0
  rxErrors := 0
  downCount := 0
  load := 0

def Sess.reset : Sess where
  used := false
  peer := 0
  opening := none
  tx := []
  wait := []
  nextSeq := 0
  rxSeq := 0
  rx := []
  rto := 20
  retryMax := 8

/-- The publication table's default (R434): class in bits 1:0, SAFE in bit 2. Portal points stand at
0x100 + 32 p + offset and are published for enabled portals. -/
def pubDefault (n : Nat) : Nat :=
  if n = 0x011 ∨ n = 0x012 ∨ n = 0x015 then 6
  else if n ≤ 0x00B ∨ (0x010 ≤ n ∧ n ≤ 0x015) then 2
  else if 0x100 ≤ n ∧ n < 0x180 then
    (let k := (n - 0x100) % 32
     if 8 ≤ k ∧ k ≤ 13 then 6 else if 2 ≤ k ∧ k ≤ 5 then 3 else 2)
  else 0

def pubDefaults : List Nat := (List.range 512).map pubDefault

/-- (Assumption 101 DEDUCED) -/
def FabSt.reset : FabSt where
  ports := List.replicate 2 FabPort.reset
  recs := []
  disc := 0
  changedAt := 0
  topology := 0
  count := 0
  anchorSerial := 0
  anchorSelf := false
  conflict := false
  addr := none
  routes := []
  drops := List.replicate 8 0
  dropSec := List.replicate 8 0
  dropAt := List.replicate 8 none
  bcReject := 0
  bcAt := []
  seqTx := []
  safeTx := []
  epoch := 0
  seen := []
  safeAcc := []
  image := []
  host := List.replicate 128 0
  hostNext := []
  pubTab := pubDefaults
  pub := pubDefaults
  pubNext := [0, 0, 0]
  pubVals := []
  sess := List.replicate 64 Sess.reset
  dormantCmd := false
  sent := []

def TwinSt.reset : TwinSt where
  linkUp := false
  pairFormed := false
  pairFail := 0
  peerSerial := 0
  peerHello := none
  lanes := [(false, 0), (false, 0)]
  heart := false
  lastHeart := 0
  peerMode := 0
  mapOff := 0
  mirSeqTx := 0
  mir := none
  mirAt := 0
  late := false
  orphan := false
  split := false
  noTorque := false
  returnInhibit := false
  selfHealth := 0
  peerHealth := 0
  healthySince := none
  returns := 0
  switchOvers := 0
  laneLosses := 0
  lateCount := 0
  lastGap := 0
  checkAt := none
  takeover := none
  gapFrom := 0
  handover := none
  resume := []
  closeBy := none
  waitUntil := none
  tookAt := none
  decisions := []
  ctxSent := []

/-- (Assumption 6 DESIGN CHOICE) -/
def SecSt.reset : SecSt where
  svcLink := false
  conn := false
  ver := none
  nonces := []
  nonceCtr := 0
  roles := none
  timeUnchecked := false
  authFails := 0
  consecFails := 0
  lockUntil := none
  debugUntil := none
  debugCount := 0
  reportCount := 0
  resp := []

/-- (Assumption 6 DESIGN CHOICE) -/
def UpdSt.reset : UpdSt where
  stage := 0
  source := 0
  acceptedAt := 0
  pairSession := false
  target := none
  offset := 0
  offsetMram := 0
  fileLen := 0
  stagedVersion := 0
  lastStatus := 0
  lastCmd := 0
  windowEnd := none
  fallbackDue := false
  pauseDue := false
  twinAct := 0
  version := 0
  slot := 0
  trial := false

/-- (Assumption 6 DESIGN CHOICE) -/
def Boot.reset : Boot where
  seq := 0
  current := 0
  trial := false
  previous := none
  trialFails := 0
  antiRollback := 0
  curDigest := 0
  prevDigest := 0
  revoked := 0
  older := []
  slots := [⟨2, none, []⟩, ⟨0, none, []⟩, ⟨2, none, []⟩]

/-- (Assumption 16 DESIGN CHOICE) -/
def Mod.reset : Mod where
  id := {}
  raw := 0
  tickAt := 20000
  sup := Sup.reset
  gov := Gov.reset
  clk := Clk.reset
  mode := ModeSt.reset
  start := StartSt.reset
  srst := Srst.reset
  nv := Areas.reset
  obs := Obs.reset
  host := HostSt.reset
  live := []
  due := []
  ax := List.replicate 16 Axis.reset
  po := List.replicate 4 Portal.reset
  side := ⟨SideSt.reset, SideSt.reset⟩
  ob := ObSt.reset
  saf := Safety.reset
  time := TimeSt.reset
  recd := RecSt.reset
  io := IoSt.reset
  txn := TxnSt.reset
  can := List.replicate 2 CanPort.reset
  fab := FabSt.reset
  tw := TwinSt.reset
  sec := SecSt.reset
  fw := UpdSt.reset
  freeCtr := 0

/-- The machine right after logic power is applied to a factory-fresh module: a cold start at step 1,
every register at the value its chapter gives for reset, and an empty queue. (Assumption 127 DESIGN CHOICE) -/
def State.reset : State := ⟨[], [], Boot.reset, Mod.reset, Kept.reset⟩

end Sys2Proof.Machine
end

