-- ==== Sys2Proof/Machine/Params.lean ====
section
/-! DEFINITION. The parameters of every domain (R8), each with its range, default, locking and the
instant its value takes effect, and the canonical store that holds their values. -/
namespace Sys2Proof.Machine

/-- What a parameter's INSTANCE names, with the number of instances on the A part. -/
inductive InstK where
  | module
  | axis
  | portal
  | pos
  | prof
  | pair
  | edge
  | bank
  | di
  | ls
  | feed
  | can
  deriving DecidableEq, Repr

/-- When a written value takes effect. `now` also stands for "next use": the value is read where it is
used (next move start, next timer start, next trip, ...). -/
inductive Eff where
  | now
  | tick
  | axisRest
  | arrival
  | moveStart
  | homing
  | portalRest
  | reversing
  | period
  | dormant
  | start
  | bore
  | turnOn
  | discovery
  | press
  | leafStart
  | leafStop
  | pwTest
  | never
  deriving DecidableEq, Repr

/-- One parameter: ID, lowest and highest value, step of the range, values allowed beside it, default,
what INSTANCE names, RWL, take-effect instant. -/
structure PDef where
  id : Nat
  lo : Int
  hi : Int
  step : Int
  extra : List Int
  dflt : Int
  inst : InstK
  rwl : Bool
  eff : Eff
  deriving DecidableEq, Repr

/-- The value that stands for "unset" in PORTAL_POS (R261); no parameter's range holds it. -/
def unset : Int := -2147483648

namespace P

/-! Parameters of domain 0x01 (R56 and R106). -/
def busPeakPowerLimit : PDef := ⟨0x0120, 100, 2400, 1, [], 2400, .module, false, .period⟩
def busContPowerLimit : PDef := ⟨0x0121, 100, 600, 1, [], 600, .module, false, .period⟩
def dormantSamplePeriod : PDef := ⟨0x0130, 10, 1000, 1, [], 100, .module, true, .dormant⟩
def dormantWakeInputs : PDef := ⟨0x0131, 0, 18446744073709551615, 1, [], 0, .module, true, .dormant⟩
def evacuateInputPair : PDef := ⟨0x0132, 0, 15, 1, [255], 255, .module, true, .period⟩
def evacuatePoint : PDef := ⟨0x0133, 0, 262143, 1, [], 262143, .module, true, .period⟩
def autoRestartDelay : PDef := ⟨0x0134, 1, 60, 1, [], 5, .module, true, .now⟩
def resetLoopHoldMax : PDef := ⟨0x0135, 0, 2000, 1, [], 2000, .module, true, .now⟩

/-! Parameters of domain 0x10 (R194 and R233). -/
def axisScale : PDef := ⟨0x1010, 65536, 4294967295, 1, [], 78643200, .axis, true, .axisRest⟩
def fingeringTable : PDef := ⟨0x1011, 0, 7, 1, [], 0, .axis, true, .axisRest⟩
def runCurrent : PDef := ⟨0x1012, 0, 10000, 1, [], 3000, .axis, true, .tick⟩
def holdCurrent : PDef := ⟨0x1013, 0, 10000, 1, [], 1000, .axis, true, .tick⟩
def holdDelay : PDef := ⟨0x1014, 0, 5000, 1, [], 200, .axis, true, .arrival⟩
def tOff : PDef := ⟨0x1015, 200, 8000, 1, [], 4000, .axis, true, .now⟩
def tBlank : PDef := ⟨0x1016, 40, 400, 1, [], 100, .axis, true, .now⟩
def embouchure : PDef := ⟨0x1017, 0, 1099511627775, 1, [], 137573302400, .axis, true, .now⟩
def chopFloor : PDef := ⟨0x1018, 18000, 40000, 1, [0], 0, .axis, true, .now⟩
def clMode : PDef := ⟨0x1019, 0, 1, 1, [], 0, .axis, true, .axisRest⟩
def leadGain : PDef := ⟨0x101a, 0, 255, 1, [], 32, .axis, true, .now⟩
def leadMax : PDef := ⟨0x101b, 0, 255, 1, [], 255, .axis, true, .now⟩
def encType : PDef := ⟨0x1020, 1, 2, 1, [], 1, .axis, true, .start⟩
def encScale : PDef := ⟨0x1021, 4096, 67108864, 1, [], 838861, .axis, true, .axisRest⟩
def encOffset : PDef := ⟨0x1022, 0, 1023, 1, [], 0, .axis, true, .axisRest⟩
def encDir : PDef := ⟨0x1023, 0, 1, 1, [], 0, .axis, true, .axisRest⟩
def encFilter : PDef := ⟨0x1024, 0, 7, 1, [], 2, .axis, true, .axisRest⟩
def ssiClock : PDef := ⟨0x1025, 100, 4000, 1, [], 1000, .axis, true, .start⟩
def ssiFormat : PDef := ⟨0x1026, 0, 4294967295, 1, [], 1147161, .axis, true, .start⟩
def ssiPeriod : PDef := ⟨0x1027, 25, 100, 25, [], 50, .axis, true, .start⟩
def ssiMonoflop : PDef := ⟨0x1028, 10, 60, 1, [], 20, .axis, true, .start⟩
def devWindow : PDef := ⟨0x1030, 10, 50000, 1, [], 2000, .axis, true, .tick⟩
def devTime : PDef := ⟨0x1031, 1, 1000, 1, [], 50, .axis, true, .tick⟩
def encCrossTol : PDef := ⟨0x1032, 1, 64, 1, [], 4, .axis, true, .start⟩
def speedMax : PDef := ⟨0x1040, 1, 10000000, 1, [], 500000, .axis, true, .now⟩
def accelMax : PDef := ⟨0x1041, 1000, 50000000, 1, [], 5000000, .axis, true, .now⟩
def decelMax : PDef := ⟨0x1042, 1000, 50000000, 1, [], 15000000, .axis, true, .now⟩
def decelSafeMax : PDef := ⟨0x1043, 1000, 100000000, 1, [], 20000000, .axis, true, .tick⟩
def jerkMax : PDef := ⟨0x1044, 0, 4000000000, 1, [], 1000000000, .axis, true, .now⟩
def defaultSpeed : PDef := ⟨0x1045, 1, 10000000, 1, [], 250000, .axis, true, .now⟩
def defaultAccel : PDef := ⟨0x1046, 1000, 50000000, 1, [], 1000000, .axis, true, .now⟩
def defaultDecel : PDef := ⟨0x1047, 1000, 50000000, 1, [], 1000000, .axis, true, .now⟩
def defaultJerk : PDef := ⟨0x1048, 0, 4000000000, 1, [], 0, .axis, true, .now⟩
def travelMin : PDef := ⟨0x1049, (-2000000), 2000000, 1, [], 0, .axis, true, .now⟩
def travelMax : PDef := ⟨0x104a, (-2000000), 2000000, 1, [], 1000000, .axis, true, .now⟩
def inPosWindow : PDef := ⟨0x104b, 1, 10000, 1, [], 500, .axis, true, .moveStart⟩
def inPosTime : PDef := ⟨0x104c, 0, 1000, 1, [], 20, .axis, true, .moveStart⟩
def jogSpeedMax : PDef := ⟨0x104d, 1, 200000, 1, [], 50000, .axis, true, .now⟩
def jogSpan : PDef := ⟨0x104e, 1000, 2000000, 1, [], 100000, .axis, true, .now⟩
def homeMethod : PDef := ⟨0x1050, 1, 6, 1, [], 1, .axis, true, .homing⟩
def homeDir : PDef := ⟨0x1051, 0, 1, 1, [], 0, .axis, true, .homing⟩
def homeSpeed : PDef := ⟨0x1052, 100, 200000, 1, [], 20000, .axis, true, .homing⟩
def homeCreepSpeed : PDef := ⟨0x1053, 10, 20000, 1, [], 2000, .axis, true, .homing⟩
def homeAccel : PDef := ⟨0x1054, 1000, 5000000, 1, [], 500000, .axis, true, .homing⟩
def homeCurrent : PDef := ⟨0x1055, 0, 10000, 1, [], 1500, .axis, true, .homing⟩
def homeStopError : PDef := ⟨0x1056, 100, 20000, 1, [], 1000, .axis, true, .homing⟩
def homeStopTime : PDef := ⟨0x1057, 1, 200, 1, [], 20, .axis, true, .homing⟩
def homeBackoff : PDef := ⟨0x1058, 0, 50000, 1, [], 2000, .axis, true, .homing⟩
def homePosition : PDef := ⟨0x1059, (-2000000), 2000000, 1, [], 0, .axis, true, .homing⟩
def homeSwitchInput : PDef := ⟨0x105a, 0, 63, 1, [], 0, .axis, true, .homing⟩
def homeMaxTravel : PDef := ⟨0x105b, 1000, 3000000, 1, [], 1500000, .axis, true, .homing⟩
def homeConfirmTime : PDef := ⟨0x105c, 10, 2000, 1, [], 200, .axis, true, .homing⟩
def homeTimeout : PDef := ⟨0x105d, 1, 30, 1, [], 20, .axis, true, .homing⟩

/-! Parameters of domain 0x20 (R261). -/
def portalEnable : PDef := ⟨0x2010, 0, 1, 1, [], 1, .portal, true, .start⟩
def portalType : PDef := ⟨0x2011, 0, 4, 1, [], 1, .portal, true, .never⟩
def portalSide : PDef := ⟨0x2012, 0, 1, 1, [], 0, .portal, true, .start⟩
def portalAxisMap : PDef := ⟨0x2013, 0, 4095, 1, [], 1672, .portal, true, .start⟩
def lockPair : PDef := ⟨0x2014, 0, 15, 1, [255], 255, .portal, true, .start⟩
def closedPair : PDef := ⟨0x2015, 0, 15, 1, [255], 255, .portal, true, .start⟩
def stepRetPair : PDef := ⟨0x2016, 0, 15, 1, [255], 255, .portal, true, .start⟩
def emergencyPair : PDef := ⟨0x2017, 0, 15, 1, [255], 255, .portal, true, .start⟩
def isolationPair : PDef := ⟨0x2018, 0, 15, 1, [255], 255, .portal, true, .start⟩
def openButtonDi : PDef := ⟨0x2019, 0, 32639, 1, [], 32639, .portal, true, .portalRest⟩
def closeButtonDi : PDef := ⟨0x201a, 0, 32639, 1, [], 32639, .portal, true, .portalRest⟩
def openPreselect : PDef := ⟨0x201b, 0, 10000, 1, [], 0, .portal, true, .press⟩
def autoCloseTime : PDef := ⟨0x201c, 1000, 600000, 1, [0], 20000, .portal, true, .now⟩
def warningTime : PDef := ⟨0x201d, 1000, 10000, 1, [], 3000, .portal, true, .now⟩
def recloseDelay : PDef := ⟨0x201e, 0, 30000, 1, [], 2000, .portal, true, .now⟩
def lockConfirmTime : PDef := ⟨0x201f, 50, 2000, 1, [], 300, .portal, true, .portalRest⟩
def stepConfirmTime : PDef := ⟨0x2020, 50, 5000, 1, [], 500, .portal, true, .portalRest⟩
def maxReversals : PDef := ⟨0x2021, 1, 10, 1, [], 3, .portal, true, .reversing⟩
def closedWindow : PDef := ⟨0x2022, 500, 50000, 1, [], 5000, .portal, true, .portalRest⟩
def portalLsMap : PDef := ⟨0x2023, 0, 16777215, 1, [], 16777215, .portal, true, .portalRest⟩
def portalAutoOpen : PDef := ⟨0x2024, 0, 1, 1, [], 0, .portal, true, .now⟩
def portalPos : PDef := ⟨0x2030, (-2000000), 2000000, 1, [-2147483648], (-2147483648), .pos, true, .portalRest⟩
def profSpeed : PDef := ⟨0x2031, 0, 4294967295, 1, [], 0, .prof, true, .now⟩
def profAccel : PDef := ⟨0x2032, 0, 4294967295, 1, [], 0, .prof, true, .now⟩
def profDecel : PDef := ⟨0x2033, 0, 4294967295, 1, [], 0, .prof, true, .now⟩
def profJerk : PDef := ⟨0x2034, 0, 4294967295, 1, [], 0, .prof, true, .now⟩
def releaseLPair : PDef := ⟨0x2040, 0, 15, 1, [255], 255, .module, true, .start⟩
def releaseRPair : PDef := ⟨0x2041, 0, 15, 1, [255], 255, .module, true, .start⟩
def zeroSpeedPair : PDef := ⟨0x2042, 0, 15, 1, [255], 255, .module, true, .start⟩

/-! Parameters of domain 0x30 (R297). -/
def torqueConstant : PDef := ⟨0x3010, 10, 5000, 1, [], 250, .axis, true, .axisRest⟩
def polePairs : PDef := ⟨0x3011, 1, 100, 1, [], 50, .axis, true, .axisRest⟩
def transmissionEff : PDef := ⟨0x3012, 50, 100, 1, [], 90, .axis, true, .axisRest⟩
def movingMass : PDef := ⟨0x3013, 0, 200, 1, [], 30, .axis, true, .axisRest⟩
def closeForceLimit : PDef := ⟨0x3020, 20, 150, 5, [], 150, .portal, true, .portalRest⟩
def forceDevMin : PDef := ⟨0x3021, 5, 100, 1, [], 25, .portal, true, .portalRest⟩
def spreadGain : PDef := ⟨0x3022, 0, 8, 1, [], 4, .portal, true, .portalRest⟩
def forceConfirm : PDef := ⟨0x3023, 1, 28, 1, [], 5, .portal, true, .portalRest⟩
def openForceDev : PDef := ⟨0x3024, 5, 100, 1, [], 40, .portal, true, .portalRest⟩
def pocketZone : PDef := ⟨0x3025, 0, 100000, 1, [], 30000, .portal, true, .portalRest⟩
def pocketDev : PDef := ⟨0x3026, 5, 100, 1, [], 20, .portal, true, .portalRest⟩
def pocketReliefCurrent : PDef := ⟨0x3027, 0, 2000, 1, [], 300, .portal, true, .leafStop⟩
def errGrowthWindow : PDef := ⟨0x3028, 2, 50, 1, [], 10, .portal, true, .portalRest⟩
def errGrowthLimit : PDef := ⟨0x3029, 50, 5000, 1, [], 200, .portal, true, .portalRest⟩
def armDelay : PDef := ⟨0x302a, 0, 200, 1, [], 50, .portal, true, .leafStart⟩
def obstacleReaction : PDef := ⟨0x302b, 0, 1, 1, [], 1, .portal, true, .now⟩
def learnShift : PDef := ⟨0x302c, 1, 8, 1, [], 4, .portal, true, .now⟩
def learnCycles : PDef := ⟨0x302d, 3, 20, 1, [], 5, .portal, true, .now⟩
def saveInterval : PDef := ⟨0x302e, 1, 60, 1, [], 10, .module, true, .now⟩
def stepForceLimit : PDef := ⟨0x302f, 20, 500, 1, [], 120, .portal, true, .portalRest⟩
def stepErrLimit : PDef := ⟨0x3030, 50, 5000, 1, [], 300, .portal, true, .portalRest⟩
def finalZone : PDef := ⟨0x3031, 10000, 60000, 1, [], 40000, .portal, true, .portalRest⟩
def probeEnable : PDef := ⟨0x3032, 0, 1, 1, [], 1, .portal, true, .portalRest⟩
def probeFreq : PDef := ⟨0x3033, 80, 400, 1, [], 160, .portal, true, .portalRest⟩
def probeDither : PDef := ⟨0x3034, 1, 8, 1, [], 8, .portal, true, .portalRest⟩
def probeDwell : PDef := ⟨0x3035, 20, 55, 1, [], 40, .portal, true, .portalRest⟩
def probeOnsetMargin : PDef := ⟨0x3036, 500, 5000, 1, [], 1500, .portal, true, .portalRest⟩
def probeComplianceTol : PDef := ⟨0x3037, 5, 50, 1, [], 20, .portal, true, .portalRest⟩
def probePosTol : PDef := ⟨0x3038, 200, 5000, 1, [], 1000, .portal, true, .portalRest⟩
def edgeType : PDef := ⟨0x3040, 0, 2, 1, [], 0, .edge, true, .start⟩
def edgeAxis : PDef := ⟨0x3041, 0, 15, 1, [255], 0, .edge, true, .start⟩
def edgePressR : PDef := ⟨0x3042, 100, 10000, 1, [], 4000, .edge, true, .start⟩
def edgeOpenR : PDef := ⟨0x3043, 5000, 20000, 1, [], 12000, .edge, true, .start⟩
def edgeFilter : PDef := ⟨0x3044, 1, 8, 1, [], 2, .edge, true, .start⟩
def edgeShortTime : PDef := ⟨0x3045, 1, 60, 1, [], 10, .edge, true, .start⟩
def edgeFaultAsPressed : PDef := ⟨0x3046, 0, 1, 1, [], 1, .edge, true, .start⟩
def edgePwResponse : PDef := ⟨0x3047, 5, 50, 1, [], 30, .edge, true, .pwTest⟩

/-! Parameters of domain 0x40 (R354). -/
def safetyPairDi : PDef := ⟨0x4010, 0, 32639, 1, [], 32639, .pair, true, .bore⟩
def safetyPairMode : PDef := ⟨0x4011, 0, 1, 1, [], 0, .pair, true, .bore⟩
def discrepancyTime : PDef := ⟨0x4012, 5, 500, 1, [], 50, .pair, true, .bore⟩
def loopCloseDelay : PDef := ⟨0x4020, 0, 1000, 1, [], 100, .module, true, .bore⟩
def loopOffpulse : PDef := ⟨0x4021, 100, 800, 1, [], 200, .module, true, .bore⟩
def loopRetryDelay : PDef := ⟨0x4022, 1, 60, 1, [], 5, .module, true, .now⟩
def ssEnvDecel : PDef := ⟨0x4030, 10000, 2000000, 1, [], 50000, .axis, true, .bore⟩
def ssSpeedTol : PDef := ⟨0x4031, 1000, 100000, 1, [], 20000, .axis, true, .bore⟩
def ssEnvDelay : PDef := ⟨0x4032, 0, 100, 1, [], 20, .module, true, .bore⟩
def ssStandstillSpeed : PDef := ⟨0x4033, 100, 10000, 1, [], 2000, .module, true, .bore⟩
def sflMargin : PDef := ⟨0x4040, 5, 50, 1, [], 25, .portal, true, .bore⟩
def sflTime : PDef := ⟨0x4041, 1, 20, 1, [], 5, .module, true, .bore⟩
def lockZone : PDef := ⟨0x4050, 500, 10000, 1, [], 3000, .portal, true, .bore⟩
def stepDeployTol : PDef := ⟨0x4051, 1000, 20000, 1, [], 5000, .portal, true, .bore⟩
def degradedTimeLimit : PDef := ⟨0x4060, 1, 480, 1, [], 30, .module, true, .period⟩

/-! Parameters of domain 0x50 (R390). -/
def bankClass : PDef := ⟨0x5010, 0, 1, 1, [], 0, .bank, true, .start⟩
def diFilterMax : PDef := ⟨0x5011, 0, 255, 1, [], 4, .di, true, .start⟩
def diOnTh : PDef := ⟨0x5012, 0, 255, 1, [], 3, .di, true, .start⟩
def diOffTh : PDef := ⟨0x5013, 0, 255, 1, [], 1, .di, true, .start⟩
def diTestSource : PDef := ⟨0x5014, 0, 2, 1, [], 0, .di, true, .start⟩
def tpPeriod : PDef := ⟨0x5015, 10, 1000, 1, [], 100, .bank, true, .start⟩
def diMaxActive : PDef := ⟨0x5016, 0, 86400, 1, [], 0, .di, true, .start⟩
def diChatterCount : PDef := ⟨0x5017, 0, 255, 1, [], 20, .di, true, .start⟩
def diChatterWindow : PDef := ⟨0x5018, 10, 10000, 1, [], 1000, .di, true, .start⟩
def lsNominal : PDef := ⟨0x5030, 10, 4000, 1, [], 1000, .ls, true, .turnOn⟩
def lsWireClass : PDef := ⟨0x5031, 0, 4, 1, [], 0, .ls, true, .turnOn⟩
def lsInrushFactor : PDef := ⟨0x5032, 1, 6, 1, [], 3, .ls, true, .turnOn⟩
def lsInrushTime : PDef := ⟨0x5033, 1, 500, 1, [], 50, .ls, true, .turnOn⟩
def lsMode : PDef := ⟨0x5034, 0, 1, 1, [], 0, .ls, true, .turnOn⟩
def lsOpenLoad : PDef := ⟨0x5035, 0, 2000, 1, [], 0, .ls, true, .turnOn⟩
def lsFailsafe : PDef := ⟨0x5036, 0, 2, 1, [], 0, .ls, true, .now⟩
def lsRetryMax : PDef := ⟨0x5037, 0, 15, 1, [], 3, .ls, true, .now⟩
def lsRetryDelay : PDef := ⟨0x5038, 10, 10000, 1, [], 1000, .ls, true, .now⟩
def lsPriority : PDef := ⟨0x5039, 0, 7, 1, [], 4, .ls, true, .now⟩
def feedUn : PDef := ⟨0x5040, 24, 110, 1, [], 110, .feed, true, .start⟩
def feedClass : PDef := ⟨0x5041, 0, 1, 1, [], 1, .feed, true, .start⟩

/-! Parameters of domain 0x60 (R416). -/
def canStatusPeriod : PDef := ⟨0x6010, 10, 10000, 1, [0], 0, .can, false, .now⟩
def canStatusBaseId : PDef := ⟨0x6011, 0, 536870400, 512, [], 30408704, .can, false, .now⟩

/-! Parameters of domain 0x70 (R453). -/
def fabricEthertype : PDef := ⟨0x7010, 1536, 65535, 1, [], 34997, .module, true, .start⟩
def fabricVid : PDef := ⟨0x7011, 0, 4094, 1, [], 0, .module, true, .start⟩
def fabricId : PDef := ⟨0x7012, 0, 4294967295, 1, [], 0, .module, true, .start⟩
def addrMode : PDef := ⟨0x7013, 0, 1, 1, [], 0, .module, true, .discovery⟩
def fixedAddr : PDef := ⟨0x7014, 0, 511, 1, [], 0, .module, true, .discovery⟩
def anchorEnable : PDef := ⟨0x7015, 0, 1, 1, [], 0, .module, true, .discovery⟩
def anchorPriority : PDef := ⟨0x7016, 0, 255, 1, [], 128, .module, true, .discovery⟩
def anchorBase : PDef := ⟨0x7017, 0, 511, 1, [], 0, .module, true, .discovery⟩
def fabricLoadWarn : PDef := ⟨0x7018, 10, 90, 1, [], 60, .module, true, .now⟩
def safeAgeMargin : PDef := ⟨0x7019, 1, 50, 1, [], 2, .module, true, .start⟩
def sessionRto : PDef := ⟨0x701a, 5, 500, 1, [], 20, .module, true, .now⟩
def sessionRetries : PDef := ⟨0x701b, 1, 32, 1, [], 8, .module, true, .now⟩
def ptpProfile : PDef := ⟨0x7020, 0, 2, 1, [], 1, .module, true, .start⟩
def ptpDomain : PDef := ⟨0x7021, 0, 127, 1, [], 0, .module, true, .start⟩
def ptpPriority1 : PDef := ⟨0x7022, 0, 255, 1, [], 248, .module, true, .start⟩
def ptpPriority2 : PDef := ⟨0x7023, 0, 255, 1, [], 248, .module, true, .start⟩
def syncIntervalLog : PDef := ⟨0x7024, (-5), 0, 1, [], (-3), .module, true, .start⟩
def servoKp : PDef := ⟨0x7025, 0, 65535, 1, [], 45875, .module, true, .now⟩
def servoKi : PDef := ⟨0x7026, 0, 65535, 1, [], 19661, .module, true, .now⟩
def stepThreshold : PDef := ⟨0x7027, 1, 10000, 1, [], 100, .module, true, .now⟩
def rateLimit : PDef := ⟨0x7028, 1, 200, 1, [], 200, .module, true, .now⟩

/-! Parameters of domain 0x80 (R483). -/
def txnFabricLead : PDef := ⟨0x8010, 5, 500, 1, [], 20, .module, true, .now⟩
def txnDecideMargin : PDef := ⟨0x8011, 2, 100, 1, [], 5, .module, true, .now⟩
def txnQueryTimeout : PDef := ⟨0x8012, 10, 1000, 1, [], 100, .module, true, .now⟩
def txnMaxLead : PDef := ⟨0x8013, 1, 60, 1, [], 10, .module, true, .now⟩

/-! Parameters of domain 0x90 (R514). -/
def twinRole : PDef := ⟨0x9010, 0, 2, 1, [], 0, .module, true, .start⟩
def twinPeerSerial : PDef := ⟨0x9011, 1, 4294967295, 1, [], 0, .module, true, .start⟩
def twinReturnDelay : PDef := ⟨0x9012, 10, 3600, 1, [0], 60, .module, true, .now⟩
def twinPeerWait : PDef := ⟨0x9013, 1, 30, 1, [], 5, .module, true, .start⟩
def twinOrphanTimeout : PDef := ⟨0x9014, 5, 200, 1, [], 25, .module, true, .now⟩

/-! Parameters of domain 0xA0 (R541). -/
def incidentTriggers : PDef := ⟨0xa010, 0, 15, 1, [], 15, .module, true, .now⟩

/-! Parameters of domain 0xB0 (R572). -/
def svcIpv4Addr : PDef := ⟨0xb010, 16777216, 3758096383, 1, [], 2852001296, .module, true, .start⟩
def svcTcpPort : PDef := ⟨0xb011, 1024, 65535, 1, [], 4716, .module, true, .start⟩
def serviceOperatorId : PDef := ⟨0xb012, 0, 4294967295, 1, [], 0, .module, true, .now⟩
def updateInActive : PDef := ⟨0xb013, 0, 1, 1, [], 0, .module, true, .now⟩
def debugUnlockTime : PDef := ⟨0xb014, 1, 240, 1, [], 60, .module, true, .now⟩
def updateIdleTimeout : PDef := ⟨0xb015, 5, 240, 1, [], 30, .module, true, .now⟩

def tab01a : List PDef :=
  [busPeakPowerLimit, busContPowerLimit, dormantSamplePeriod, dormantWakeInputs,
   evacuateInputPair, evacuatePoint, autoRestartDelay, resetLoopHoldMax]
def tab10a : List PDef :=
  [axisScale, fingeringTable, runCurrent, holdCurrent, holdDelay, tOff, tBlank, embouchure,
   chopFloor, clMode, leadGain, leadMax, encType, encScale, encOffset, encDir, encFilter,
   ssiClock, ssiFormat, ssiPeriod, ssiMonoflop, devWindow, devTime, encCrossTol]
def tab10b : List PDef :=
  [speedMax, accelMax, decelMax, decelSafeMax, jerkMax, defaultSpeed, defaultAccel, defaultDecel,
   defaultJerk, travelMin, travelMax, inPosWindow, inPosTime, jogSpeedMax, jogSpan, homeMethod,
   homeDir, homeSpeed, homeCreepSpeed, homeAccel, homeCurrent, homeStopError, homeStopTime,
   homeBackoff]
def tab10c : List PDef :=
  [homePosition, homeSwitchInput, homeMaxTravel, homeConfirmTime, homeTimeout]
def tab20a : List PDef :=
  [portalEnable, portalType, portalSide, portalAxisMap, lockPair, closedPair, stepRetPair,
   emergencyPair, isolationPair, openButtonDi, closeButtonDi, openPreselect, autoCloseTime,
   warningTime, recloseDelay, lockConfirmTime, stepConfirmTime, maxReversals, closedWindow,
   portalLsMap, portalAutoOpen, portalPos, profSpeed, profAccel]
def tab20b : List PDef :=
  [profDecel, profJerk, releaseLPair, releaseRPair, zeroSpeedPair]
def tab30a : List PDef :=
  [torqueConstant, polePairs, transmissionEff, movingMass, closeForceLimit, forceDevMin,
   spreadGain, forceConfirm, openForceDev, pocketZone, pocketDev, pocketReliefCurrent,
   errGrowthWindow, errGrowthLimit, armDelay, obstacleReaction, learnShift, learnCycles,
   saveInterval, stepForceLimit, stepErrLimit, finalZone, probeEnable, probeFreq]
def tab30b : List PDef :=
  [probeDither, probeDwell, probeOnsetMargin, probeComplianceTol, probePosTol, edgeType,
   edgeAxis, edgePressR, edgeOpenR, edgeFilter, edgeShortTime, edgeFaultAsPressed, edgePwResponse]
def tab40a : List PDef :=
  [safetyPairDi, safetyPairMode, discrepancyTime, loopCloseDelay, loopOffpulse, loopRetryDelay,
   ssEnvDecel, ssSpeedTol, ssEnvDelay, ssStandstillSpeed, sflMargin, sflTime, lockZone,
   stepDeployTol, degradedTimeLimit]
def tab50a : List PDef :=
  [bankClass, diFilterMax, diOnTh, diOffTh, diTestSource, tpPeriod, diMaxActive, diChatterCount,
   diChatterWindow, lsNominal, lsWireClass, lsInrushFactor, lsInrushTime, lsMode, lsOpenLoad,
   lsFailsafe, lsRetryMax, lsRetryDelay, lsPriority, feedUn, feedClass]
def tab60a : List PDef :=
  [canStatusPeriod, canStatusBaseId]
def tab70a : List PDef :=
  [fabricEthertype, fabricVid, fabricId, addrMode, fixedAddr, anchorEnable, anchorPriority,
   anchorBase, fabricLoadWarn, safeAgeMargin, sessionRto, sessionRetries, ptpProfile, ptpDomain,
   ptpPriority1, ptpPriority2, syncIntervalLog, servoKp, servoKi, stepThreshold, rateLimit]
def tab80a : List PDef :=
  [txnFabricLead, txnDecideMargin, txnQueryTimeout, txnMaxLead]
def tab90a : List PDef :=
  [twinRole, twinPeerSerial, twinReturnDelay, twinPeerWait, twinOrphanTimeout]
def tabA0a : List PDef :=
  [incidentTriggers]
def tabB0a : List PDef :=
  [svcIpv4Addr, svcTcpPort, serviceOperatorId, updateInActive, debugUnlockTime, updateIdleTimeout]

/-- Every parameter, in ascending ID (R8, R347). -/
def all : List PDef :=
  tab01a ++ tab10a ++ tab10b ++ tab10c ++ tab20a ++ tab20b ++ tab30a ++ tab30b ++ tab40a ++ tab50a ++ tab60a ++ tab70a ++ tab80a ++ tab90a ++ tabA0a ++ tabB0a
end P

/-- The definition of a parameter ID (R8: none means the ID is not defined). -/
def pFind (id : Nat) : Option PDef := P.all.find? (fun d => d.id == id)

/-- The default of an instance: P2 and P3 lie on side R (R261); EDGEe belongs to AX(4(e/2) + e mod 2)
(R278); every other default is the same for all instances. -/
def PDef.dfl (d : PDef) (i : Nat) : Int :=
  if d.id = 0x2012 then (if i < 2 then 0 else 1)
  else if d.id = 0x3041 then ((4 * (i / 2) + i % 2 : Nat) : Int)
  else d.dflt

/-- The store's key of a parameter's instance. -/
def pKey (id inst : Nat) : Nat := id * 65536 + inst

/-- The listed value of a key, none when it stands at its default. -/
def PStore.find (st : PStore) (k : Nat) : Option Int :=
  match st with
  | [] => none
  | (a, v) :: r => if a = k then some v else PStore.find r k

/-- Remove a key. -/
def PStore.drop (st : PStore) (k : Nat) : PStore :=
  match st with
  | [] => []
  | (a, v) :: r => if a = k then r else (a, v) :: PStore.drop r k

/-- Put a value at a key, keeping the keys strictly rising. -/
def PStore.put (st : PStore) (k : Nat) (x : Int) : PStore :=
  match st with
  | [] => [(k, x)]
  | (a, v) :: r =>
    if k < a then (k, x) :: (a, v) :: r
    else if a = k then (k, x) :: r
    else (a, v) :: PStore.put r k x

/-- The value of an instance: the listed value, else the default. -/
def PStore.get (st : PStore) (d : PDef) (i : Nat) : Int :=
  match st.find (pKey d.id i) with
  | some v => v
  | none => d.dfl i

/-- Write a value in the canonical form: a default is not listed. -/
def PStore.set (st : PStore) (d : PDef) (i : Nat) (x : Int) : PStore :=
  if x = d.dfl i then st.drop (pKey d.id i) else st.put (pKey d.id i) x

/-- Instances of a kind present on a part (R2, R237, R390). -/
def InstK.count (part : Part) : InstK → Nat
  | .module => 1
  | .axis => if part = .A then 16 else 8
  | .portal => if part = .A then 4 else 2
  | .pos => if part = .A then 64 else 32
  | .prof => if part = .A then 32 else 16
  | .pair => 16
  | .edge => 8
  | .bank => 4
  | .di => 64
  | .ls => 24
  | .feed => 3
  | .can => 2

/-- INSTANCE names something present. Groups are numbered 1 to 3 (R390). -/
def InstK.has (part : Part) (k : InstK) (i : Nat) : Bool :=
  match k with
  | .feed => decide (1 ≤ i) && decide (i ≤ 3)
  | _ => decide (i < k.count part)

/-- A value lies in the parameter's range on its part (R53, R56: the B part has half the power).
 (Assumption 54 DEDUCED) -/
def PDef.ok (part : Part) (d : PDef) (x : Int) : Bool :=
  let hi := if part = .B ∧ d.id = 0x0120 then 1200 else if part = .B ∧ d.id = 0x0121 then 300 else d.hi
  d.extra.contains x || (decide (d.lo ≤ x) && decide (x ≤ hi) && decide (x % d.step = 0))

/-- The canonical form of a store: keys strictly rising, each the key of a defined parameter, no value
equal to its default. -/
def PStore.wf (st : PStore) : Bool :=
  match st with
  | [] => true
  | (k, x) :: r =>
    (match pFind (k / 65536) with
      | some d => decide (x ≠ d.dfl (k % 65536))
      | none => false)
    && (match r with
      | [] => true
      | (k', _) :: _ => decide (k < k'))
    && PStore.wf r

end Sys2Proof.Machine
end

