-- ==== Sys2Proof/Machine/Ops.lean ====
section
/-! DEFINITION. The operations every chapter uses: arithmetic, instants, parameters, events and their
way into the recorder and the event rings, interrupts, and completions. -/
namespace Sys2Proof.Machine

/-! ### Lists and arithmetic -/

/-- Change element `i` of a list; an index past its end changes nothing. -/
def upd {α : Type} (l : List α) (i : Nat) (f : α → α) : List α :=
  match l, i with
  | [], _ => []
  | a :: r, 0 => f a :: r
  | a :: r, i + 1 => a :: upd r i f

/-- The numbers 0 to n - 1. -/
def upto (n : Nat) : List Nat := List.range n

def bit (w i : Nat) : Bool := w.testBit i

/-- Bits lo + n - 1 down to lo of a word. -/
def field (w lo n : Nat) : Nat := (w >>> lo) % 2 ^ n

def b2n (b : Bool) : Nat := if b then 1 else 0

/-- Round a / b to the nearest whole number, ties away from zero (R5, R187, R202). -/
def roundDiv (a b : Int) : Int :=
  let n := (2 * a.natAbs + b.natAbs) / (2 * b.natAbs)
  if (a < 0) != (b < 0) then -(n : Int) else (n : Int)

/-- a / b rounded toward zero. -/
def truncDiv (a b : Int) : Int := Int.tdiv a b

def sgn (x : Int) : Int := if x < 0 then -1 else if x = 0 then 0 else 1

def clampI (lo hi x : Int) : Int := max lo (min hi x)

/-- Whole square root, one result bit per unit of fuel. -/
def isqrtLoop : Nat → Nat → Nat → Nat
  | 0, _, r => r
  | k + 1, n, r =>
    let t := r + 2 ^ k
    if t * t ≤ n then isqrtLoop k n t else isqrtLoop k n r

/-- The largest r with r * r ≤ n, for n below 2^240. (Assumption 64 DEDUCED) -/
def isqrt (n : Nat) : Nat := isqrtLoop 120 n 0

/-- Two's complement of a value in `w` bits. -/
def toBits (w : Nat) (x : Int) : Nat := (x % (2 ^ w : Nat)).toNat

/-- The signed value of a word of `w` bits. -/
def ofBits (w x : Nat) : Int := if x < 2 ^ (w - 1) then x else (x : Int) - 2 ^ w

/-- A signed 32-bit count of microsteps or encoder counts (R4, R181). -/
def wrap32 (x : Int) : Int := ofBits 32 (toBits 32 x)

/-- Bytes of a number, least significant first. -/
def leBytes : Nat → Nat → List Byte
  | 0, _ => []
  | k + 1, n => BitVec.ofNat 8 n :: leBytes k (n / 256)

def le4 (x : Int) : List Byte := leBytes 4 (toBits 32 x)

/-- The number whose little-endian bytes are given. -/
def ofLe (b : List Byte) : Nat :=
  match b with
  | [] => 0
  | x :: r => x.toNat + 256 * ofLe r

/-- 32-bit words of a byte list. -/
def toWords : Nat → List Byte → List Nat
  | 0, _ => []
  | k + 1, b => ofLe (b.take 4) :: toWords k (b.drop 4)

/-! ### Checks (R438, R520) -/

/-- Eight steps of a reflected CRC. (Assumption 100 PRESUMED) -/
def crcBits (poly : BitVec 32) : Nat → BitVec 32 → BitVec 32
  | 0, c => c
  | k + 1, c => crcBits poly k (if c.getLsbD 0 then (c >>> 1) ^^^ poly else c >>> 1)

/-- CRC-32 of IEEE 802.3 over bytes. -/
def crc32 (b : List Byte) : BitVec 32 :=
  ~~~ (b.foldl (fun c x => crcBits 0xEDB88320#32 8 (c ^^^ (x.setWidth 32))) 0xFFFFFFFF#32)

/-! ### Instants: MOT ticks of 5 ns (R18, R443) -/

def US : Nat := 200
def MS : Nat := 200000
def SEC : Nat := 200000000

/-- Fabric time in ns: OFFSET + R * (1 + RATE * 2^-32), with R = 5 ns * R_RAW (R443). -/
def fabAt (t : TimeSt) (raw : Nat) : Int :=
  t.offset + (raw : Int) * 5 + ((raw : Int) * 5 * t.rate) / 4294967296

def Mod.now (m : Mod) : Int := fabAt m.time m.raw

/-- Advance R_RAW to an instant that lies ahead. (Assumptions 17 DESIGN CHOICE, 19 DESIGN CHOICE) -/
def Mod.advance (m : Mod) (t : Nat) : Mod := { m with raw := max m.raw t }

/-! ### Modes -/

/-- The number of a mode, 1 to 12 (R148). -/
def Mode.num : Mode → Nat
  | .assembly => 1
  | .commission => 2
  | .service => 3
  | .dormant => 4
  | .starting => 5
  | .shadow => 6
  | .activeClosed => 7
  | .activeReleased => 8
  | .degraded => 9
  | .safeHold => 10
  | .updatePause => 11
  | .egress => 12

/-- In service: ACTIVE-CLOSED, ACTIVE-RELEASED or DEGRADED. -/
def Mode.active : Mode → Bool
  | .activeClosed => true
  | .activeReleased => true
  | .degraded => true
  | _ => false

/-- Modes in which R80 leaves torque on. -/
def Mode.torque : Mode → Bool
  | .commission => true
  | .service => true
  | .activeClosed => true
  | .activeReleased => true
  | .degraded => true
  | _ => false

/-- Modes whose row in R80 has the loops evaluated. -/
def Mode.loops : Mode → Bool
  | .service => true
  | .shadow => true
  | .activeClosed => true
  | .activeReleased => true
  | .degraded => true
  | _ => false

/-- The read class of R81. -/
def Mode.reads : Mode → Bool
  | .starting => false
  | .updatePause => false
  | _ => true

/-- The communication class of R81, and the writes of R578. -/
def Mode.comm : Mode → Bool
  | .starting => false
  | .updatePause => false
  | .shadow => false
  | _ => true

/-- RWL fields are writable (R115). -/
def Mode.rwl : Mode → Bool
  | .assembly => true
  | .commission => true
  | _ => false

/-- COMMISSION and SERVICE, where jog, homing and tests run, and the ACTIVE modes, which accept all
commands (R80). -/
def Mode.maint : Mode → Bool
  | .commission => true
  | .service => true
  | _ => false

/-- Modes whose row in R80 names STOP, AXIS_FAULT_CLEAR, PORTAL_RESET, LS_SET and LS_CLEAR, and those that
accept all commands. -/
def Mode.faultClear (md : Mode) : Bool := md.maint || md.active

/-- Sequence tables are evaluated (R244). -/
def Mode.tables : Mode → Bool
  | .activeClosed => true
  | .activeReleased => true
  | .degraded => true
  | .egress => true
  | _ => false

def Mod.md (m : Mod) : Mode := m.mode.mode

/-- The control die works: it has power and is not held in reset (R59, R62, R92). -/
def Mod.alive (m : Mod) : Bool := m.sup.powered && !m.start.inReset

/-- The class of the breath budget is not suspended in the present period (R29). (Assumption 103 DEDUCED) -/
def Mod.runs (m : Mod) (cls : Nat) : Bool := !m.gov.suspended.getD (cls - 1) false

/-! ### Parameters in force -/

def Mod.p (m : Mod) (d : PDef) (i : Nat) : Int := m.live.get d i

def Mod.pn (m : Mod) (d : PDef) (i : Nat) : Nat := (m.p d i).toNat

def Mod.axes (m : Mod) : List Nat := upto (InstK.axis.count m.id.part)
def Mod.portals (m : Mod) : List Nat := upto (InstK.portal.count m.id.part)

def Mod.axis (m : Mod) (i : Nat) : Axis := m.ax.getD i Axis.reset
def Mod.obst (m : Mod) (i : Nat) : Obst := m.ob.ax.getD i Obst.reset
def Mod.safAx (m : Mod) (i : Nat) : SafAx := m.saf.ax.getD i SafAx.reset
def Mod.portal (m : Mod) (i : Nat) : Portal := m.po.getD i Portal.reset
def Mod.ring (m : Mod) (i : Nat) : Ring := m.host.rings.getD i Ring.reset

def Mod.onAx (m : Mod) (i : Nat) (f : Axis → Axis) : Mod := { m with ax := upd m.ax i f }
def Mod.onAxes (m : Mod) (f : Nat → Axis → Axis) : Mod :=
  { m with ax := (m.ax.zip (upto 16)).map (fun (x : Axis × Nat) => f x.2 x.1) }
def Mod.onOb (m : Mod) (i : Nat) (f : Obst → Obst) : Mod :=
  { m with ob := { m.ob with ax := upd m.ob.ax i f } }
def Mod.onSafAx (m : Mod) (i : Nat) (f : SafAx → SafAx) : Mod :=
  { m with saf := { m.saf with ax := upd m.saf.ax i f } }
def Mod.onPo (m : Mod) (i : Nat) (f : Portal → Portal) : Mod := { m with po := upd m.po i f }
def Mod.onRing (m : Mod) (i : Nat) (f : Ring → Ring) : Mod :=
  { m with host := { m.host with rings := upd m.host.rings i f } }

def LR.get {α : Type} (x : LR α) : Side → α
  | .L => x.L
  | .R => x.R

def LR.map1 {α : Type} (x : LR α) (s : Side) (f : α → α) : LR α :=
  match s with
  | .L => { x with L := f x.L }
  | .R => { x with R := f x.R }

def sideNum : Side → Nat
  | .L => 0
  | .R => 1

def sideOfNum (n : Nat) : Side := if n = 0 then .L else .R

def Mod.onLoop (m : Mod) (s : Side) (f : Loop → Loop) : Mod :=
  { m with saf := { m.saf with loops := m.saf.loops.map1 s f } }

/-! ### Interrupts (R143, R144) -/

/-- Raise an MSI-X vector: a message, or PENDING while it is masked. -/
def Mod.raiseVec (m : Mod) (k : Nat) : Mod :=
  if m.host.linkUp && !m.host.d3 then
    if (m.host.msix.getD k Msix.reset).mask then
      { m with host := { m.host with msix := upd m.host.msix k (fun e => { e with pending := true }) } }
    else { m with host := { m.host with msgs := m.host.msgs ++ [k] } }
  else m

/-- A ring raises its vector and restarts its count (R144). -/
def Mod.ringVec (m : Mod) (i : Nat) : Mod :=
  (m.onRing i (fun r => { r with count := 0, since := none })).raiseVec (m.ring i).vector

/-- Count an entry just written and raise the vector when R144 asks for it; `force` for IRQ or a
safety event. -/
def Mod.countEntry (m : Mod) (i : Nat) (force : Bool) : Mod :=
  let m := m.onRing i (fun r =>
    { r with count := r.count + 1, since := (match r.since with | none => some m.raw | s => s) })
  let r := m.ring i
  if force || (decide (r.coalCount ≠ 0) && decide (r.coalCount ≤ r.count))
      || (decide (r.coalCount = 0) && decide (r.coalUs = 0)) then m.ringVec i else m

/-! ### Event rings (R135, R136) -/

def Ring.size (r : Ring) : Nat := 2 ^ r.log2

def sub16 (a b : Nat) : Nat := (a + 65536 - b) % 65536

/-- PHASE of entry k (R132). -/
def phaseOf (k size : Nat) : Bool := decide ((k / size) % 2 = 0)

/-- Offer an event to one ring. -/
def Mod.offer (m : Mod) (ev : Ev) (i : Nat) : Mod :=
  let r := m.ring i
  if r.active && r.eventKind && !r.halted && bit r.evtMask (ev.code / 4096) then
    if sub16 r.modIdx r.hostIdx < r.size then
      let rec' : EvRec := ⟨i, r.modIdx % r.size, phaseOf r.modIdx r.size, r.lost, r.ringSeq + 1, ev⟩
      let k := (r.modIdx + 1) % 65536
      let m := m.onRing i (fun r =>
        { r with ringSeq := r.ringSeq + 1, lost := false, modIdx := k, cplIdx := k })
      let m := { m with host := { m.host with evrecs := m.host.evrecs ++ [rec'] } }
      m.countEntry i (decide (ev.code / 4096 = 4))
    else m.onRing i (fun r => { r with ringSeq := r.ringSeq + 1, lost := true })
  else m

def Mod.offerAll (m : Mod) (ev : Ev) : Mod := (upto 32).foldl (fun m i => m.offer ev i) m

/-! ### Recorder plumbing (R525 to R533, R539) -/

def Mod.onRec (m : Mod) (f : RecSt → RecSt) : Mod := { m with recd := f m.recd }
def Mod.onInc (m : Mod) (f : Inc → Inc) : Mod :=
  { m with recd := { m.recd with inc := f m.recd.inc } }

/-- Units of 32 bytes an entry takes (R529). -/
def IEnt.units : IEnt → Nat
  | .ev _ => 1
  | .frame _ _ => 9

def unitsOf (l : List IEnt) : Nat := l.foldl (fun n e => n + e.units) 0

/-- Drop the oldest entries until the rest fits in `n` units. -/
def fitUnits (n : Nat) : List IEnt → List IEnt
  | [] => []
  | e :: r => if unitsOf (e :: r) ≤ n then e :: r else fitUnits n r

def preUnits : Nat := 131072
def postUnits : Nat := 915456
/-- recorder staging of R38: 256 KB in units of 32 bytes (Assumption 115 DEDUCED) -/
def stageUnits : Nat := 8192

def RecSt.stageUsed (r : RecSt) : Nat := 8 * r.staged.length + unitsOf r.inc.stage

/-- A record goes to the staging, or to what the twin is to get while the recorder memory is faulty (R538, R540). -/
def RecSt.put (r : RecSt) (pair : Bool) (x : JRec) : RecSt :=
  if r.memFault then (if pair then { r with toTwin := r.toTwin ++ [x] } else r)
  else { r with staged := r.staged ++ [x] }

/-- An entry enters the incident buffers (R529, R531, R533). -/
def Inc.enter (c : Inc) (room : Bool) (e : IEnt) : Inc :=
  let c := if c.copying then c else { c with pre := fitUnits preUnits (c.pre ++ [e]) }
  match c.st with
  | .recording =>
    if room then { c with stage := c.stage ++ [e] }
    else (match e with
      | .frame _ _ => { c with gapMs := c.gapMs + 1 }
      | .ev _ => c)
  | _ => c

/-- The trigger group of an event (R528). -/
def Ev.trigger (e : Ev) : Option Nat :=
  if e.code = 0x3001 ∨ e.code = 0x3005 then some 0
  else if e.code = 0x3002 then (if e.pay.getD 0 0 = 3 then some 0 else none)
  else if e.code = 0x4001 ∨ e.code = 0x4002 ∨ e.code = 0x400B ∨ e.code = 0x400C ∨ e.code = 0x4011
      ∨ e.code = 0x4012 ∨ e.code = 0x4005 ∨ e.code = 0x400F then some 1
  else if e.code = 0x4007 then
    (let c := e.pay.getD 0 0
     if c = 4 ∨ (7 ≤ c ∧ c ≤ 11) then some 1 else none)
  else if e.code = 0x2001 then (if e.pay.getD 1 0 = 9 then some 2 else none)
  else if e.code = 0x4E11 then (if e.pay.getD 1 0 = 1 then some 2 else none)
  else none

/-- The sentinel area takes an event while the recorder memory is faulty (R539). -/
def RecSt.sent (r : RecSt) (ev : Ev) : RecSt :=
  let d := ev.code / 4096
  if r.memFault && (decide (d = 4) || decide (d = 10) || decide (d = 12) || ev.trigger.isSome)
      && decide (r.sentinel.length < 127) then
    { r with sentinel := r.sentinel ++ [ev] }
  else r

/-- Take an event into the open block, the incident buffers and the sentinel. -/
def RecSt.store (r : RecSt) (ev : Ev) (raw : Nat) : RecSt :=
  let room := decide (r.stageUsed + 8 ≤ stageUnits)
  let r := r.sent ev
  let r := { r with inc := r.inc.enter room (.ev ev) }
  if room then { r with blk := r.blk ++ [ev], blkAt := if r.blk.isEmpty then raw else r.blkAt }
  else { r with dropped := r.dropped + 1 }

/-- An event is logged and counted, then stored. -/
def RecSt.take (r : RecSt) (ev : Ev) (raw : Nat) : RecSt :=
  ({ r with log := r.log ++ [ev], evCount := r.evCount + 1 }).store ev raw

/-- Close the open event block (R525, R526); FLAGS bit 0 marks a close under R537. -/
def RecSt.closeBlk (r : RecSt) (pair : Bool) (raw : Nat) (flags : Nat) : RecSt :=
  if r.blk.isEmpty then r
  else { r.put pair ⟨0, 2, r.blk.length, flags, raw, .block r.dropped r.blk⟩ with blk := [], dropped := 0 }

/-- The portal that an event of domains 1, 2 and 4 is about (R522). -/
def evPortal (code src : Nat) (pay : List Int) : Option Nat :=
  let d := code / 4096
  if d = 1 then some (src / 4)
  else if d = 2 then (if code = 0x2003 ∨ code = 0x2004 then none else some src)
  else if code = 0x4007 ∨ code = 0x4008 ∨ code = 0x4009 ∨ code = 0x400A then some src
  else if code = 0x400B ∨ code = 0x400C then some (src / 4)
  else if code = 0x4011 ∨ code = 0x4012 then some (pay.getD 0 0).toNat
  else none

/-- FIRST_FAULT of the open cycle of an event's portal (R522). (Assumption 77 DEDUCED) -/
def Mod.noteFault (m : Mod) (code src : Nat) (pay : List Int) : Mod :=
  match evPortal code src pay with
  | some p => m.onPo p (fun q => { q with cyc := q.cyc.map (fun c =>
      { c with firstFault := if c.firstFault = 0 then code else c.firstFault }) })
  | none => m

/-- One event, stamped with a given fabric time, into every log. -/
def Mod.emitOne (m : Mod) (t : Int) (code src : Nat) (pay : List Int) : Mod :=
  let ev : Ev := ⟨code, src, t, m.raw, pay, m.recd.evCount + 1⟩
  let m := m.noteFault code src pay
  if m.start.inReset then
    m.onRec (fun r => { r with
      log := r.log ++ [ev], evCount := r.evCount + 1,
      boreQ := if r.boreQ.length < 64 then r.boreQ ++ [ev] else r.boreQ,
      dropped := if r.boreQ.length < 64 then r.dropped else r.dropped + 1 })
  else (m.onRec (fun r => r.take ev m.raw)).offerAll ev

/-- Close the open block and report what was dropped since the one before (R525). -/
def Mod.closeBlock (m : Mod) (flags : Nat) : Mod :=
  if m.recd.blk.isEmpty then m
  else
    let d := m.recd.dropped
    let m := m.onRec (fun r => r.closeBlk m.tw.pairFormed m.raw flags)
    if d = 0 then m else m.emitOne m.now 0xA007 0 [d]

/-- Close a block that holds seven events (R525). -/
def Mod.settleBlk (m : Mod) : Mod := if 7 ≤ m.recd.blk.length then m.closeBlock 0 else m

/-- One event without the incident trigger check. -/
def Mod.emitT (m : Mod) (t : Int) (code src : Nat) (pay : List Int) : Mod := (m.emitOne t code src pay).settleBlk

def Mod.emit (m : Mod) (code src : Nat) (pay : List Int) : Mod := m.emitT m.now code src pay

/-- SENTINEL_FULL once (R539). (Assumption 117 DEDUCED) -/
def Mod.settleSent (m : Mod) : Mod :=
  if decide (127 ≤ m.recd.sentinel.length) && !m.recd.sentinelFull then
    (m.onRec (fun r => { r with sentinelFull := true })).emit 0xA009 0 []
  else m

/-- Mark every open portal cycle with a flag of R524, and with a failed condition of R272. -/
def Mod.markCycles (m : Mod) (flag : Nat) (learn : Option Nat) : Mod :=
  { m with po := m.po.map (fun q => { q with cyc := q.cyc.map (fun c => { c with
      flags := c.flags ||| 2 ^ flag,
      learnFail := (match learn with | some n => c.learnFail ++ [n] | none => c.learnFail) }) }) }

def IEnt.time : IEnt → Int
  | .ev e => e.time
  | .frame t _ => t

/-- The newest entries of a buffer that are stamped at or after an instant, and those before them (R531). -/
def splitStamp (t : Int) (l : List IEnt) : List IEnt × List IEnt :=
  let n := l.length - (l.reverse.takeWhile (fun e => decide (t ≤ e.time))).length
  (l.take n, l.drop n)

def Inc.stNum (c : Inc) : Nat :=
  match c.st with
  | .armed => 0
  | .recording => 1
  | .full => 2
  | .off => 3

/-- The numbers of the incident header in the order of R532, without its CRC. -/
def Inc.hdrNow (c : Inc) : List Int :=
  [(c.no : Int), (c.stNum : Int), (c.endCause : Int), (c.trigCode : Int), c.trigTime, (c.preLen : Int), (c.preCopied : Int),
    (c.postLen : Int), (c.missed : Int), (c.gapMs : Int), (c.cycSeq : Int), (c.evSeq : Int)]

/-- The header is written to the older of its two copies (R532). -/
def Inc.putHdr (c : Inc) : Inc := { c with hdrs := (c.hdrs.2, c.hdrNow) }

/-- A trigger of an enabled group (R528, R531, R533). -/
def Mod.trigger (m : Mod) (code : Nat) (time : Int) : Mod :=
  match m.recd.inc.st with
  | .armed =>
    let m := m.onInc (fun c =>
      let (whole, late) := splitStamp time c.pre
      Inc.putHdr { c with
        st := .recording, no := c.no + 1, endCause := 0, trigCode := code, trigTime := time,
        preLen := 32 * unitsOf whole, preCopied := 0, postLen := 0, missed := 0, gapMs := 0,
        cycSeq := m.recd.cyc.head, evSeq := m.recd.evr.head, lastMissEv := none,
        copying := true, pre := whole, preMram := whole, post := [], stage := late })
    let m := (m.onRec (fun r => { r with life := upd r.life 5 (· + 1) })).markCycles 7 none
    m.emit 0xA002 0 [m.recd.inc.no, code]
  | .off => m
  | _ =>
    let m := m.onInc (fun c => { c with missed := min (c.missed + 1) 0xFFFFFFFF })
    let due := match m.recd.inc.lastMissEv with
      | none => true
      | some t => decide (t + SEC ≤ m.raw)
    if due then
      (m.onInc (fun c => { c with lastMissEv := some m.raw })).emit 0xA004 0 [code, m.recd.inc.missed]
    else m

/-- Raise an event (R9, R135, R525, R528): stamped with fabric time, recorded, offered to every event
ring that accepts it, and a trigger of the incident recorder where R528 says so. `raiseT` stamps it
with an instant of its own (R450). -/
def Mod.raiseT (m : Mod) (t : Int) (code src : Nat) (pay : List Int) : Mod :=
  let m := (m.emitT t code src pay).settleSent
  match Ev.trigger ⟨code, src, t, m.raw, pay, 0⟩ with
  | some g => if bit (m.pn P.incidentTriggers 0) g && !m.start.inReset then m.trigger code t else m
  | none => m

/-- (Assumption 8 DESIGN CHOICE) -/
def Mod.raise (m : Mod) (code src : Nat) (pay : List Int) : Mod := m.raiseT m.now code src pay

/-- Latch a fault bit of the health summary (R148). -/
def Mod.faultBit (m : Mod) (i : Nat) : Mod :=
  { m with host := { m.host with faultBits := m.host.faultBits ||| 2 ^ i } }

/-! ### Descriptors (R128 to R130) -/

/-- Fields of a descriptor: word, lowest bit, width, value. -/
abbrev DFields := List (Nat × Nat × Nat × Nat)

/-- What the descriptor of a command says beyond TAG, IRQ and NO_PROGRESS: the context it is staged in, whether
BUF_ADDR is given where the command asks for it, its OPCODE, SELECTOR, INSTANCE, BUF_LEN and argument words, and the data
that stand in words 8 to 15 where they are at most 32 bytes and BUF_ADDR is 0 (R417). -/
structure Desc where
  stage : Option Nat
  buf : Option Bool
  fields : DFields
  inl : List Byte := []
  deriving DecidableEq, Repr

def dOp (op : Nat) : DFields := [(0, 16, 16, op)]
def dSel (n : Nat) : DFields := [(5, 16, 16, n)]
def dInst (n : Nat) : DFields := [(5, 0, 16, n)]
def dLen (n : Nat) : DFields := [(4, 0, 32, n)]
def dArg (k n : Nat) : DFields := [(k, 0, 32, n)]
def dBits (k lo n v : Nat) : DFields := [(k, lo, n, v)]

/-- A descriptor that executes at once: STAGE 0. (Assumption 144 DEDUCED) -/
def desc (l : DFields) : Desc := { stage := none, buf := none, fields := l }

/-- Words 7 to 10 of MOVE and SET_MOTION_LIMITS (R209). -/
def dLimits (sp ac de je : Nat) : DFields := dArg 7 sp ++ dArg 8 ac ++ dArg 9 de ++ dArg 10 je

/-- The fields of a stageable action (R209, R234, R262, R391, R454, R460). -/
def actFields : Action → DFields
  | .move ax a => dOp 0x1020 ++ dInst ax ++ dArg 6 (toBits 32 a.target) ++ dLimits a.speed a.accel a.decel a.jerk
      ++ dBits 11 1 1 (b2n a.redirect) ++ dBits 11 0 1 (b2n a.relative)
  | .setLimits ax l => dOp 0x1021 ++ dInst ax ++ dLimits l.speed l.accel l.decel l.jerk
  | .stop ax => dOp 0x1022 ++ dInst ax
  | .portalRequest p close => dOp 0x2012 ++ dInst p ++ dArg 6 close
  | .sideRelease mask g => dOp 0x2013 ++ dInst 0 ++ dBits 6 0 2 mask ++ dBits 6 8 1 (b2n g)
  | .lsSet n st => dOp 0x5010 ++ dInst n ++ dBits 6 0 2 st
  | .pointWrite pt v => dOp 0x7011 ++ dInst pt ++ dArg 6 (toBits 32 v)
  | .other op => dOp op

/-- Words 6 and 7 of CAN_TX (R417). -/
def canFields (a : CanArgs) : DFields :=
  dBits 6 31 1 (b2n a.ide) ++ dBits 6 30 1 (b2n a.fdf) ++ dBits 6 29 1 (b2n a.brs) ++ dBits 6 0 29 a.ident
    ++ dBits 7 31 1 (b2n a.addrEmbed) ++ dBits 7 30 1 (b2n a.rtr) ++ dBits 7 0 4 a.dlc

/-- AT_TIME and the instant of TXN_COMMIT (R484). -/
def dAtTime : Option Int → DFields
  | none => dBits 6 1 1 0
  | some t => dBits 6 1 1 1 ++ dBits 7 0 30 (t % 1000000000).toNat
      ++ dArg 8 ((t / 1000000000).toNat % 2 ^ 32) ++ dBits 9 0 16 ((t / 1000000000).toNat / 2 ^ 32)

/-- The words are those of a command with this header and this description. -/
def Desc.spells (d : Desc) (h : Hdr) (w : List Nat) : Bool :=
  let f (k lo n : Nat) : Nat := field (w.getD k 0) lo n
  (f 0 0 16 == h.tag) && (f 1 31 1 == b2n h.irq) && (f 1 29 1 == b2n h.noProg)
    && (match d.stage with
      | none => f 1 30 1 == 0
      | some c => f 1 30 1 == 1 && f 1 16 8 == c)
    && (match d.buf with
      | none => true
      | some b => (w.getD 2 0 + w.getD 3 0 != 0) == b)
    && d.fields.all (fun x => f x.1 x.2.1 x.2.2.1 == x.2.2.2)
    && (w.getD 2 0 + w.getD 3 0 != 0 || decide (32 < d.inl.length)
      || (upto d.inl.length).all (fun k => f (8 + k / 4) (8 * (k % 4)) 8 == (d.inl.getD k 0).toNat))

/-- The entry's command has not begun. -/
def Fetched.waits (f : Fetched) : Bool := !f.begun && f.done.isNone

/-- The descriptors a command of a header can come from, in their order: those of its ring, or those fetched from it
before a host-link reset (R113). -/
def Mod.fetchedOf (m : Mod) (h : Hdr) : List Fetched :=
  let g := (m.host.gone.filter (fun x => x.1 == h.ring)).map (fun x => x.2)
  if g.any (fun f => f.waits && f.idx == h.idx) then g else (m.ring h.ring).fetched

/-- The command may execute now: a fetched descriptor that spells it has not begun, and every descriptor before it on its
ring has (R128, R129, R137). -/
def Mod.mayRun (m : Mod) (h : Hdr) (d : Desc) : Bool :=
  match (m.fetchedOf h).find? Fetched.waits with
  | some f => f.idx == h.idx && d.spells h f.words
  | none => false

/-- Mark the first waiting descriptor of a list as begun. -/
def beginFirst : List Fetched → List Fetched
  | [] => []
  | f :: r => if f.waits then { f with begun := true } :: r else f :: beginFirst r

/-- The first waiting descriptor that came from a ring before a host-link reset begins. -/
def beginGone (ring : Nat) : List (Nat × Fetched) → List (Nat × Fetched)
  | [] => []
  | x :: r => if x.1 = ring ∧ x.2.waits then (x.1, { x.2 with begun := true }) :: r else x :: beginGone ring r

/-- The descriptor's command begins. -/
def Mod.begin (m : Mod) (h : Hdr) : Mod :=
  if m.host.gone.any (fun x => x.1 == h.ring && x.2.waits && x.2.idx == h.idx) then
    { m with host := { m.host with gone := beginGone h.ring m.host.gone } }
  else m.onRing h.ring (fun r => { r with fetched := beginFirst r.fetched })

/-! ### Completions (R131 to R134) -/

/-- Write one completion to its ring; a ring that is not active takes none (R113, R126). -/
def Mod.writeCpl (m : Mod) (c : Cpl) : Mod :=
  let r := m.ring c.ring
  if r.active && !r.eventKind && m.host.linkUp && !m.host.d3 then
    let c := { c with slot := r.cplIdx % r.size, phase := phaseOf r.cplIdx r.size, delivered := true }
    let m := m.onRing c.ring (fun r => { r with cplIdx := (r.cplIdx + 1) % 65536 })
    let m := { m with host := { m.host with cpls := m.host.cpls ++ [c] } }
    m.countEntry c.ring (c.irq && c.final)
  else { m with host := { m.host with cpls := m.host.cpls ++ [{ c with delivered := false }] } }

/-- The completions ready at the front, in descriptor order, and what still waits (R133). -/
def readyCpls : List Fetched → List Cpl × List Fetched
  | [] => ([], [])
  | f :: r =>
    match f.done with
    | some c => let (a, b) := readyCpls r; (c :: a, b)
    | none => ([], f :: r)

def Mod.flushRing (m : Mod) (i : Nat) : Mod :=
  let (cs, rest) := readyCpls (m.ring i).fetched
  cs.foldl Mod.writeCpl (m.onRing i (fun r => { r with fetched := rest }))

def Mod.cplOf (m : Mod) (h : Hdr) (r : Reply) (final : Bool) : Cpl :=
  { ring := h.ring, idx := h.idx, tag := h.tag, irq := h.irq, status := r.status, res := r.res,
    detail := r.detail, extra := r.extra, time := (match r.at? with | some t => t | none => m.now),
    buf := r.buf, final := final, phase := false, slot := 0, delivered := false }

/-- The entry is that of a header and has no completion. -/
def Fetched.takes (f : Fetched) (h : Hdr) : Bool := f.idx == h.idx && field (f.words.getD 0 0) 0 16 == h.tag && f.done.isNone

/-- The header is that of a command fetched before a host-link reset that has begun. -/
def Mod.isGone (m : Mod) (h : Hdr) : Bool :=
  m.host.gone.any (fun x => x.1 == h.ring && x.2.begun && x.2.takes h)

/-- A completion that is discarded (R113): the host never sees it. -/
def Mod.discard (m : Mod) (c : Cpl) : Mod := { m with host := { m.host with cpls := m.host.cpls ++ [{ c with delivered := false }] } }

/-- Fix a command's final completion; it is written in descriptor order (R133), or discarded where the command was fetched
before a host-link reset (R113). -/
def Mod.complete (m : Mod) (h : Hdr) (r : Reply) : Mod :=
  let c := m.cplOf h r true
  if m.isGone h then
    { m with host := { m.host with
      gone := m.host.gone.filter (fun x => !(x.1 == h.ring && x.2.begun && x.2.takes h)),
      cpls := m.host.cpls ++ [{ c with delivered := false }] } }
  else if (m.ring h.ring).fetched.any (fun f => f.takes h) then
    (m.onRing h.ring (fun g => { g with
      fetched := g.fetched.map (fun f => if f.takes h then { f with done := some c } else f) })).flushRing h.ring
  else m.discard c

/-- Words 2 and 3 of RESULT. -/
def res2 (w2 w3 : Int) : Nat := toBits 32 w2 + 2 ^ 32 * toBits 32 w3

def okReply : Reply := { status := 0 }
def refuse (st : Nat) : Reply := { status := st }

/-- Run a command that has begun: refused with MODE_NOT_PERMITTED where the mode does not accept it (R80, R81), otherwise
its body, which completes it now or leaves it for later. -/
def Mod.cmdNow (m : Mod) (h : Hdr) (accept : Mode → Bool) (body : Mod → Mod × Option Reply) : Mod :=
  if m.alive then
    if accept m.md then
      match body m with
      | (m', some r) => m'.complete h r
      | (m', none) => m'
    else m.complete h (refuse 0x2101)
  else m

/-- Run a ring command: the module executes the descriptors it fetched and no others, each ring's in index order
(R129, R137). (Assumption 144 DEDUCED) -/
def Mod.cmd (m : Mod) (h : Hdr) (d : Desc) (accept : Mode → Bool) (body : Mod → Mod × Option Reply) : Mod :=
  if m.alive && m.mayRun h d then (m.begin h).cmdNow h accept body else m

/-- The words of a timestamp (R131, R135): nanoseconds, seconds bits 31:0, seconds bits 47:32. -/
def tsWords (t : Int) : Nat × Nat × Nat :=
  let sec := (t / 1000000000).toNat
  ((t % 1000000000).toNat, sec % 2 ^ 32, sec / 2 ^ 32 % 65536)

/-- The 8 words of a completion as the host reads them (R131): STATUS and TAG; PHASE and DESC_INDEX; RESULT; the
timestamp; DETAIL; EXTRA. -/
def Cpl.words (c : Cpl) : List Nat :=
  let t := tsWords c.time
  [c.status % 65536 * 65536 + c.tag % 65536, b2n c.phase * 2 ^ 31 + c.idx % 65536,
    c.res % 2 ^ 32, c.res / 2 ^ 32 % 2 ^ 32, t.1, t.2.1, c.detail % 65536 * 65536 + t.2.2, c.extra % 2 ^ 32]

/-! ### Long operations (R139 to R142) -/

/-- A long operation takes a slot; its first turn comes after those that wait already (R140). -/
def Mod.addOp (m : Mod) (h : Option Hdr) (k : LongKind) (est : Nat) : Mod :=
  { m with host := { m.host with
    ops := m.host.ops ++ [⟨h, k, 0, est, none, none, false, 0, m.host.stepNo⟩] } }

/-- Begin a long operation, or refuse it with LONG_OP_SLOTS_FULL (R140). -/
def Mod.startLong (m : Mod) (h : Option Hdr) (k : LongKind) (est : Nat) : Mod × Option Reply :=
  if 8 ≤ m.host.ops.length then (m, some (refuse 0x2002))
  else (m.addOp h k est, none)

/-- Complete to a ring, or to no one for a service-port command. -/
def Mod.completeTo (m : Mod) (h : Option Hdr) (r : Reply) : Mod :=
  match h with
  | some h => m.complete h r
  | none => m

/-- Take the long operations that satisfy a test out of the running list. -/
def Mod.dropOps (m : Mod) (f : LongOp → Bool) : Mod :=
  { m with host := { m.host with ops := m.host.ops.filter (fun o => !f o) } }

/-! ### Mode triggers (R84) -/

/-- Leave a trigger for the next budget period boundary. -/
def Mod.trig (m : Mod) (t : Trig) : Mod :=
  if m.mode.trigs.contains t then m
  else { m with mode := { m.mode with trigs := m.mode.trigs ++ [t] } }

/-! ### Values that wait for their instant (R8) -/

/-- The definition and instance of a key. -/
def keyDef (k : Nat) : Option (PDef × Nat) := (pFind (k / 65536)).map (fun d => (d, k % 65536))

def PStore.setKey (st : PStore) (kv : Nat × Int) : PStore :=
  match keyDef kv.1 with
  | some (d, i) => st.set d i kv.2
  | none => st

/-- Put the waiting values that satisfy a test in force. -/
def Mod.takeDue (m : Mod) (f : PDef → Nat → Bool) : Mod :=
  let hit (kv : Nat × Int) : Bool := match keyDef kv.1 with
    | some (d, i) => f d i
    | none => false
  { m with live := (m.due.filter hit).foldl PStore.setKey m.live, due := m.due.filter (fun kv => !hit kv) }

/-- Send something on a link. -/
def Mod.send (m : Mod) (link kind dest : Nat) (body : List Int) (trailer : List Nat := []) : Mod :=
  { m with fab := { m.fab with sent := m.fab.sent ++ [⟨link, kind, dest, body, trailer⟩] } }

/-- Send to the twin: a link without a formed pair carries its version exchange and heartbeats only (R487). -/
def Mod.sendTwin (m : Mod) (kind dest : Nat) (body : List Int) : Mod :=
  if m.tw.pairFormed then m.send 4 kind dest body else m

/-- Next multiple of a period after an instant. -/
def nextMul (raw per : Nat) : Nat := (raw / per + 1) * per

/-! ### The outer form of a meaning -/

abbrev Out := Host.Outcome State Fault Refusal

end Sys2Proof.Machine
end

