-- ==== Sys2Proof/Machine/Motion.lean ====
section
/-! DEFINITION. Plans as functions of time (R202, R206, R207, R217, R220, R221, R579): segments of
constant jerk, evaluated exactly; ramps, moves and stops. Along a move, speed and distance are taken
positive toward its target. -/
namespace Sys2Proof.Machine

/-- 2^-16 MOT ticks in one second. (Assumption 64 DEDUCED) -/
def TQ : Nat := 13107200000000

/-! ### One segment -/

/-- Displacement of a segment after `t`. -/
def Seg.dx (s : Seg) (t : Nat) : Int :=
  (6 * s.v * t * TQ * TQ + 3 * s.a * t * t * TQ + s.j * t * t * t) / (6 * TQ * TQ * TQ : Nat)

def Seg.vAt (s : Seg) (t : Nat) : Int :=
  s.v + (2 * s.a * t * TQ + s.j * t * t) / (2 * TQ * TQ : Nat)

def Seg.aAt (s : Seg) (t : Nat) : Int := s.a + s.j * t / (TQ : Nat)

def segsDur (l : List Seg) : Nat := l.foldl (fun n s => n + s.dur) 0

def segsDx (l : List Seg) : Int := l.foldl (fun x s => x + s.dx s.dur) 0

def Seg.neg (s : Seg) : Seg := ⟨s.dur, -s.v, -s.a, -s.j⟩

/-- Position, speed and acceleration at an instant. -/
structure Kin where
  p : Int
  v : Int
  a : Int
  deriving DecidableEq, Repr

/-- State after `t` of a segment list that starts at `p`; past its end the axis rests at `rest`. -/
def segsAt (rest : Int) : List Seg → Int → Nat → Kin
  | [], _, _ => ⟨rest, 0, 0⟩
  | s :: r, p, t =>
    if t < s.dur then ⟨p + s.dx t, s.vAt t, s.aAt t⟩ else segsAt rest r (p + s.dx s.dur) (t - s.dur)

def Move.dur (mv : Move) : Nat := segsDur mv.segs

/-- End of the plan in 2^-16 ticks. -/
def Move.stop_ (mv : Move) : Nat := mv.start + mv.dur

def Move.kin (mv : Move) (raw : Nat) : Kin :=
  if raw * 65536 < mv.start then ⟨mv.p0, 0, 0⟩
  else segsAt mv.rest mv.segs mv.p0 (raw * 65536 - mv.start)

def Move.ended (mv : Move) (raw : Nat) : Bool := decide (mv.stop_ ≤ raw * 65536)

/-- Direction of a move: the sign of its displacement. -/
def Move.sign (mv : Move) : Int := if mv.rest < mv.p0 then -1 else 1

/-! ### Ramps -/

/-- Put speeds to a list of (length, acceleration, jerk). -/
def segsFrom : Int → List (Nat × Int × Int) → List Seg
  | _, [] => []
  | v, (t, a, j) :: r =>
    let s : Seg := ⟨t, v, a, j⟩
    s :: segsFrom (s.vAt t) r

/-- A ramp over a speed difference `dv` at `acc`, with jerk `jk` (0: none); `sg` is its sign.
 (Assumption 64 DEDUCED) -/
def ramp (sg : Int) (dv acc jk : Nat) : List (Nat × Int × Int) :=
  if dv = 0 ∨ acc = 0 then []
  else if jk = 0 then [(dv * TQ / acc, sg * acc, 0)]
  else if acc * acc ≤ dv * jk then
    let tj := acc * TQ / jk
    [(tj, 0, sg * jk), (dv * TQ / acc - tj, sg * acc, 0), (tj, sg * acc, -(sg * jk))]
  else
    let tj := isqrt (dv * TQ * TQ / jk)
    let ap := isqrt (dv * jk)
    [(tj, 0, sg * jk), (tj, sg * ap, -(sg * jk))]

/-- Up or down from speed `v0` to `v1`. -/
def rampTo (v0 v1 : Nat) (lim : Lim) : List Seg :=
  if v0 ≤ v1 then segsFrom v0 (ramp 1 (v1 - v0) lim.a lim.j)
  else segsFrom v0 (ramp (-1) (v0 - v1) lim.d lim.j)

/-- Ramp to `vp`, then to rest. (Assumption 64 DEDUCED) -/
def upDown (v0 vp : Nat) (lim : Lim) : List Seg × List Seg := (rampTo v0 vp lim, rampTo vp 0 lim)

def upDownDx (v0 vp : Nat) (lim : Lim) : Int :=
  let (a, b) := upDown v0 vp lim
  segsDx a + segsDx b

/-- The largest peak speed not above `hi` whose ramps fit in `dist` (R207), one bit per fuel.
 (Assumption 64 DEDUCED) -/
def peakLoop (v0 : Nat) (lim : Lim) (dist : Int) (hi : Nat) : Nat → Nat → Nat
  | 0, r => r
  | k + 1, r =>
    let t := r + 2 ^ k
    if t ≤ hi ∧ upDownDx v0 t lim ≤ dist then peakLoop v0 lim dist hi k t
    else peakLoop v0 lim dist hi k r

/-- The peak speed of a trapezoid from `v0` (R206). (Assumption 64 DEDUCED) -/
def peakTrap (v0 : Nat) (lim : Lim) (dist : Nat) : Nat :=
  min lim.v (isqrt ((2 * dist * lim.a * lim.d + lim.d * v0 * v0) / (lim.a + lim.d)))

/-- The plan from speed `v0` to rest after `dist`, within the limits (R206, R207). (Assumption 64 DEDUCED) -/
def planSegs (v0 : Nat) (dist : Nat) (lim : Lim) : List Seg :=
  let vp := if lim.v < v0 then lim.v
    else if lim.j = 0 then max v0 (peakTrap v0 lim dist)
    else max (min v0 lim.v) (peakLoop v0 lim dist lim.v 40 0)
  let (a, b) := upDown v0 vp lim
  let left := (dist : Int) - segsDx a - segsDx b
  let c := if vp = 0 ∨ left ≤ 0 then [] else [⟨left.toNat * TQ / vp, vp, 0, 0⟩]
  a ++ c ++ b

/-- Bring an acceleration `a0` to 0 with the jerk in force. -/
def settleAcc (v0 : Int) (a0 : Int) (jk : Nat) : List Seg :=
  if jk = 0 ∨ a0 = 0 then []
  else [⟨a0.natAbs * TQ / jk, v0, a0, if a0 < 0 then (jk : Int) else -(jk : Int)⟩]

/-- A stop from speed `v0` and acceleration `a0` at `dec` and jerk (R217). -/
def stopSegs (v0 : Nat) (a0 : Int) (dec jk : Nat) : List Seg :=
  if v0 = 0 ∨ dec = 0 then []
  else if jk = 0 then [⟨v0 * TQ / dec, v0, -(dec : Int), 0⟩]
  else
    let sq := a0 * a0
    let pk := min dec (isqrt (jk * v0 + (sq / 2).toNat))
    let t1 := ((a0 + pk).toNat) * TQ / jk
    let v1 : Int := v0 + (sq - pk * pk) / (2 * jk)
    let v3 : Int := (pk * pk : Nat) / (2 * jk : Nat)
    let t2 := if pk = 0 then 0 else (v1 - v3).toNat * TQ / pk
    segsFrom v0 [(t1, a0, -(jk : Int)), (t2, -(pk : Int), 0), (pk * TQ / jk, -(pk : Int), jk)]

/-- Constant deceleration to rest. -/
def brake (v0 dec : Nat) : List Seg := if dec = 0 then [] else [⟨v0 * TQ / dec, v0, -(dec : Int), 0⟩]

/-- v^2 / (2 s) of R220, rounded up so that the axis stops within s. -/
def dReq (v s : Nat) : Nat := if s = 0 then 0 else (v * v + 2 * s - 1) / (2 * s)

/-! ### Moves -/

def orient (sg : Int) (l : List Seg) : List Seg := if sg < 0 then l.map Seg.neg else l

/-- A move from rest at `p0`, starting at `start`, to a target in microsteps (R202). -/
def startMove (start : Nat) (p0 : Int) (n : Pend) : Move :=
  let tgt := n.target * 65536
  let sg : Int := if tgt < p0 then -1 else 1
  { start := start, p0 := p0, segs := orient sg (planSegs 0 (tgt - p0).natAbs n.lim), rest := tgt,
    target := n.target, lim := n.lim, src := n.src, tag := n.tag, jog := n.jog, home := n.home,
    stop := none, next := none, overrun := false, toEnc := false, fresh := true }

/-- A ramp that must not pass `s`: the given one where it fits, else a constant deceleration to rest at `s`. -/
def withinSegs (segs : List Seg) (v : Nat) (s : Int) : List Seg :=
  if segsDx segs ≤ s ∨ s ≤ 0 then segs else brake v (dReq v s.toNat)

/-- Distance to the target along a direction. -/
def Move.left (mv : Move) (sg p : Int) : Int := sg * (mv.target * 65536 - p)

/-- The stop of a running move from an instant (R217), never past its target; a stop already running, and the ramp of an
overrun, go on unchanged and only change their cause (R218). -/
def Move.halt (mv : Move) (raw : Nat) (why : StopWhy) : Move :=
  if mv.stop.isSome ∨ mv.overrun then { mv with stop := some why }
  else
    let k := mv.kin raw
    let sg : Int := if k.v < 0 then -1 else if k.v = 0 then mv.sign else 1
    let s := mv.left sg k.p
    let own := stopSegs k.v.natAbs (sg * k.a) mv.lim.d mv.lim.j
    let segs := withinSegs own k.v.natAbs s
    let rest := if 0 < s ∧ s < segsDx own then mv.target * 65536 else k.p + sg * segsDx segs
    { mv with start := raw * 65536, p0 := k.p, segs := orient sg segs, rest := rest, stop := some why }

/-- What a change of limits or a resumption leads to: the move, the status of R221, and d_req. -/
structure Replan where
  mv : Move
  status : Nat
  dreq : Nat
  deriving DecidableEq, Repr

/-- What is left of a plan after `t`. -/
def segsLeft : List Seg → Nat → List Seg
  | [], _ => []
  | s :: r, t => if t < s.dur then s :: r else segsLeft r (t - s.dur)

/-- A plan is on its last ramp: nothing but deceleration is left. -/
def Move.lastRamp (mv : Move) (raw : Nat) : Bool :=
  let l := segsLeft mv.segs (raw * 65536 - mv.start)
  !l.isEmpty && l.all (fun s =>
    let a := mv.sign * s.a
    decide (a < 0) || (decide (a = 0) && decide (mv.sign * s.j < 0)))

/-- Hold a speed until only the distance of a constant deceleration is left, then brake (R221 row 1). -/
def holdBrake (v : Nat) (s : Int) (d : Nat) : List Seg :=
  let b := brake v d
  let left := s - segsDx b
  if v = 0 ∨ left ≤ 0 then b else ⟨left.toNat * TQ / v, v, 0, 0⟩ :: b

/-- A plan from speed `v` and acceleration `a` that ends at `s`, known to be in reach at `lim.d`: with the jerk in force
where that fits, else by a constant deceleration (R215, R221). `hold`: it decelerates already and gains no speed.
 (Assumption 142 DEDUCED) -/
def reachSegs (v : Nat) (a : Int) (s : Int) (lim : Lim) (hold : Bool) : List Seg :=
  let pre := settleAcc v a lim.j
  let v1 := (match pre with
    | [] => (v : Int)
    | q :: _ => q.vAt q.dur).toNat
  let left := s - segsDx pre
  let full := planSegs v1 left.toNat (if hold then { lim with v := min lim.v v1 } else lim)
  let late := pre ++ holdBrake v1 left lim.d
  if 0 ≤ left ∧ segsDx full ≤ left then pre ++ full
  else if lim.j = 0 ∨ segsDx late ≤ s then withinSegs late v s
  else withinSegs (holdBrake v s lim.d) v s

/-- Recompute a running move or stop from a given state toward its fixed target (R215, R220, R221, R579). `own`: the
state is the plan's own; `safeMax` is DECEL_SAFE_MAX. (Assumption 142 DEDUCED) -/
def Move.replan (mv : Move) (raw : Nat) (k : Kin) (lim : Lim) (safeMax : Nat) (own : Bool) : Replan :=
  let tgt := mv.target * 65536
  let base := { mv with start := raw * 65536, p0 := k.p, lim := lim }
  let sg := mv.sign
  let v := k.v.natAbs
  let s := mv.left sg k.p
  let dir : Int := if k.v < 0 then -1 else 1
  let endAt (segs : List Seg) (rest : Int) (m : Move) : Move :=
    { m with segs := orient dir segs, rest := rest }
  let brakeAt (d : Nat) : Move := endAt (brake v d) (k.p + dir * segsDx (brake v d)) { base with overrun := true }
  if v = 0 then
    (if mv.stop.isSome then ⟨endAt [] k.p base, 0, 0⟩
     else
       let to_ : Int := if tgt < k.p then -1 else 1
       ⟨{ base with segs := orient to_ (planSegs 0 (tgt - k.p).natAbs lim), rest := tgt }, 0, 0⟩)
  else if s ≤ 0 then ⟨brakeAt safeMax, 0x0011, 0⟩
  else if dir ≠ sg then ⟨brakeAt lim.d, 0, 0⟩
  else
    let need := dReq v s.toNat
    let fits := decide (need ≤ lim.d) || (own && decide (mv.lim.d ≤ lim.d))
    if own && decide (lim.d = mv.lim.d) && decide (lim.j = mv.lim.j) && (mv.stop.isSome || mv.overrun || mv.lastRamp raw) then
      ⟨{ mv with lim := lim }, 0, need⟩
    else if fits then
      if mv.stop.isSome then
        let segs := stopSegs v (sg * k.a) lim.d lim.j
        let segs := if segsDx segs ≤ s then segs else withinSegs (brake v lim.d) v s
        ⟨endAt segs (if segsDx segs < s then k.p + sg * segsDx segs else tgt) base, 0, need⟩
      else ⟨endAt (reachSegs v (sg * k.a) s lim (mv.lastRamp raw)) tgt base, 0, need⟩
    else if need ≤ safeMax then ⟨endAt (brake v need) tgt base, 0x0010, need⟩
    else ⟨brakeAt safeMax, 0x0011, need⟩

/-! ### Host units (R4, R5, R204, R205) -/

/-- um to microsteps. (Assumption 68 DEDUCED) -/
def toSteps (scale : Nat) (x : Int) : Int := roundDiv (x * 67108864) scale

/-- microsteps to um. -/
def toUm (scale : Nat) (p : Int) : Int := roundDiv (p * scale) 67108864

/-- um/s, um/s^2 or um/s^3 to 2^-16 microsteps. -/
def toQ (scale x : Nat) : Nat := x * 4398046511104 / scale

/-- 2^-16 microsteps per s^n back to um. -/
def ofQ (scale x : Nat) : Nat := (x * scale + 2199023255552) / 4398046511104

/-- The ceiling of R157 in 2^-16 microsteps per second. -/
def speedCeil : Nat := 2048000 * 65536

end Sys2Proof.Machine
end

