-- ==== Sys2Proof/Machine/Drive.lean ====
section
/-! DEFINITION. Axis drive (05): encoder position, fingering tables, amplitude, chopper, encoder
checks, drive faults; and what removes torque (R219, R313). -/
namespace Sys2Proof.Machine

/-! ### Fingering tables (R158 to R163) -/

/-- PHASE_A and PHASE_B of an entry's word (R158). -/
def entryOf (w : Nat) : Int × Int := (ofBits 12 (field w 16 12), ofBits 12 (field w 0 12))

def wordOf (e : Int × Int) : Nat := toBits 12 e.1 * 65536 + toBits 12 e.2

/-- The user table an axis selects and can use. (Assumption 55 DEDUCED) -/
def Axis.userTab (a : Axis) (n : Nat) : Option FTab :=
  if n = 0 then none
  else match a.tabs.getD (n - 1) none with
    | some t => if t.valid then some t else none
    | none => none

def Mod.sel (m : Mod) (i : Nat) : Nat := m.pn P.fingeringTable i

/-- The user table an axis runs on: none on table 0, and none while it stands on the fall-back (R163). -/
def Mod.inUse (m : Mod) (i : Nat) : Option FTab :=
  if (m.axis i).fellBack then none else (m.axis i).userTab (m.sel i)

/-- The set-points at a table address: table 0 where the selected table is invalid (R163). -/
def Mod.tabEntry (m : Mod) (i : Nat) (addr : Nat) : Int × Int :=
  match m.inUse i with
  | some t => entryOf (t.words.getD addr 0)
  | none => sineEntry addr

/-- 1,024 times the larger mean square of the selected table; the sine has 2,047^2 / 2 (R161, R166). -/
def Mod.tabMs (m : Mod) (i : Nat) : Nat :=
  match m.inUse i with
  | some t => max t.msA t.msB
  | none => 2047 * 2047 * 512

/-- tan(5.625 deg) as a fraction, for the angle test of R160. -/
def tanMax : Nat × Nat := (98491403357164253077, 1000000000000000000000)

/-- R160 on one entry and its follower: ranges, magnitude, and an advance above 0 and at most 5.625
degrees (sine and cosine of the advance by cross and dot product). -/
def entryOk (w nx : Nat) : Bool :=
  let (a, b) := entryOf w
  let (c, d) := entryOf nx
  let mag := a * a + b * b
  decide (field w 28 4 = 0) && decide (field w 12 4 = 0) && decide (w < 2 ^ 32)
    && decide (-2047 ≤ a) && decide (-2047 ≤ b)
    && decide ((1024 * 1024 : Int) ≤ mag) && decide (mag ≤ (2047 * 2047 : Int))
    && decide (0 < a * d - b * c) && decide (0 < a * c + b * d)
    && decide ((a * d - b * c) * tanMax.2 ≤ (a * c + b * d) * tanMax.1)

/-- Quadrant of an entry's electrical angle, 0 to 3. -/
def quadrant (e : Int × Int) : Nat :=
  if 0 < e.1 ∧ 0 ≤ e.2 then 0 else if e.1 ≤ 0 ∧ 0 < e.2 then 1 else if e.1 < 0 ∧ e.2 ≤ 0 then 2 else 3

/-- Passages from quadrant 3 to 0 over the whole table: the number of turns. -/
def turns (l : List Nat) : Nat :=
  let qs := l.map (fun w => quadrant (entryOf w))
  ((qs.zip (qs.drop 1 ++ qs.take 1)).filter (fun x => x.1 == 3 && x.2 == 0)).length

def firstBad (k : Nat) : List (Nat × Nat) → Option Nat
  | [] => none
  | (w, nx) :: r => if entryOk w nx then firstBad (k + 1) r else some k

/-- The first failing entry of a user table, or 1,024 when only the sum fails (R160). -/
def tableFault (l : List Nat) : Option Nat :=
  match firstBad 0 (l.zip (l.drop 1 ++ l.take 1)) with
  | some k => some k
  | none => if turns l = 1 then none else some 1024

/-- The accepted table: its words, CRC-32 and mean squares (R161). -/
def mkTab (b : List Byte) : FTab :=
  let w := toWords 1024 b
  let sum (f : Int × Int → Int) : Nat := (w.foldl (fun (s : Int) x => s + f (entryOf x) * f (entryOf x)) 0).toNat
  ⟨true, w, crc32 b, sum (·.1), sum (·.2)⟩

/-! ### Encoders (R153, R181, R184 to R187) -/

/-- Signal A changes: A leads B while the count rises (R181). (Assumption 136 DEDUCED) -/
def Quad.onA (q : Quad) (l : Bool) : Quad :=
  { q with a := l, heldA := 0, n := wrap32 (q.n + if l = q.b then -1 else 1) }

/-- (Assumption 136 DEDUCED) -/
def Quad.onB (q : Quad) (l : Bool) : Quad :=
  { q with b := l, heldB := 0, n := wrap32 (q.n + if l = q.a then 1 else -1) }

/-- One run of levels through the filter and the x4 decoder (R181): a new level counts once it has held for `f` MOT
ticks; both signals on one filtered sample are an illegal transition, which moves no count.
 (Assumption 136 DEDUCED) -/
def Quad.run (f : Nat) (q : Quad) (r : EncRun) : Quad :=
  let ha := if r.a = q.a then 0 else q.heldA + r.ticks
  let hb := if r.b = q.b then 0 else q.heldB + r.ticks
  let da := decide (r.a ≠ q.a) && decide (f ≤ ha)
  let db := decide (r.b ≠ q.b) && decide (f ≤ hb)
  let q := { q with heldA := ha, heldB := hb }
  if da && db then
    (if ha = hb then { q with a := r.a, b := r.b, heldA := 0, heldB := 0 }
     else if hb < ha then (q.onA r.a).onB r.b else (q.onB r.b).onA r.a)
  else if da then q.onA r.a else if db then q.onB r.b else q

/-- The decoder of an axis follows its lines. (Assumption 136 DEDUCED) -/
def Mod.decode (m : Mod) (i : Nat) (l : List EncRun) : Mod :=
  let f := m.pn P.encFilter i
  m.onAx i (fun a => { a with quad := l.foldl (Quad.run f) a.quad })

/-- Position in microsteps of a count of either channel (R187). Z_REF is kept in 2^-16 count. -/
def Mod.posOf (m : Mod) (i : Nat) (c : Int) : Int :=
  let a := m.axis i
  let dir : Int := if m.p P.encDir i = 1 then -1 else 1
  wrap32 (roundDiv (dir * (c * 65536 - a.zRef) * m.p P.encScale i) 4294967296 + m.p P.encOffset i + a.homeRef)

/-- The Z_REF at which a count has a position (R187, R226, R493). -/
def Mod.zRefFor (m : Mod) (i : Nat) (c p : Int) : Int :=
  let dir : Int := if m.p P.encDir i = 1 then -1 else 1
  c * 65536 - dir * roundDiv ((p - m.p P.encOffset i - (m.axis i).homeRef) * 4294967296) (max 1 (m.p P.encScale i))

/-- P_ENC in microsteps, of the last tick's sample. -/
def Mod.pEnc (m : Mod) (i : Nat) : Int :=
  match (m.axis i).frozen with
  | some x => x
  | none => m.posOf i (m.axis i).count

/-- The error e = P_CMD - P_ENC in microsteps (R4, R190). -/
def Mod.err (m : Mod) (i : Nat) : Int := wrap32 ((m.axis i).pcmd - m.pEnc i)

/-- The encoder position the current loop uses (R155): the count of the last 25 us sample, for SSI the last frame's
extrapolated with the speed of the last two (R184). -/
def Mod.pLoop (m : Mod) (i : Nat) : Int :=
  let a := m.axis i
  match a.frozen with
  | some x => x
  | none =>
    if m.p P.encType i = 2 then
      m.posOf i (a.count + a.ssiDelta * (m.raw - a.ssiAt : Nat) / (max 1 (m.pn P.ssiPeriod i) * US : Nat))
    else m.posOf i a.loopCount

def Mod.scale (m : Mod) (i : Nat) : Nat := m.pn P.axisScale i

/-- Host position of a microstep position (R205). -/
def Mod.hostPos (m : Mod) (i : Nat) (p : Int) : Int := toUm (m.scale i) (p + (m.axis i).posOrigin)

/-- Microstep position of a host position (R205). -/
def Mod.stepPos (m : Mod) (i : Nat) (x : Int) : Int := toSteps (m.scale i) x - (m.axis i).posOrigin

/-- A distance in microsteps as um. -/
def Mod.um (m : Mod) (i : Nat) (d : Int) : Int := toUm (m.scale i) d

def Mod.lastTick (m : Mod) : Nat := m.tickAt - 20000

/-- P_INT: linear from P_CMD(k-1) to P_CMD(k) over the tick, every us, truncated toward P_CMD(k-1)
(R153). -/
def Mod.pInt (m : Mod) (i : Nat) : Int :=
  let a := m.axis i
  let k := min 100 ((m.raw - m.lastTick) / US)
  wrap32 (a.pcmdPrev + truncDiv (wrap32 (a.pcmd - a.pcmdPrev) * k) 100)

/-! ### Roles (R237, R238) -/

def Mod.enabled (m : Mod) (p : Nat) : Bool :=
  decide (p < InstK.portal.count m.id.part) && decide (m.p P.portalEnable p = 1)

/-- The axis of a role (0 leaf L, 1 leaf R, 2 step, 3 lock) of a portal. -/
def Mod.roleAxis (m : Mod) (p r : Nat) : Option Nat :=
  let k := field (m.pn P.portalAxisMap p) (3 * r) 3
  if k < 4 then some (4 * p + k) else none

/-- The portal and role an axis holds in an enabled portal. -/
def Mod.roleOf (m : Mod) (i : Nat) : Option (Nat × Nat) :=
  let p := i / 4
  if m.enabled p then ((upto 4).find? (fun r => m.roleAxis p r == some i)).map (fun r => (p, r)) else none

def Mod.roleAxes (m : Mod) (p : Nat) : List Nat := (upto 4).filterMap (m.roleAxis p)

def Mod.leaves (m : Mod) (p : Nat) : List Nat := (upto 2).filterMap (m.roleAxis p)

def Mod.isLeaf (m : Mod) (i : Nat) : Bool :=
  match m.roleOf i with
  | some (_, r) => decide (r < 2)
  | none => false

/-- A role's position POSk in um, none while unset (R261). -/
def Mod.posUm (m : Mod) (p r k : Nat) : Option Int :=
  let v := m.p P.portalPos (16 * p + 4 * r + k)
  if v = unset then none else some v

def Mod.sideOf (m : Mod) (p : Nat) : Side := if m.p P.portalSide p = 1 then .R else .L

/-- An axis moves from the start of a move until its plan has ended (R211); a pending REDIRECT move goes on from there. -/
def Mod.moving (m : Mod) (i : Nat) : Bool := (m.axis i).mv.any (fun mv => !mv.ended m.raw || mv.next.isSome)

def Mod.allRest (m : Mod) : Bool := m.axes.all (fun i => !m.moving i)

def Mod.portalRest (m : Mod) (p : Nat) : Bool := (m.roleAxes p).all (fun i => !m.moving i)

/-! ### Force constant (R266) -/

/-- (Assumption 59 PRESUMED) -/
def piN : Nat := 3141592653589793
/-- (Assumption 59 PRESUMED) -/
def piD : Nat := 1000000000000000

/-- K in N per A as a fraction. -/
def Mod.kForce (m : Mod) (i : Nat) : Nat × Nat :=
  (m.pn P.torqueConstant i * m.pn P.transmissionEff i * 2 * piN * 655360,
   m.pn P.polePairs i * m.scale i * piD)

/-- round(1,000 * F / K * 4,096 / 10,000), the AMP of a force in 0.1 N (R284, R321). -/
def Mod.ampOfForce (m : Mod) (i : Nat) (f10 : Nat) : Nat :=
  let (n, d) := m.kForce i
  if n = 0 then 4095 else min 4095 ((2 * f10 * 4096 * d + 100 * n) / (200 * n))

/-! ### Amplitude (R164 to R166) -/

/-- AMP of a current in mA. -/
def ampOf (ma : Nat) : Nat := min 4095 ((ma * 4096 + 5000) / 10000)

/-- The direction of a leaf's plan: toward POS0. -/
def Mod.toward0 (m : Mod) (i : Nat) : Bool :=
  match m.roleOf i, (m.axis i).mv with
  | some (p, r), some mv =>
    (match m.posUm p r 0, m.posUm p r 1 with
      | some a, some b =>
        let end_ := (if mv.rest < mv.p0 then (-1 : Int) else 1)
        decide (mv.rest ≠ mv.p0) && decide (sgn (a - b) = end_)
      | _, _ => false)
  | _, _ => false

def Mod.toward1 (m : Mod) (i : Nat) : Bool :=
  match (m.axis i).mv with
  | some mv => decide (mv.rest ≠ mv.p0) && !m.toward0 i
  | none => false

/-- Closing direction of a leaf (R275, R321): its plan runs toward POS0, or it rests in CLOSING. -/
def Mod.closingDir (m : Mod) (i : Nat) : Bool :=
  match m.roleOf i with
  | some (p, r) => decide (r < 2) && (m.toward0 i || (!m.moving i && decide ((m.portal p).state = 5)))
  | none => false

/-- What R165 asks for: RUN_CURRENT while moving, the ramp to HOLD_CURRENT after HOLD_DELAY, HOME_CURRENT
in a homing search (R225). -/
def Mod.ampAsk (m : Mod) (i : Nat) : Nat :=
  let a := m.axis i
  let run := match a.home with
    | some h => if h.ph = .backoff ∨ h.ph = .confirm then m.pn P.runCurrent i else m.pn P.homeCurrent i
    | none => m.pn P.runCurrent i
  match a.home, a.ramp with
  | some _, _ => ampOf run
  | none, none => ampOf run
  | none, some (t, from_) =>
    let goal := ampOf (m.pn P.holdCurrent i)
    let dt := min (50 * MS) (m.raw - t)
    ((from_ : Int) + ((goal : Int) - from_) * dt / (50 * MS : Nat)).toNat

/-- The ceilings of R166: (peak, rms). -/
def Mod.ampPeak (m : Mod) : Nat := ampOf (m.sup.kT)

def Mod.ampRms (m : Mod) (i : Nat) : Nat :=
  let lim := 7000 * m.sup.kT / 10000
  min 4095 (isqrt (lim * lim * 4096 * 4096 * 2047 * 2047 * 1024 / (100000000 * max 1 (m.tabMs i))))

/-- The caps of R284, R287 and R321 on a leaf; the lowest one. -/
def Mod.ampCaps (m : Mod) (i : Nat) : Nat :=
  let o := m.obst i
  let c1 := o.cap.getD 4095
  let c2 := match o.relief, m.roleOf i with
    | true, some (p, _) => if m.moving i then 4095 else ampOf (m.pn P.pocketReliefCurrent p)
    | _, _ => 4095
  let c3 := match m.roleOf i with
    | some (p, _) => if m.closingDir i then m.ampOfForce i (10 * m.pn P.closeForceLimit p) else 4095
    | none => 4095
  min c1 (min c2 c3)

/-- Recompute AMP and its ceiling; CURRENT_DERATED when a ceiling of R166 begins to lower it. -/
def Mod.ampUpdate (m : Mod) (i : Nat) : Mod :=
  let a := m.axis i
  let ask := m.ampAsk i
  let pk := m.ampPeak
  let rm := if a.rmsCap then m.ampRms i else 4095
  let ceil := min pk rm
  let which := if ask ≤ ceil then 0 else if pk ≤ rm then 1 else 2
  let amp := min (min ask ceil) (m.ampCaps i)
  let m := m.onAx i (fun a => { a with amp := amp, ampCeil := which, derated := decide (which ≠ 0) })
  if decide (which ≠ 0) && !a.derated then m.raise 0x1006 i [which, amp] else m

/-! ### Ends of moves, torque, STO -/

/-- (Assumptions 10 DESIGN CHOICE, 16 DESIGN CHOICE) -/
def Mod.life (m : Mod) (k n : Nat) : Mod :=
  m.onRec (fun r => { r with life := upd r.life k (fun x => min (x + n) (2 ^ 64 - 1)) })

/-- Lifetime counter k of an axis or a portal (R527). -/
def lifeAxis (i k : Nat) : Nat := 6 + 32 + 7 * i + k
def lifePortal (p k : Nat) : Nat := 6 + 8 * p + k

/-- AXIS_MOVE_END (R211, R236), stamped with an instant of R_RAW. -/
def Mod.moveEndAt (m : Mod) (i : Nat) (tag reason raw : Nat) : Mod :=
  m.raiseT (fabAt m.time raw) 0x1021 i [tag, reason, m.hostPos i (m.axis i).pcmd]

def Mod.moveEnd (m : Mod) (i : Nat) (tag reason : Nat) : Mod := m.moveEndAt i tag reason m.raw

def Mod.onCyc (m : Mod) (p : Nat) (f : CycAcc → CycAcc) : Mod :=
  m.onPo p (fun q => { q with cyc := q.cyc.map f })

/-- Mark the portal cycle of an axis: role flags of R523 and a failed learning condition of R272. -/
def Mod.markRole (m : Mod) (i : Nat) (flag : Nat) (learn : Option Nat) : Mod :=
  match m.roleOf i with
  | some (p, r) => m.onCyc p (fun c => { c with
      roles := upd c.roles r (fun x => { x with flags := x.flags ||| 2 ^ flag }),
      learnFail := (match learn with | some n => c.learnFail ++ [n] | none => c.learnFail) })
  | none => m

/-- A condition of R272 that fails in the cycle of an axis. -/
def Mod.markLearn (m : Mod) (i n : Nat) : Mod :=
  match m.roleOf i with
  | some (p, _) => m.onCyc p (fun c => { c with learnFail := c.learnFail ++ [n] })
  | none => m

/-- A cause latches an axis; one that comes while a latch stands is kept beside it (R193). -/
def Axis.withFault (a : Axis) (c : Nat) : Axis :=
  match a.fault with
  | none => { a with fault := some c }
  | some x => if x = c ∨ a.faults.contains c then a else { a with faults := a.faults ++ [c] }

/-- Latch an axis in drive fault; phase and isolator faults also disable its gates. -/
def Mod.latchMark (m : Mod) (i cause : Nat) : Mod :=
  let fresh := (m.axis i).fault.isNone
  let m := m.onAx i (fun a => { a.withFault cause with
    gateOff := a.gateOff || decide (cause = 1) || decide (cause = 2) || decide (cause = 3) })
  if fresh then (m.life (lifeAxis i 4) 1).markRole i 1 none else m

/-- Remove torque from an axis (R219): the plan is dropped, the move ends with reason torque lost, P_CMD follows P_ENC, and
a latch that waited for rest follows (R178, R189). (Assumption 69 DEDUCED) -/
def Mod.dropTorque (m : Mod) (i : Nat) : Mod :=
  let a := m.axis i
  let m := m.onAx i (fun a => { a with
    torque := false, cut := a.cut || a.torque, mv := none, vel := 0, fstop := none, jogDir := none, owed := [],
    coast := a.coast || a.mv.isSome, restAt := some (a.restAt.getD m.raw) })
  let m := (a.owed.foldl (fun m c => m.latchMark i c) m).onOb i (fun o => { o with cap := none })
  match a.mv with
  | some mv =>
    let m := match mv.next with
      | some n => m.moveEnd i n.tag 3
      | none => m
    (m.moveEnd i mv.tag 4).markRole i 5 none
  | none => m

/-- The mode allows torque; step 12 of a start homes with torque (R80, R86). -/
def Mod.modeTorque (m : Mod) : Bool :=
  m.md.torque || (decide (m.md = .starting) && decide (12 ≤ m.start.step))

/-- (Assumption 86 DEDUCED) -/
def Mod.stoOf (m : Mod) (g : Nat) : Sto := m.saf.sto.getD g ⟨[], [], false, none⟩

/-- Everything but the isolators lets the axis have torque. -/
def Mod.mayDrive (m : Mod) (i : Nat) : Bool :=
  let a := m.axis i
  (m.modeTorque || m.saf.ss.getD (i / 4) false) && !(m.stoOf (i / 4)).applied && !a.gateOff && !m.sup.overvoltage && !m.sup.dcLinkDown
    && m.alive

/-- The first phase wire measured above 10 V, with its voltage (R179). -/
def Axis.hotWire (a : Axis) : Option (Nat × Nat) :=
  (upto 4).findSome? (fun w => let v := a.wires.getD w 0; if 10 < v then some (w, v) else none)

/-- A chopper forced to fast decay with set-point 0 (R180). -/
def Phase.quench (ph : Phase) : Phase := { ph with sp := 0, prevSp := ph.sp, decay := 16 }

/-- Torque is removed by the mode, so that the isolators open (R179, R180). -/
def Mod.openIso (m : Mod) (i : Nat) : Mod :=
  m.onAx i (fun a =>
    if a.iso = .closed ∨ a.iso = .closing then { a with iso := .opening, A := a.A.quench, B := a.B.quench } else a)

/-- The gate supply of a group is cut by one or both channels under a cause. -/
def Mod.stoMark (m : Mod) (g cause : Nat) (reed bore : Bool) : Mod :=
  let add (l : List Nat) : List Nat := if l.contains cause then l else l ++ [cause]
  { m with saf := { m.saf with sto := upd m.saf.sto g (fun s => { s with
    reed := if reed then add s.reed else s.reed, bore := if bore then add s.bore else s.bore,
    applied := true, restoring := none }) } }

/-- Demand STO of a group by one or both channels (R313). -/
def Mod.demandBy (m : Mod) (g cause : Nat) (reed bore : Bool) : Mod :=
  let s := m.stoOf g
  let m := m.stoMark g cause reed bore
  if s.applied then m
  else
    let m := m.raise 0x4007 g [cause]
    (upto 4).foldl (fun m k => m.dropTorque (4 * g + k)) m

/-- A SHADOW cuts the gate supply of a group by an isolator that reads back closed, cause 13 of the model's own: no STO of
R313, so no event (R512). (Assumption 148 DESIGN CHOICE) -/
def Mod.cutSupply (m : Mod) (g cause : Nat) : Mod := m.stoMark g cause true true

/-- (Assumptions 18 DESIGN CHOICE, 21 DEDUCED) -/
def Mod.demand (m : Mod) (g cause : Nat) : Mod := m.demandBy g cause true true

/-- A safety trip (R315): STO, and every axis of the group latched with cause 5. -/
def Mod.trip (m : Mod) (g cause : Nat) : Mod :=
  let m := m.demand g cause
  (upto 4).foldl (fun m k => m.onAx (4 * g + k) (fun a => a.withFault 5)) m

/-! ### Drive faults (R189, R193, R218) -/

/-- The present instant is a tick boundary whose tick has run. -/
def Mod.atTick (m : Mod) : Bool := decide (m.raw + 20000 = m.tickAt)

/-- REFERENCE_LOST with its cause in the order of R231. -/
def Mod.loseRef (m : Mod) (i cause : Nat) : Mod :=
  if (m.axis i).referenced then
    ((m.onAx i (fun a => { a with referenced := false })).raise 0x1032 i [cause]).markRole i 7 none
  else m

/-- A latch and what it does at once: an encoder fault leaves the torque (R189). -/
def Mod.latch (m : Mod) (i cause : Nat) : Mod :=
  let m := m.latchMark i cause
  if cause = 4 then m else m.dropTorque i

/-- Begin monitoring a stop against the envelope (R317): v0 from each channel's counts over 1 ms. -/
def Mod.monitor (m : Mod) (i : Nat) (safe : Bool) : Mod :=
  let s := m.safAx i
  let sp (l : List Int) : Int :=
    (m.um i (m.posOf i (l.getD 0 0) - m.posOf i (l.getD 10 (l.getLastD 0)))).natAbs * 1000
  let bore := if (m.axis i).shadowDisc then none else some (sp s.histB)
  m.onSafAx i (fun s => { s with
    mon := some (match s.mon with
      | some x => { x with safe := x.safe || safe }
      | none => ⟨safe, m.raw, sp s.hist, bore, 0, 0⟩),
    standAt := none })

/-- A fault or Safe Stop of an axis (R218, R316, R223): at a tick boundary at once, between ticks at
the next one; on an axis at rest a latch takes effect at once. -/
def Mod.halt (m : Mod) (i : Nat) (why : StopWhy) (toEnc : Bool) : Mod :=
  match (m.axis i).mv with
  | some mv =>
    let m := match why with
      | .fault (some c) => m.onAx i (fun a => { a with owed := if a.owed.contains c then a.owed else a.owed ++ [c] })
      | _ => m
    if m.atTick then
      let m := match mv.next with
        | some n => m.moveEnd i n.tag 3
        | none => m
      let m := m.onAx i (fun a => { a with
        mv := some { (mv.halt m.raw why) with next := none, toEnc := mv.toEnc || toEnc }, fstop := none })
      if why = .jogTimeout then m
      else if why = .safeStop then (m.monitor i true).markRole i 6 (some 8)
      else (m.monitor i false).markLearn i 8
    else
      m.onAx i (fun a => { a with fstop := some why, mv := some { mv with toEnc := mv.toEnc || toEnc } })
  | none =>
    match why with
    | .fault (some c) => m.latch i c
    | _ => m

/-- A fault stop with the latch that follows at rest. -/
def Mod.faultStop (m : Mod) (i : Nat) (cause : Option Nat) : Mod := m.halt i (.fault cause) false

/-- An encoder fault (R189): open loop with P_ENC frozen, a fault stop, the shadow counter marked
discontinuous, the reference lost. Its cause is 1 line break, 2 illegal transitions, 3 overspeed, 4 SSI (R182, R185).
 (Assumption 150 DESIGN CHOICE) -/
def Mod.encoderFault (m : Mod) (i cause : Nat) : Mod :=
  let a := m.axis i
  if a.encBad then m.onAx i (fun a => { a with encBadAt := m.raw })
  else
    let pe := m.pEnc i
    let m := m.onAx i (fun a => { a with
      encBad := true, encBadAt := m.raw, openLoop := true, frozen := some pe, shadowDisc := true,
      align := false })
    let m := m.raise 0x1012 i [cause, pe]
    let m := m.loseRef i 1
    m.faultStop i (some 4)

/-! ### Chopper (R154 to R156, R164, R168 to R174, R290) -/

/-- Triangular dither of the probe: 0 rising at its begin (R290). -/
def Mod.dither (m : Mod) (i : Nat) : Int :=
  match (m.obst i).ditherAt, m.roleOf i with
  | some t0, some (p, _) =>
    let d := m.pn P.probeDither p
    let per := SEC / max 1 (m.pn P.probeFreq p)
    let t := (m.raw - t0) % per
    let x := 4 * d * t
    if 4 * t < per then (x / per : Nat)
    else if 4 * t < 3 * per then 2 * (d : Int) - (x / per : Nat)
    else (x / per : Nat) - 4 * (d : Int)
  | _, _ => 0

/-- The axis runs open loop: by CL_MODE, by an encoder fault, or unaligned (R156, R226). -/
def Mod.openLoop (m : Mod) (i : Nat) : Bool :=
  let a := m.axis i
  a.openLoop || decide (m.p P.clMode i = 1) || (!a.align && decide (m.p P.encType i = 1))

/-- The alignment hold drives entry 0 (R226). -/
def Axis.aligning (a : Axis) : Bool :=
  match a.home with
  | some h => decide (h.ph = .align)
  | none => false

/-- Lead angle L of a 25 us update (R155, R156). -/
def Mod.leadOf (m : Mod) (i : Nat) : Int :=
  if (m.axis i).aligning || m.openLoop i then 0
  else
    let e := wrap32 (m.pInt i - m.pLoop i)
    let l := sgn e * min (m.p P.leadMax i) ((e.natAbs * m.pn P.leadGain i / 16 : Nat) : Int)
    if 256 < (e + l).natAbs then 256 * sgn e - e else l

/-- Table address A of a chopper cycle (R154, R156, R226), with the probe's dither clamped under R155 (R290). -/
def Mod.tableAddr (m : Mod) (i : Nat) : Nat :=
  let d := m.dither i
  if (m.axis i).aligning then 0
  else if m.openLoop i then ((m.pInt i + d) % 1024).toNat
  else
    let x := m.pInt i + (m.axis i).lead + d
    let e := wrap32 (x - m.pLoop i)
    if d ≠ 0 ∧ 256 < e.natAbs then ((m.pLoop i + 256 * sgn e) % 1024).toNat else (x % 1024).toNat

/-- S = trunc(T * AMP / 4,096) (R164). -/
def setPoint (t : Int) (amp : Nat) : Int := truncDiv (t * amp) 4096

/-- Fast-decay sixteenths of a cycle (R169 to R171). -/
def Mod.decayOf (m : Mod) (i addr : Nat) (sp prev : Int) : Nat :=
  if m.sup.regenClamp then 0
  else
    let e := m.pn P.embouchure i
    let q := addr / 256
    let fall := decide (sp.natAbs < prev.natAbs) && decide (0 ≤ sp * prev)
    if fall then field e (10 * q + 5) 5 else field e (10 * q) 5

/-- Length of an on-phase whose current reaches |S| after `reach`, and whether the floor ends it (R168, R172): never
below T_BLANK, with the floor never above 1 / f_F - T_OFF. (Assumptions 137 DEDUCED, 138 DEDUCED) -/
def onPhase (tOff tBlank floorHz reach : Nat) (reached : Bool) : Nat × Bool :=
  let t := max tBlank reach
  if floorHz = 0 then (t, false)
  else
    let lim := max tBlank (SEC / floorHz - tOff)
    if reached && decide (t ≤ lim) then (t, false) else (lim, true)

/-- One phase begins a cycle (R168, R169, R172 to R174): with a floor the cycle lasts 1 / f_F, rounded down to whole MOT
ticks. (Assumptions 137 DEDUCED, 138 DEDUCED) -/
def Mod.phaseCycle (m : Mod) (i : Nat) (ph : Phase) (t : Int) (addr reach : Nat) (reached : Bool) : Phase :=
  let sp := setPoint t (m.axis i).amp
  let hz := m.pn P.chopFloor i
  let off := m.pn P.tOff i
  let on := onPhase off (m.pn P.tBlank i) hz reach reached
  { ph with
    sp := sp, prevSp := ph.sp, decay := m.decayOf i addr sp ph.sp,
    at_ := m.raw, on_ := on.1, cycle := if hz = 0 then on.1 + off else SEC / hz,
    tOff := off, tBlank := m.pn P.tBlank i, floorHz := hz,
    floorEnds := if on.2 then ph.floorEnds + 1 else 0,
    floorTotal := if on.2 then ph.floorTotal + 1 else ph.floorTotal }

/-- The bridge of a phase at an instant (R168): the on-phase, F / 16 of T_OFF in fast decay, then slow decay. -/
def Mod.bridge (m : Mod) (i : Nat) (ph : Phase) : Bridge :=
  if !(m.axis i).torque then .off
  else if m.raw < ph.at_ + ph.on_ then .drive (decide (0 ≤ ph.sp))
  else if m.raw < ph.at_ + ph.on_ + ph.decay * ph.tOff / 16 then .fastDecay
  else .slowDecay

/-- The comparator threshold in mA (R176): |S|, corrected for the difference of the channels and raised by half the
ripple. -/
def Phase.threshold (ph : Phase) : Int :=
  roundDiv ((ph.sp.natAbs : Int) * 10000) 2047 + (if ph.sp < 0 then -ph.trim else ph.trim) + ph.half

end Sys2Proof.Machine
end

