-- ==== Sys2Proof/Machine/Areas.lean ====
section
/-! DEFINITION. The contents of the two alternately written MRAM areas (R99, R100): what a copy holds when it is written, and
what a start takes from it. -/
namespace Sys2Proof.Machine

/-- Parameters that the user calibration area holds (R99). (Assumption 43 DEDUCED) -/
def PDef.isCalib (d : PDef) : Bool :=
  [P.axisScale.id, P.torqueConstant.id, P.transmissionEff.id, P.encOffset.id, P.edgePressR.id, P.edgeOpenR.id,
   P.portalPos.id].contains d.id

/-- Those entries of a store that satisfy a test, as a store in canonical form. -/
def PStore.part (st : PStore) (f : PDef → Bool) : PStore :=
  (st.filter (fun kv => (keyDef kv.1).any (fun x => f x.1))).foldl PStore.setKey []

/-- What a copy of the configuration holds when it is written now. -/
def Mod.cfgCopyNow (m : Mod) (par : PStore) : CfgCopy where
  par := par
  tables := m.po.map (fun q => q.held.getD q.table)
  fing := m.ax.map (fun a => a.tabs)
  can := m.can.map (fun c => c.tab)
  pub := m.fab.pubTab
  confirmed := m.nv.confirmed

/-- What a copy of the user calibration holds when it is written now. -/
def Mod.calCopyNow (m : Mod) (par : PStore) : CalCopy := ⟨par.part PDef.isCalib, m.ob.saved⟩

/-- The copies a command has written, told by their new sequence numbers, hold what it left. -/
def Kept.after (k : Kept) (par : PStore) (old new : Mod) : Kept where
  cfg := (if old.nv.configSeq.1 = new.nv.configSeq.1 then k.cfg.1 else new.cfgCopyNow par,
    if old.nv.configSeq.2 = new.nv.configSeq.2 then k.cfg.2 else new.cfgCopyNow par)
  cal := (if old.nv.calibSeq.1 = new.nv.calibSeq.1 then k.cal.1 else new.calCopyNow par,
    if old.nv.calibSeq.2 = new.nv.calibSeq.2 then k.cal.2 else new.calCopyNow par)

/-- The valid copy with the higher sequence number (R100). -/
def newest {α : Type} (ok : Bool × Bool) (sq : Nat × Nat) (c : α × α) : Option α :=
  if ok.1 && ok.2 then some (if sq.2 ≤ sq.1 then c.1 else c.2)
  else if ok.1 then some c.1 else if ok.2 then some c.2 else none

/-- The written store at step 6 (R100): the parameters of a copy of the configuration, those of the user calibration from a
copy of its own; an area without a valid copy gives defaults. -/
def storeOf (g : Option CfgCopy) (c : Option CalCopy) : PStore :=
  ((c.map (fun x => x.par.part PDef.isCalib)).getD []).foldl PStore.setKey
    ((g.map (fun x => x.par.part (fun d => !d.isCalib))).getD [])

end Sys2Proof.Machine
end

