-- ==== Sys2Proof/Machine/Descriptor.lean ====
section
/-! DEFINITION. What the descriptor of each ring command says in its 16 words (R129, R138 and the opcode tables of the
chapters): OPCODE, SELECTOR, INSTANCE, BUF_LEN, STAGE and the argument words. -/
namespace Sys2Proof.Machine

/-- Data bytes of a DLC, for a Classical or an FD frame. -/
def dlcLen (fdf : Bool) (dlc : Nat) : Nat :=
  if dlc ≤ 8 then dlc
  else if fdf then [12, 16, 20, 24, 32, 48, 64].getD (dlc - 9) 64
  else 8

/-- Data cut or padded with 0 to a DLC's length. -/
def fitData (fdf : Bool) (dlc : Nat) (d : List Byte) : List Byte :=
  (d ++ List.replicate 64 (0 : Byte)).take (dlcLen fdf dlc)

/-- Words 6 to 13 of ATTEST carry the nonce, its bytes in order (R573). -/
def dNonce (nonce : List Byte) : DFields :=
  ((upto 8).map (fun k => dArg (6 + k) (ofLe ((nonce.drop (4 * k)).take 4)))).flatten

/-! ### The commands -/

def descModeRequest : Desc := desc (dOp 0x0140)
def descStartRequest : Desc := desc (dOp 0x0141)
def descRestoreFactory : Desc := desc (dOp 0x0142)
def descEvacuate : Desc := desc (dOp 0x0143)
def descParamRead (dom : Nat) (id : Nat) (inst : Nat) : Desc := desc (dOp (256 * dom + 1) ++ dSel id ++ dInst inst)
def descParamWrite (dom : Nat) (id : Nat) (inst : Nat) (value : Nat) : Desc := desc (dOp (256 * dom + 2) ++ dSel id ++ dInst inst ++ dArg 6 (value % 2 ^ 32) ++ dArg 7 (value / 2 ^ 32))
def descParamReadBlock (dom : Nat) (tid : Nat) (inst : Nat) (off : Nat) (len : Nat) : Desc := desc (dOp (256 * dom + 3) ++ dSel tid ++ dInst inst ++ dArg 6 off ++ dLen len)
def descParamWriteBlock (dom : Nat) (tid : Nat) (inst : Nat) (off : Nat) (data : List Byte) : Desc := desc (dOp (256 * dom + 4) ++ dSel tid ++ dInst inst ++ dArg 6 off ++ dLen data.length)
def descNop : Desc := desc (dOp 0x0150)
def descLongOpCancel (ring : Nat) (idx : Nat) : Desc := desc (dOp 0x0151 ++ dInst ring ++ dBits 6 0 16 idx)
def descLongOpQuery (ring : Nat) (idx : Nat) : Desc := desc (dOp 0x0152 ++ dInst ring ++ dBits 6 0 16 idx)
def descDriveStatus (ax : Nat) (len : Nat) : Desc := desc (dOp 0x1010 ++ dInst ax ++ dLen len)
def descAxisFaultClear (ax : Nat) : Desc := desc (dOp 0x1011 ++ dInst ax)
def descPhaseTest (ax : Nat) : Desc := desc (dOp 0x1012 ++ dInst ax)
def descMove (ax : Nat) (a : MoveArgs) : Desc := desc (actFields (Action.move ax a))
def descSetMotionLimits (ax : Nat) (l : LimitArgs) : Desc := desc (actFields (Action.setLimits ax l))
def descStop (ax : Nat) : Desc := desc (actFields (Action.stop ax))
def descHome (inst : Nat) (portal : Bool) : Desc := desc (dOp 0x1023 ++ dInst inst ++ dBits 6 0 1 (b2n portal))
def descJog (ax : Nat) (pos : Bool) (redirect : Bool) (speed : Nat) : Desc := desc (dOp 0x1024 ++ dInst ax ++ dBits 6 0 1 (b2n pos) ++ dBits 6 1 1 (b2n redirect) ++ dArg 7 speed)
def descPositionRead (ax : Nat) : Desc := desc (dOp 0x1025 ++ dInst ax)
def descLoadTemplate (p : Nat) (n : Nat) : Desc := desc (dOp 0x2010 ++ dInst p ++ dArg 6 n)
def descPortalReset (p : Nat) : Desc := desc (dOp 0x2011 ++ dInst p)
def descPortalRequest (p : Nat) (close : Nat) : Desc := desc (actFields (Action.portalRequest p close))
def descSideRelease (mask : Nat) (grant : Bool) : Desc := desc (actFields (Action.sideRelease mask grant))
def descLearnRun (p : Nat) : Desc := desc (dOp 0x3010 ++ dInst p)
def descProfileSave : Desc := desc (dOp 0x3011)
def descLoopReset (side : Nat) : Desc := desc (dOp 0x4012 ++ dInst side)
def descCheckValueCompute : Desc := desc (dOp 0x4010)
def descPairStatus : Desc := desc (dOp 0x4011)
def descLsSet (n : Nat) (st : Nat) : Desc := desc (actFields (Action.lsSet n st))
def descLsClear (n : Nat) : Desc := desc (dOp 0x5011 ++ dInst n)
def descIoStatus (len : Nat) : Desc := desc (dOp 0x5012 ++ dLen len)
def descCanTx (p : Nat) (buf : Nat) (a : CanArgs) : Desc := { desc (dOp 0x6010 ++ dInst p ++ dSel buf ++ canFields a) with inl := fitData a.fdf a.dlc a.data }
def descCanTxCancel (p : Nat) (src : Nat) : Desc := desc (dOp 0x6011 ++ dInst p ++ dSel src)
def descCanObjWrite (p : Nat) (obj : Nat) (sendNow : Bool) (data : List Byte) : Desc := { desc (dOp 0x6012 ++ dInst p ++ dSel obj ++ dBits 6 0 1 (b2n sendNow)) with inl := data }
def descCanObjRead (p : Nat) (obj : Nat) (len : Nat) : Desc := desc (dOp 0x6013 ++ dInst p ++ dSel obj ++ dLen len)
def descFabricDiscover : Desc := desc (dOp 0x7010)
def descPointWrite (pt : Nat) (v : Int) : Desc := desc (actFields (Action.pointWrite pt v))
def descPointRead (pt : Nat) (sel : Nat) : Desc := desc (dOp 0x7012 ++ dInst pt ++ dArg 6 sel)
def descTopologyRead (len : Nat) : Desc := desc (dOp 0x7013 ++ dLen len)
def descSessionOpen (peer : Nat) : Desc := desc (dOp 0x7014 ++ dBits 6 0 9 peer)
def descSessionSend (sess : Nat) (data : List Byte) : Desc := desc (dOp 0x7015 ++ dInst sess ++ dLen data.length)
def descSessionRecv (sess : Nat) (len : Nat) : Desc := desc (dOp 0x7016 ++ dInst sess ++ dLen len)
def descSessionClose (sess : Nat) : Desc := desc (dOp 0x7017 ++ dInst sess)
def descFabricCommand (dest : Nat) (cmd : Nat) : Desc := desc (dOp 0x7018 ++ dArg 6 dest ++ dArg 7 cmd)
def descTxnOpen (reusable : Bool) : Desc := desc (dOp 0x8010 ++ dBits 6 0 1 (b2n reusable))
def descTxnStageAction (c : Nat) (a : Action) (buf : Bool) : Desc := { stage := some c, buf := some buf, fields := actFields a }
def descTxnFabricAction (c : Nat) (a : FabAct) : Desc := desc (dOp 0x8011 ++ dInst c ++ dArg 6 a.kind ++ dArg 7 a.w7 ++ dArg 8 (toBits 32 a.w8))
def descTxnCommit (c : Nat) (fabric : Bool) (at? : Option Int) : Desc := desc (dOp 0x8012 ++ dInst c ++ dBits 6 0 1 (b2n fabric) ++ dAtTime at?)
def descTxnAbort (c : Nat) : Desc := desc (dOp 0x8013 ++ dInst c)
def descTxnResult (c : Nat) : Desc := desc (dOp 0x8014 ++ dInst c)
def descTxnClose (c : Nat) : Desc := desc (dOp 0x8015 ++ dInst c)
def descTxnStatus (c : Nat) : Desc := desc (dOp 0x8016 ++ dInst c)
def descRecorderStatus : Desc := desc (dOp 0xA010)
def descJournalRead (ring : Nat) (first : Nat) (len : Nat) : Desc := desc (dOp 0xA011 ++ dInst ring ++ dArg 6 (first % 2 ^ 32) ++ dArg 7 (first / 2 ^ 32) ++ dLen len)
def descIncidentRead (part : Nat) (off : Nat) (len : Nat) : Desc := desc (dOp 0xA012 ++ dArg 6 part ++ dArg 7 off ++ dLen len)
def descIncidentTrigger : Desc := desc (dOp 0xA013)
def descIncidentRearm (no : Nat) : Desc := desc (dOp 0xA014 ++ dArg 6 no)
def descCountersRead (len : Nat) : Desc := desc (dOp 0xA015 ++ dLen len)
def descSentinelRead (len : Nat) : Desc := desc (dOp 0xA016 ++ dLen len)
def descSentinelClear : Desc := desc (dOp 0xA017)
def descAttest (nonce : List Byte) (len : Nat) : Desc := desc (dOp 0xB010 ++ dNonce nonce ++ dLen len)
def descCertRead (len : Nat) : Desc := desc (dOp 0xB011 ++ dLen len)

end Sys2Proof.Machine
end

