-- ==== Sys2Proof/Machine/Health.lean ====
section
/-! DEFINITION. The health summary words of R148 and the interrupt they raise; the outer form of every
meaning that leaves the queue and the written parameters alone. -/
namespace Sys2Proof.Machine

def supNum : SupSt → Nat
  | .normal => 0
  | .sag => 1
  | .interrupted => 2

/-- 0x5000: PREV_MODE, MODE. -/
def Mod.h5000 (m : Mod) : Nat := m.mode.prev.num * 4096 + m.mode.mode.num

/-- The loop's read-back shows voltage: both switches closed with voltage on LOOP_x_IN. -/
def Loop.shows (l : Loop) : Bool := l.reed && l.bore && l.inV

def Mod.started (m : Mod) : Bool := decide (m.md ≠ .starting)

def Mod.debugOn (m : Mod) : Bool := m.sec.debugUntil.isSome
def Mod.trialOn (m : Mod) : Bool := m.fw.trial
def Mod.twinConf (m : Mod) : Bool := decide (m.p P.twinRole 0 ≠ 0)

/-- The ACTIVE role: a configured twin in a mode that drives (14, R513). -/
def Mod.twinActive (m : Mod) : Bool := m.twinConf && m.md.torque
def Mod.twinPresent (m : Mod) : Bool := m.twinConf && m.tw.heart

/-- 0x5004: the status bits (R148); DEGRADED reads 1 with both channels lost too. (Assumption 151 DEDUCED) -/
def Mod.h5004 (m : Mod) : Nat :=
  b2n (m.started && m.saf.reedLost.isNone)
  + 2 * b2n (m.started && m.saf.boreLost.isNone)
  + 4 * b2n (m.saf.reedLost.isSome || m.saf.boreLost.isSome)
  + 8 * b2n m.mode.safeHoldLatched
  + 16 * b2n m.twinPresent
  + 32 * b2n m.twinActive
  + 64 * b2n m.saf.loops.L.shows
  + 128 * b2n m.saf.loops.R.shows
  + 256 * b2n m.nv.confirmed.isSome
  + 512 * b2n m.debugOn
  + 1024 * b2n m.sup.holdupLow
  + 2048 * supNum m.sup.st
  + 8192 * m.sup.band
  + 32768 * b2n (decide (m.time.sync = .locked))
  + 65536 * b2n m.trialOn

/-- 0x5008: the portal states. -/
def Mod.h5008 (m : Mod) : Nat :=
  (m.portal 0).state + 256 * (m.portal 1).state + 65536 * (m.portal 2).state
  + 16777216 * (m.portal 3).state

/-- 0x500C: the step states. -/
def Mod.h500C (m : Mod) : Nat :=
  (m.portal 0).stepState + 16 * (m.portal 1).stepState + 256 * (m.portal 2).stepState
  + 4096 * (m.portal 3).stepState

/-- HEALTH_VECTOR on a change of the words above or of a fault bit from 0 to 1 (R148). -/
def healthIrq (old new : Mod) : Mod :=
  if new.host.irqEn
      && (decide (old.h5000 ≠ new.h5000) || decide (old.h5004 ≠ new.h5004)
        || decide (old.h5008 ≠ new.h5008) || decide (old.h500C ≠ new.h500C)
        || (upto 11).any (fun k => bit new.host.faultBits k && !bit old.host.faultBits k)) then
    new.raiseVec new.host.irqVec
  else new

/-- How every meaning ends: the boot record, the written parameters and the module it leaves; the areas of R99 it wrote hold
them, and a change of the health summary may raise its vector. -/
def State.put (s : State) (b : Boot) (par : PStore) (m : Mod) : Out :=
  .next { s with boot := b, par := par, m := healthIrq s.m m, kept := s.kept.after par s.m m }

/-- Run a command on the module. -/
def State.onMod (s : State) (f : Mod → Mod) : Out := s.put s.boot s.par (f s.m)

/-- A command of the module's own works while the control die works, and does nothing otherwise. -/
def State.live (s : State) (f : Mod → Mod) : Out := s.onMod (fun m => if m.alive then f m else m)

/-- Work of a class of the breath budget: none is done while the class is suspended (R29). (Assumption 103 DEDUCED) -/
def State.work (s : State) (cls : Nat) (f : Mod → Mod) : Out := s.live (fun m => if m.runs cls then f m else m)

/-- What a die of its own does goes on while the control die is in reset; nothing works without power. -/
def State.pow (s : State) (f : Mod → Mod) : Out := s.onMod (fun m => if m.sup.powered then f m else m)

/-- A ring command with the description of its descriptor (R80, R81, R129). (Assumption 144 DEDUCED) -/
def State.ring (s : State) (h : Hdr) (d : Desc) (accept : Mode → Bool) (body : Mod → Mod × Option Reply) : Out :=
  s.onMod (fun m => m.cmd h d accept body)

/-- A ring command on an axis: an absent one is refused with INSTANCE_ABSENT (R2). (Assumption 128 DEDUCED) -/
def onAxisCmd (ax : Nat) (body : Mod → Mod × Option Reply) (m : Mod) : Mod × Option Reply :=
  if m.axes.contains ax then body m else (m, some (refuse 0x1004))

/-- (Assumption 128 DEDUCED) -/
def onPortalCmd (p : Nat) (body : Mod → Mod × Option Reply) (m : Mod) : Mod × Option Reply :=
  if m.portals.contains p then body m else (m, some (refuse 0x1004))

/-- A row about an axis does nothing when the part has no such axis. (Assumption 128 DEDUCED) -/
def withAxis (ax : Nat) (f : Mod → Mod) (m : Mod) : Mod := if m.axes.contains ax then f m else m

/-! ### Locked resources (R465) -/

/-- A resource is locked by a final bundle (R465). -/
def Action.res : Action → List Res
  | .move ax _ => [.axis ax]
  | .setLimits ax _ => [.axis ax]
  | .stop ax => [.axis ax]
  | .portalRequest p _ => [.portal p]
  | .sideRelease mask _ => (if bit mask 0 then [.side .L] else []) ++ (if bit mask 1 then [.side .R] else [])
  | .lsSet n _ => [.ls n]
  | .pointWrite pt _ => [.point pt]
  | .other _ => []

def FabAct.res (f : FabAct) : List Res :=
  if f.kind = 2 then [.point f.w7]
  else (if bit f.w7 0 then [.side .L] else []) ++ (if bit f.w7 1 then [.side .R] else [])

def Ctx.res (c : Ctx) : List Res := (c.acts.map Action.res).flatten ++ (c.fab.map FabAct.res).flatten

/-- (Assumption 109 DEDUCED) -/
def Mod.locked (m : Mod) (r : Res) : Bool := m.txn.ctx.any (fun c => c.final && c.res.contains r)

/-- A ring command on a locked resource waits until the bundle has taken effect. (Assumption 109 DEDUCED) -/
def Mod.hold (m : Mod) (i : Instr) : Mod × Option Reply :=
  ({ m with txn := { m.txn with held := m.txn.held ++ [i] } }, none)

end Sys2Proof.Machine
end

