-- ==== Sys2Proof/Machine/AxisDrive.lean ====
section
/-! DEFINITION. The commands of 05_axis_drive.md: current loop, chopper, phase faults, isolation
switches, encoders, drive status, fault clear and phase test. -/
namespace Sys2Proof.Machine

/-! ### Current loop and chopper -/

/-- The exponential average of the squared current, time constant 1 s, step 25 us (R166). (Assumption 59 PRESUMED) -/
def rmsStep (est : Nat) (ma : Int) : Nat :=
  let x : Int := est + ((ma * ma * 65536 : Int) - est) / 40000
  x.toNat

/-- The rms ceiling's hysteresis: set at 7,000 mA * k(T), released below 90 % (R166). -/
def rmsCapNext (was : Bool) (ea eb kT : Nat) : Bool :=
  let lim := 7000 * kT / 10000
  let hi := lim * lim * 65536
  let lo := hi * 81 / 100
  if decide (hi ≤ ea) || decide (hi ≤ eb) then true
  else if decide (ea < lo) && decide (eb < lo) then false else was

/-- One phase takes a 25 us sample (R166, R176). -/
def Phase.sample (ph : Phase) (ma fast : Int) (ripple : Nat) : Phase :=
  { ph with ma := ma, rms2 := rmsStep ph.rms2 ma, trim := fast - ma, half := ripple / 2 }

/-- CURRENT_LOOP_UPDATE (R155, R166, R176, R181, R265): the lead angle, the rms estimates and their ceiling, the comparator
correction and the sample of I_Q. (Assumption 9 DEDUCED) -/
def execCurrentLoopUpdate (ax : Nat) (x : LoopIn) (enc : List EncRun) (s : State) : Out :=
  s.live (withAxis ax (fun m =>
    let m := (m.advance (m.axis ax).curAt).decode ax enc
    let m := m.onAx ax (fun a => { a with
      A := a.A.sample x.ia x.fastA x.rippleA, B := a.B.sample x.ib x.fastB x.rippleB,
      loopCount := a.quad.n, loopAt := m.raw, curAt := (m.raw / 5000 + 1) * 5000 })
    let m := m.onAx ax (fun a => { a with
      rmsCap := rmsCapNext a.rmsCap a.A.rms2 a.B.rms2 m.sup.kT })
    let l := m.leadOf ax
    let q := torqueCurrent x.ia x.ib (m.pLoop ax)
    let m := m.onAx ax (fun a => { a with lead := l, iqSum := a.iqSum + q, iqN := a.iqN + 1 })
    let m := m.onSafAx ax (fun y => { y with magR := isqrt (x.ia * x.ia + x.ib * x.ib).toNat })
    m.ampUpdate ax))

/-- A phase by its number, 1 A or 2 B (R197). -/
def Axis.phase (a : Axis) (n : Nat) : Phase := if n = 1 then a.A else a.B

/-- CHOPPER_CYCLE (R154, R164, R168, R169, R172): the running cycle ends, and the phase begins its next on-phase, whose
current reaches |S| after `reach` MOT ticks. (Assumption 137 DEDUCED) -/
def execChopperCycle (ax phase reach : Nat) (reached : Bool) (s : State) : Out :=
  s.live (withAxis ax (fun m =>
    if (m.axis ax).torque then
      let ph := (m.axis ax).phase phase
      let m := m.advance (ph.at_ + ph.cycle)
      let ad := m.tableAddr ax
      let e := m.tabEntry ax ad
      m.onAx ax (fun a =>
        let a := { a with addr := ad, lead := if m.openLoop ax then 0 else a.lead }
        if phase = 1 then { a with A := m.phaseCycle ax ph e.1 ad reach reached }
        else { a with B := m.phaseCycle ax ph e.2 ad reach reached })
    else m))

/-- CURRENT_NOT_REACHED (R173): 100 cycles in a row, at most one event per second per axis. -/
def execCurrentNotReached (ax phase count : Nat) (s : State) : Out :=
  s.live (withAxis ax (fun m =>
    let a := m.axis ax
    let due := match a.notReachedAt with
      | none => true
      | some t => decide (t + SEC ≤ m.raw)
    if decide (100 ≤ (a.phase phase).floorEnds) && due then
      (m.onAx ax (fun a => { a with notReachedAt := some m.raw })).raise 0x1005 ax [phase, count]
    else m))

/-! ### Phase faults and the phase test -/

/-- End a running phase test with PHASE_TEST_FAILED; DETAIL is the phase times 256 plus the cause. -/
def Mod.failTest (m : Mod) (ax phase cause : Nat) (errA errB : Int) : Mod :=
  match (m.axis ax).testUntil with
  | some (h, _) =>
    (m.onAx ax (fun a => { a with testUntil := none })).complete h
      { status := 0x4202, detail := phase * 256 + cause, res := res2 errA errB }
  | none => m

/-- PHASE_OVERCURRENT (R177): gates off, STO of the group, the axis latched. -/
def Mod.overcurrent (m : Mod) (ax phase : Nat) (ma : Int) : Mod :=
  let m := m.raise 0x1003 ax [phase, ma]
  let m := (m.life (lifeAxis ax 5) 1).latch ax 1
  m.demand (ax / 4) 4

/-- PHASE_OVERCURRENT (R175, R177): the threshold is 12,000 mA. A phase test that it ends reports no gain error, since the
rule names none for this cause (RESULT 0, 0). (Assumption 139 DESIGN CHOICE) -/
def execPhaseOvercurrent (ax phase : Nat) (ma : Int) (s : State) : Out :=
  s.live (withAxis ax (fun m => (m.overcurrent ax phase ma).failTest ax phase 2 0 0))

/-- PHASE_OPEN (R178): a set-point of at least 500 mA; a fault stop, then gates off and the latch.
 (Assumption 60 DEDUCED) -/
def execPhaseOpen (ax phase : Nat) (s : State) : Out :=
  s.live (withAxis ax (fun m =>
    let a := m.axis ax
    if a.torque && decide (500 * 2047 ≤ (a.phase phase).sp.natAbs * 10000) then
      (m.raise 0x1004 ax [phase]).faultStop ax (some 2)
    else m))

/-- PHASE_TEST (R197); a second one on an axis whose test still runs is refused as not at rest.
 (Assumption 139 DESIGN CHOICE) -/
def Mod.phaseTest (m : Mod) (h : Hdr) (ax : Nat) : Mod × Option Reply :=
  if m.moving ax || (m.axis ax).testUntil.isSome then (m, some (refuse 0x2204))
  else (m.onAx ax (fun a => { a with testUntil := some (h, m.raw + 4 * MS) }), none)

def execPhaseTest (h : Hdr) (ax : Nat) (s : State) : Out :=
  s.ring h (descPhaseTest ax) Mode.maint (onAxisCmd ax (fun m =>
    if m.locked (.axis ax) then m.hold (.phaseTest h ax) else m.phaseTest h ax))

/-- PHASE_TEST_DONE (R197): an open phase latches the axis; an overcurrent acts under R177. (Assumption 62 DEDUCED) -/
def execPhaseTestDone (ax : Nat) (r : PhaseTestResult) (s : State) : Out :=
  s.live (withAxis ax (fun m =>
    match (m.axis ax).testUntil with
    | some (h, t) =>
      let m := m.advance t
      if r.openPhase ≠ 0 then
        let m := (m.raise 0x1004 ax [r.openPhase]).latch ax 2
        m.failTest ax r.openPhase 1 (if r.openPhase = 1 then -10000 else r.errA)
          (if r.openPhase = 2 then -10000 else r.errB)
      else if r.overPhase ≠ 0 then
        (m.overcurrent ax r.overPhase r.overMa).failTest ax r.overPhase 2 r.errA r.errB
      else
        (m.onAx ax (fun a => { a with testUntil := none })).complete h
          { status := 0, res := res2 r.errA r.errB }
    | none => m))

/-! ### Isolation switches (R179, R180) -/

/-- Torque returns at rest (R219): the axis stands at P_ENC. -/
def Mod.gainTorque (m : Mod) (i : Nat) : Mod :=
  let pe := m.pEnc i
  m.onAx i (fun a =>
    let p := if a.coast then pe else a.pcmd
    { a with
      torque := true, coast := false, pcmd := p, pcmdPrev := p, pos := p * 65536, vel := 0,
      restAt := some (a.restAt.getD m.raw), stallTicks := 0, stallHeld := false })

/-- ISOLATOR_CLOSURE_CONFIRMED (R180 step 2): the chopper resumes. (Assumption 60 DEDUCED) -/
def execIsolatorClosureConfirmed (ax : Nat) (s : State) : Out :=
  s.live (withAxis ax (fun m =>
    if (m.axis ax).iso = .closing then
      let m := m.onAx ax (fun a => { a with iso := .closed })
      if m.mayDrive ax then m.gainTorque ax else m
    else m))

/-- ISOLATOR_OPEN_CONFIRMED (R180 step 3). (Assumption 60 DEDUCED) -/
def execIsolatorOpenConfirmed (ax : Nat) (s : State) : Out :=
  s.live (withAxis ax (fun m =>
    m.onAx ax (fun a => if a.iso = .opening then { a with iso := .opened } else a)))

/-- ISOLATOR_FAULT (R180, R512): gate disable and the latch; on a SHADOW the group's gate supply is cut.
 (Assumption 148 DESIGN CHOICE) -/
def execIsolatorFault (ax wire : Nat) (s : State) : Out :=
  s.live (withAxis ax (fun m =>
    let closing := decide ((m.axis ax).iso = .closing) || decide ((m.axis ax).iso = .closed)
    let m := m.raise 0x100D ax [wire, b2n closing]
    let m := (m.latch ax 3).onAx ax (fun a => { a with iso := .failed })
    if m.md = .shadow then m.cutSupply (ax / 4) 13 else m))

/-! ### Encoders (R182 to R186) -/

/-- ENC_LINE_BREAK (R182): an encoder fault at once. -/
def execEncLineBreak (ax sig : Nat) (s : State) : Out :=
  s.live (withAxis ax (fun m => (m.raise 0x1007 ax [sig]).encoderFault ax 1))

/-- Instants within the last 10 ms, the window half-open (R7, R182). -/
def within10ms (raw : Nat) (l : List Nat) : List Nat := l.filter (fun t => decide (raw < t + 10 * MS))

/-- Three illegal transitions or overspeeds of an axis, of one kind or mixed, lie within 10 ms (R182). -/
def Mod.encThree (m : Mod) (i : Nat) : Bool :=
  decide (3 ≤ (within10ms m.raw (m.axis i).illegal).length + (within10ms m.raw (m.axis i).overspeed).length)

/-- ENC_ILLEGAL_TRANSITION (R182): counted; with overspeeds, three within 10 ms are an encoder fault. -/
def execEncIllegalTransition (ax : Nat) (count : Int) (s : State) : Out :=
  s.live (withAxis ax (fun m =>
    let l := within10ms m.raw (m.axis ax).illegal ++ [m.raw]
    let m := m.onAx ax (fun a => { a with illegal := l, nIllegal := min 255 (a.nIllegal + 1) })
    let m := m.raise 0x1008 ax [count]
    if m.encThree ax then m.encoderFault ax 2 else m))

/-- ENC_OVERSPEED (R182). -/
def execEncOverspeed (ax : Nat) (count : Int) (s : State) : Out :=
  s.live (withAxis ax (fun m =>
    let l := within10ms m.raw (m.axis ax).overspeed ++ [m.raw]
    let m := m.onAx ax (fun a => { a with overspeed := l, nOverspeed := min 255 (a.nOverspeed + 1) })
    let m := m.raise 0x1009 ax [count]
    if m.encThree ax then m.encoderFault ax 3 else m))

/-- Counts off the nearest whole revolution. -/
def offRev (d : Int) (rev : Nat) : Int :=
  let r := d % rev
  if 2 * r ≤ rev then r else r - rev

/-- Gray code to binary, one bit per unit of fuel. -/
def grayLoop : Nat → Nat → Nat → Nat
  | 0, _, r => r
  | k + 1, g, r => grayLoop k g (r ^^^ (g >>> (k + 1)))

def grayToBin (g : Nat) : Nat := grayLoop 32 g g

def parityOf (w n : Nat) : Bool := ((upto n).filter (fun k => bit w k)).length % 2 = 1

/-- The position field of an SSI frame under SSI_FORMAT (R184, R195). -/
def ssiPos (fmt bits : Nat) : Nat :=
  let x := field bits (field fmt 8 4) (field fmt 12 6)
  if bit fmt 20 then grayToBin x else x

/-- Signed change between two position fields of `n` bits, tracking the roll-over. -/
def rollDelta (n new old : Nat) : Int :=
  let d := (new + 2 ^ n - old) % 2 ^ n
  if 2 * d < 2 ^ n then (d : Int) else (d : Int) - 2 ^ n

/-- The position field of the previous frame; of a discarded one the extrapolated value (R185). -/
def Axis.ssiPrev (a : Axis) : Option Int := a.ssiLast.map (fun x => (x : Int) + if a.ssiErrs = 0 then 0 else a.ssiDelta)

/-- The first frame error of R185, in its order from 1. -/
def Mod.ssiError (m : Mod) (ax : Nat) (f : SsiFrame) : Option Nat :=
  let fmt := m.pn P.ssiFormat ax
  let nb := field fmt 0 6
  let eb := field fmt 24 6
  let n := field fmt 12 6
  if !f.startHigh then some 1
  else if !f.endHigh then some 2
  else if decide (eb ≠ 0x3F) && bit f.bits eb then some 3
  else if bit fmt 31 && parityOf f.bits nb then some 4
  else match (m.axis ax).ssiPrev with
    | some o =>
      let d := (rollDelta n (ssiPos fmt f.bits) (toBits n o)).natAbs
      let us := m.pn P.ssiPeriod ax
      -- 2,048,000 microsteps/s * SSI_PERIOD in counts of 65,536 / ENC_SCALE microsteps
      if (2048000 * us * 65536) < (d - 8) * m.pn P.encScale ax * 1000000 ∧ 8 < d then some 5 else none
    | none => none

/-- What a module does on the SSI clock lines of an axis (R68, R186): ACTIVE or on its way to it, it drives them; in
SHADOW, in reset and unpowered its drivers are high-impedance. -/
inductive SsiClk where
  | drives
  | highZ
  deriving DecidableEq, Repr

def Mod.ssiClock (m : Mod) (i : Nat) : SsiClk :=
  if m.alive && decide (m.md ≠ .shadow) && decide (m.p P.encType i = 2) then .drives else .highZ

/-- A frame can be read: the module clocks it, or in SHADOW receives the clock of its twin (R186).
 (Assumption 63 DEDUCED) -/
def Mod.ssiClocked (m : Mod) (i : Nat) : Bool :=
  decide (m.ssiClock i = .drives) || (decide (m.md = .shadow) && decide (m.p P.encType i = 2))

/-- The positions of a good frame in both channels (R184, R186, R188); the change counts for one SSI_PERIOD each since the
last good frame. -/
def Axis.takeSsi (a : Axis) (n x y raw : Nat) : Axis :=
  let d := (a.ssiLast.map (rollDelta n x)).getD 0
  let e := (a.ssiLastB.map (rollDelta n y)).getD 0
  let c : Int := if a.ssiLast.isSome then wrap32 (a.count + d) else x
  { a with
    count := c, countAt := raw, loopCount := c, loopAt := raw,
    shadow := if a.shadowDisc then a.shadow else if a.ssiLastB.isSome then wrap32 (a.shadow + e) else y,
    ssiErrs := 0, ssiLast := some x, ssiLastB := some y, ssiDelta := truncDiv d (a.ssiErrs + 1 : Nat), ssiAt := raw }

/-- SSI_FRAME (R184 to R186): both channels read the frame; one error is discarded and the position extrapolated, two in
a row are an encoder fault. (Assumption 63 DEDUCED) -/
def execSsiFrame (ax : Nat) (f : SsiFrame) (s : State) : Out :=
  s.live (withAxis ax (fun m =>
    if !m.ssiClocked ax then m
    else match m.ssiError ax f with
      | some c =>
        let n := (m.axis ax).ssiErrs + 1
        let m := m.onAx ax (fun a => { a with ssiErrs := n, nSsi := min 255 (a.nSsi + 1) })
        if n = 2 then (m.raise 0x100A ax [c]).encoderFault ax 4
        else if 2 < n then m.encoderFault ax 4 else m
      | none =>
        let fmt := m.pn P.ssiFormat ax
        m.onAx ax (fun a => a.takeSsi (field fmt 12 6) (ssiPos fmt f.bits) (ssiPos fmt f.shadow) m.raw)))

/-! ### Stall, hold -/

/-- AXIS_STALL (R190, R191): declared once the error has stood outside DEV_WINDOW on more than DEV_TIME
consecutive ticks, as PROFILE_TICK counts them. -/
def execAxisStall (ax : Nat) (s : State) : Out :=
  s.live (withAxis ax (fun m =>
    let a := m.axis ax
    if decide (m.pn P.devTime ax < a.stallTicks) && !a.stallHeld && a.torque && !a.encBad then
      let e := m.um ax (m.err ax)
      let rest := !m.moving ax
      let m := m.onAx ax (fun a => { a with stallHeld := true })
      let m := (m.raise 0x1001 ax [e, b2n rest]).life (lifeAxis ax 3) 1
      let m := m.markRole ax 0 (some 8)
      if rest then
        let pe := m.pEnc ax
        m.onAx ax (fun a => { a with pcmd := pe, pcmdPrev := pe, pos := pe * 65536, stallTicks := 0, stallHeld := false })
      else match ((a.mv.map (fun x => x.stop)).join : Option StopWhy) with
        | some .safeStop => m.onAx ax (fun a => { a with mv := a.mv.map (fun x => { x with toEnc := true }) })
        | _ => m.halt ax (.fault none) true
    else m))

/-- HOLD_DELAY_EXPIRY (R165): the 50 ms ramp to HOLD_CURRENT begins. -/
def execHoldDelayExpiry (ax : Nat) (s : State) : Out :=
  s.live (withAxis ax (fun m =>
    let a := m.axis ax
    match a.restAt, a.ramp with
    | some t, none =>
      let m := m.advance (t + m.pn P.holdDelay ax * MS)
      m.onAx ax (fun a => { a with ramp := some (m.raw, a.amp) })
    | _, _ => m))

/-! ### Status and fault clear -/

/-- Chopper frequency of a phase over the last 25 us in Hz: 0 once no cycle has run in them.
 (Assumption 138 DEDUCED) -/
def Phase.hz (ph : Phase) (raw : Nat) : Nat :=
  if ph.cycle = 0 ∨ ph.at_ + ph.cycle + 25 * US ≤ raw then 0 else SEC / ph.cycle

/-- The 16 words of R198; the sample is that of the last tick. -/
def Mod.driveWords (m : Mod) (i : Nat) : List Int :=
  let a := m.axis i
  let at_ := fabAt m.time m.lastTick
  let flags := b2n a.torque + 2 * b2n (decide (a.iso = .closed)) + 4 * b2n (!m.openLoop i)
    + 8 * b2n a.fault.isSome + 16 * b2n (!a.encBad) + 32 * b2n m.sup.regenClamp
    + 64 * b2n (decide (m.pn P.chopFloor i ≠ 0))
  [a.pcmd, m.pEnc i, ((a.addr * 65536 + toBits 9 a.lead : Nat) : Int),
   ((a.amp * 65536 + a.ampCeil : Nat) : Int), a.A.ma, a.B.ma,
   (isqrt (a.A.rms2 / 65536) : Nat), (isqrt (a.B.rms2 / 65536) : Nat),
   (a.A.hz m.raw : Nat), (a.B.hz m.raw : Nat), a.count, a.shadow,
   ((a.nIllegal + 256 * a.nOverspeed + 65536 * a.nSsi : Nat) : Int), (flags : Nat),
   at_ % 1000000000, at_ / 1000000000]

/-- DRIVE_STATUS (R197, R198). -/
def execDriveStatus (h : Hdr) (ax len : Nat) (s : State) : Out :=
  s.ring h (descDriveStatus ax len) Mode.reads (onAxisCmd ax (fun m =>
    if len < 64 then (m, some (refuse 0x1006))
    else
      let w := m.driveWords ax
      (m, some { status := 0, res := toBits 64 (w.getD 13 0), buf := (w.map le4).flatten })))

/-- The axes of a group have stood still as R314 asks: within 1,000 um for the last 100 ms. (Assumption 61 DEDUCED) -/
def Mod.still (m : Mod) (g : Nat) : Bool :=
  (upto 4).all (fun k => decide ((m.safAx (4 * g + k)).stillAt + 100 * MS ≤ m.raw))

/-- Every cause that latches an axis. -/
def Axis.causes (a : Axis) : List Nat := a.fault.toList ++ a.faults

/-- The causes of an axis are gone (R193, R315): `passes` is the phase test, the switches' read-back, or both channels'
report that a tripping condition has gone. -/
def Mod.causesGone (m : Mod) (ax : Nat) (passes : Bool) : Bool :=
  let c := (m.axis ax).causes
  passes && (!c.contains 4 || decide ((m.axis ax).encBadAt + 100 * MS ≤ m.raw)) && (!c.contains 5 || m.still (ax / 4))

/-- A cause is cleared on an axis: the latch goes when no other cause stands. -/
def Axis.clearCause (a : Axis) (c : Nat) : Axis :=
  let left := a.causes.filter (fun x => x != c)
  { a with
    fault := left.head?, faults := left.drop 1,
    gateOff := a.gateOff && left.any (fun x => x == 1 || x == 2 || x == 3),
    encBad := a.encBad && c != 4, openLoop := a.openLoop && c != 4,
    frozen := if c = 4 then none else a.frozen,
    iso := if c = 3 ∧ a.iso = .failed then .opened else a.iso }

/-- The demands of R313 on a group that a cleared cause leaves: those of a safety trip, or of an overcurrent. -/
def Mod.dropDemands (m : Mod) (g : Nat) (f : Nat → Bool) : Mod :=
  { m with saf := { m.saf with sto := upd m.saf.sto g (fun t => { t with
    reed := t.reed.filter (fun c => !f c), bore := t.bore.filter (fun c => !f c) }) } }

/-- One cause of an axis is cleared with its event; a safety trip clears on its whole group (R315). -/
def Mod.clearOne (m : Mod) (ax c : Nat) : Mod :=
  if c = 5 then
    let g := ax / 4
    (upto 4).foldl (fun m k => (m.onAx (4 * g + k) (fun a => a.clearCause 5)).raise 0x1011 (4 * g + k) [5])
      (m.dropDemands g (fun x => decide (7 ≤ x) && decide (x ≤ 10)))
  else
    let m := m.onAx ax (fun a => a.clearCause c)
    (if c = 1 then m.dropDemands (ax / 4) (fun x => x == 4) else m).raise 0x1011 ax [c]

/-- AXIS_FAULT_CLEAR (R193, R315): at rest, with every cause gone. (Assumption 61 DEDUCED) -/
def Mod.axisFaultClear (m : Mod) (ax : Nat) (passes : Bool) : Mod × Option Reply :=
  if m.moving ax then (m, some (refuse 0x2204))
  else if (m.axis ax).fault.isNone then (m, some okReply)
  else if m.causesGone ax passes then
    ((m.axis ax).causes.foldl (fun m c => m.clearOne ax c) m, some okReply)
  else (m, some (refuse 0x2203))

/-- (Assumption 61 DEDUCED) -/
def execAxisFaultClear (h : Hdr) (ax : Nat) (passes : Bool) (s : State) : Out :=
  s.ring h (descAxisFaultClear ax) Mode.faultClear (onAxisCmd ax (fun m =>
    if m.locked (.axis ax) then m.hold (.axisFaultClear h ax passes) else m.axisFaultClear ax passes))

end Sys2Proof.Machine
end

