-- ==== Sys2Proof/Machine/Interlock.lean ====
section
/-! DEFINITION. Shared operations of the safety functions (09): pair readings, contributions and loops,
release enables, Safe Stops, channel and view losses. -/
namespace Sys2Proof.Machine

/-! ### Pairs (R239, R309) -/

/-- A pair reads active in a channel; a discrepant or disagreeing pair reads `safe`, and 0xFF names no
pair. (Assumption 84 DEDUCED) -/
def Mod.pairAct (m : Mod) (bore : Bool) (n : Nat) (safe : Bool) : Bool :=
  if n < 16 then
    let q := m.saf.pairs.getD n Pair.reset
    match (if bore then q.bore else q.reed) with
    | 0 => false
    | 1 => true
    | _ => safe
  else false

/-- The portal point of a pair: 0 inactive, 1 active, 2 discrepant (R251, R310). -/
def Mod.pairPoint (m : Mod) (n : Nat) (safe : Bool) : Int :=
  if n < 16 ∧ (m.saf.pairs.getD n Pair.reset).reed = 2 then 2
  else if m.pairAct false n safe then 1 else 0

def Mod.lockSw (m : Mod) (bore : Bool) (p : Nat) : Bool := m.pairAct bore (m.pn P.lockPair p) false
def Mod.closedSw (m : Mod) (bore : Bool) (p : Nat) : Bool := m.pairAct bore (m.pn P.closedPair p) false
def Mod.stepSw (m : Mod) (bore : Bool) (p : Nat) : Bool := m.pairAct bore (m.pn P.stepRetPair p) false
def Mod.emergency (m : Mod) (bore : Bool) (p : Nat) : Bool := m.pairAct bore (m.pn P.emergencyPair p) true
def Mod.isolKey (m : Mod) (bore : Bool) (p : Nat) : Bool := m.pairAct bore (m.pn P.isolationPair p) false
/-- (Assumption 90 DEDUCED) -/
def Mod.zeroSpeed (m : Mod) (bore : Bool) : Bool := m.pairAct bore (m.pn P.zeroSpeedPair 0) false
def Mod.relPair (m : Mod) (bore : Bool) : Side → Bool
  | .L => m.pairAct bore (m.pn P.releaseLPair 0) false
  | .R => m.pairAct bore (m.pn P.releaseRPair 0) false

def Mod.hasStep (m : Mod) (p : Nat) : Bool := (m.roleAxis p 2).isSome

/-- Closed and locked by the pairs of one channel. -/
def Mod.pairsLocked (m : Mod) (bore : Bool) (p : Nat) : Bool :=
  m.lockSw bore p && m.closedSw bore p && (m.stepSw bore p || !m.hasStep p)

/-! ### Contributions and loops (R243, R325 to R328) -/

def Mod.sidePortals (m : Mod) (s : Side) : List Nat :=
  m.portals.filter (fun p => m.enabled p && decide (m.sideOf p = s))

/-- The Reed channel's contribution of a portal (R243). -/
def Mod.contribReed (m : Mod) (p : Nat) : Bool :=
  let st := (m.portal p).state
  (decide (st = 0) && m.pairsLocked false p) || (decide (st = 8) && m.lockSw false p)

/-- The Bore channel's contribution of a portal, by its own pairs alone (R325). -/
def Mod.contribBore (m : Mod) (p : Nat) : Bool :=
  !m.emergency true p && (m.pairsLocked true p || (m.isolKey true p && m.lockSw true p))

/-- (Assumption 42 DEDUCED) -/
def Mod.proofPending (m : Mod) : Side → Bool
  | .L => m.start.proofPending.1
  | .R => m.start.proofPending.2

/-- The Reed channel may close a loop: the mode evaluates it, no proof test is pending, and the check value is
confirmed, which the contribution of a portal requires; a side that holds no door has none to require it (R325, R327). -/
def Mod.loopMode (m : Mod) (s : Side) : Bool :=
  m.md.loops && (m.nv.confirmed.isSome || (m.sidePortals s).isEmpty) && !m.proofPending s

/-- A pair that a side's contributions read has lost a view: the loop it opened stays open until a start (R341).
 (Assumption 83 DEDUCED) -/
def Mod.viewBars (m : Mod) (s : Side) : Bool :=
  m.saf.views.any (fun v => (m.sidePortals s).any (fun p =>
    ([P.lockPair, P.closedPair, P.emergencyPair, P.isolationPair]
      ++ (if m.hasStep p then [P.stepRetPair] else [])).any (fun d => decide (v.2 < 16 ∧ m.pn d p = v.2))))

def Mod.loopFree (m : Mod) (s : Side) : Bool :=
  let l := m.saf.loops.get s
  !l.latched && l.retryAt.isNone && !m.tw.orphan && !m.viewBars s

def Mod.sideReed (m : Mod) (s : Side) : Bool :=
  m.loopMode s && m.loopFree s && (m.sidePortals s).all m.contribReed

def Mod.sideBore (m : Mod) (s : Side) : Bool :=
  m.loopFree s && (m.sidePortals s).all m.contribBore

def Loop.closed (l : Loop) : Bool := l.reed && l.bore

/-- LOOP_CHANGED when the pair of switches changed the loop's state (R326). (Assumption 20 DEDUCED) -/
def Mod.loopEvent (m : Mod) (was : Bool) (s : Side) (cause : Nat) : Mod :=
  let now := (m.saf.loops.get s).closed
  if now = was then m else m.raise 0x400D (sideNum s) [b2n now, cause]

/-- The substitute drive governs the Reed switch (R306): in DEGRADED with the Reed channel lost, and from the loss in the
period whose end enters DEGRADED (R342). A control-die reset keeps the held loops by `Mod.held`. -/
def Mod.subst (m : Mod) : Bool := m.md.active && m.saf.reedLost.isSome

/-- Each channel's contribution of a side as it stands; the substituted Reed switch follows the Bore
channel, on a side whose proof test is not owed (R87). -/
def Mod.wantReed (m : Mod) (s : Side) : Bool := if m.subst then m.sideBore s && !m.proofPending s else m.sideReed s

/-- Open a loop at once (R92, R328, R344). -/
def Mod.openLoopOf (m : Mod) (s : Side) (cause : Nat) : Mod :=
  let was := (m.saf.loops.get s).closed
  (m.onLoop s (fun l => { l with reed := false, bore := false, sinceR := none, sinceB := none, test := none })).loopEvent was s cause

/-- The Bore channel holds the loop through a control-die reset or UPDATE-PAUSE (R92). -/
def Mod.held (m : Mod) : Side → Bool
  | .L => m.start.loopsHeld.1
  | .R => m.start.loopsHeld.2

def Mod.setHeld (m : Mod) (s : Side) (on : Bool) : Mod :=
  let x := m.start.loopsHeld
  { m with start := { m.start with loopsHeld := match s with
      | .L => (on, x.2)
      | .R => (x.1, on) } }

/-- The first condition of R92 that fails: 1 a portal is not locked, 2 a discrepancy, 3 the time. -/
def Mod.holdFault (m : Mod) (s : Side) : Option Nat :=
  let ps := m.sidePortals s
  let bad (d : PDef) (p : Nat) : Bool :=
    let n := m.pn d p
    decide (n < 16) && decide (2 ≤ (m.saf.pairs.getD n Pair.reset).bore)
  if ps.any (fun p => bad P.lockPair p || bad P.closedPair p) then some 2
  else if ps.all (fun p => m.pairsLocked true p || (m.isolKey true p && m.lockSw true p)) then
    (match m.start.holdUntil with
      | some t => if t ≤ m.raw then some 3 else none
      | none => none)
  else some 1

/-- The Bore channel opens a held loop. -/
def Mod.dropHold (m : Mod) (s : Side) (c : Nat) : Mod :=
  ((m.setHeld s false).openLoopOf s 3).raise 0x4E08 (sideNum s) [c]

/-- What a workbench loop test needs (R80, R325): COMMISSION, no proof test pending, no trip standing, and both
channels read every portal of the side as LOCKED. (Assumption 45 DEDUCED) -/
def Mod.testMay (m : Mod) (s : Side) : Bool :=
  decide (m.md = .commission) && !m.proofPending s && m.loopFree s
    && (m.sidePortals s).all (fun p =>
      m.pairsLocked false p && m.pairsLocked true p && !m.emergency false p && !m.emergency true p)

/-- Open the switches whose contribution ended and restart the delays (R326). A workbench loop test keeps
both closed while every portal of the side reads LOCKED in both channels (R80). -/
def Mod.loopSide (m : Mod) (s : Side) : Mod :=
  let l := m.saf.loops.get s
  let was := l.closed
  if m.held s then
    (match m.holdFault s with
      | some c => m.dropHold s c
      | none => m)
  else if l.test.isSome then
    if m.testMay s then m
    else (m.onLoop s (fun l => { l with test := none, reed := false, bore := false })).loopEvent was s 2
  else
    let r := m.wantReed s
    let b := m.sideBore s
    let m := m.onLoop s (fun l => { l with
      subst := m.subst,
      reed := l.reed && r, bore := l.bore && b,
      sinceR := if r then some (l.sinceR.getD m.raw) else none,
      sinceB := if b then some (l.sinceB.getD m.raw) else none })
    m.loopEvent was s 1

/-- (Assumption 18 DESIGN CHOICE) -/
def Mod.loopEval (m : Mod) : Mod := (m.loopSide .L).loopSide .R

/-! ### Release (R256 to R258, R335) -/

def Mod.onSide (m : Mod) (s : Side) (f : SideSt → SideSt) : Mod := { m with side := m.side.map1 s f }

def Mod.anyReleased (m : Mod) : Bool := m.side.L.released || m.side.R.released

/-- Conditions of the Reed channel's enable and of the grant line (R335). -/
def Mod.enReed (m : Mod) (s : Side) : Bool :=
  (m.side.get s).grant && m.relPair false s && m.zeroSpeed false && m.md.active

def Mod.enBore (m : Mod) (s : Side) : Bool :=
  m.relPair true s && m.zeroSpeed true && m.enReed s

/-- Safe Release Enable; with one channel lost the other evaluates alone (R335, R343). -/
def Mod.releaseEnable (m : Mod) (s : Side) : Bool :=
  let r := m.saf.rel.get s
  if m.saf.reedLost.isSome then r.bore else if m.saf.boreLost.isSome then r.reed else r.reed && r.bore

/-- OPEN_REQ at the instant a release takes effect (R259). -/
def Mod.openOnRelease (m : Mod) (s : Side) : Mod :=
  (m.sidePortals s).foldl (fun m p =>
    let q := m.portal p
    let pre := match q.lastPress with
      | some t => decide (m.now < t + m.p P.openPreselect p * 1000000)
      | none => false
    if m.p P.portalAutoOpen p = 1 then
      (m.onPo p (fun q => { q with openReq := true })).raise 0x200C p [3]
    else if pre then (m.onPo p (fun q => { q with openReq := true })).raise 0x200C p [4]
    else m) m

/-- Evaluate the enables and the release of a side. (Assumption 18 DESIGN CHOICE) -/
def Mod.evalSide (m : Mod) (s : Side) : Mod :=
  let was := m.releaseEnable s
  let r0 := m.saf.rel.get s
  let r := m.enReed s
  let b := m.enBore s
  let m := { m with saf := { m.saf with rel := m.saf.rel.map1 s (fun x => { x with
    reed := r, bore := b,
    diffAt := if r = b then none else some (x.diffAt.getD m.raw) }) } }
  let en := m.releaseEnable s
  let m := if en = was then m
    else m.raise 0x4010 (sideNum s) [b2n en, if r ≠ r0.reed then 0 else 1]
  let rel := (m.side.get s).grant && m.relPair false s && m.zeroSpeed false && en
  let old := (m.side.get s).released
  let m := m.onSide s (fun x => { x with released := rel })
  if rel = old then m
  else if rel then (m.openOnRelease s).trig .released
  else if m.anyReleased then m else m.trig .unreleased

/-- Withdraw a grant (R258). -/
def Mod.withdraw (m : Mod) (s : Side) (cause : Nat) : Mod :=
  if (m.side.get s).grant then
    let m := m.onSide s (fun x => { x with grant := false })
    let m := m.raise 0x2004 (sideNum s) [cause]
    let m := (m.sidePortals s).foldl (fun m p => m.onPo p (fun q => { q with openReq := false })) m
    m.evalSide s
  else m

/-- An input cause ends a grant at the filter decision (R258). -/
def Mod.checkGrant (m : Mod) (s : Side) : Mod :=
  if (m.side.get s).grant then
    if !m.relPair false s then m.withdraw s 1
    else if !m.zeroSpeed false then m.withdraw s 2
    else m.evalSide s
  else m.evalSide s

/-! ### Safe Stop (R316) -/

/-- Demand a Safe Stop of a group: its moving axes stop under the envelope; a group without a moving axis
takes STO at once. (Assumptions 20 DEDUCED, 21 DEDUCED) -/
def Mod.safeStop (m : Mod) (g cause sto : Nat) : Mod :=
  let mv := (upto 4).filter (fun k => m.moving (4 * g + k))
  if mv.isEmpty then m.demand g sto
  else
    let m := { m with saf := { m.saf with ss := upd m.saf.ss g (fun _ => true) } }
    let m := m.raise 0x400A g [cause]
    mv.foldl (fun m k => m.halt (4 * g + k) .safeStop false) m

/-! ### Losses (R339 to R344) -/

/-- Both channels are lost (R344): STO of every group, both loops open, SAFE-HOLD. -/
def Mod.bothLost (m : Mod) : Mod :=
  let m := (upto 4).foldl (fun m g => m.demand g 11) m
  let m := (m.openLoopOf .L 3).openLoopOf .R 3
  m.trig (.safeHold 2)

/-- Loss of the Reed channel (R339, R340, R342). (Assumption 91 DEDUCED) -/
def Mod.loseReed (m : Mod) (cause : Nat) : Mod :=
  match m.saf.reedLost with
  | some _ => if m.saf.boreLost.isSome then m.bothLost else m
  | none =>
    let m := { m with saf := { m.saf with reedLost := some cause } }
    let m := (m.raise 0x4001 0 [0, cause]).faultBit 0
    let m := m.trig .degraded
    if m.saf.boreLost.isSome then m.bothLost else m.loopEval

/-- Loss of the Bore channel. (Assumption 91 DEDUCED) -/
def Mod.loseBore (m : Mod) (cause : Nat) : Mod :=
  match m.saf.boreLost with
  | some _ => if m.saf.reedLost.isSome then m.bothLost else m
  | none =>
    let m := { m with saf := { m.saf with boreLost := some cause } }
    let m := (m.raise 0x4001 1 [1, cause]).faultBit 1
    let m := m.trig .degraded
    if m.saf.reedLost.isSome then m.bothLost else m

/-- Loss of one channel's view of a sensor (R340, R341). -/
def Mod.loseView (m : Mod) (bore : Bool) (sensor : Nat) : Mod :=
  if m.saf.views.contains (bore, sensor) then m
  else
    let m := { m with saf := { m.saf with views := m.saf.views ++ [(bore, sensor)] } }
    (m.raise 0x4002 (b2n bore) [b2n bore, sensor]).trig .degraded

def Mod.anyLoss (m : Mod) : Bool :=
  m.saf.reedLost.isSome || m.saf.boreLost.isSome || !m.saf.views.isEmpty

/-- Both channels are healthy. -/
def Mod.healthy (m : Mod) : Bool := !m.anyLoss

/-- The lower of the limits of R345 in MOT ticks. (Assumption 92 DEDUCED) -/
def Mod.degLimit (m : Mod) : Nat := m.pn P.degradedTimeLimit 0 * 60 * SEC

/-- Count degraded time up to the present: while a loss stands, and while off-pulses are suspended on a
closed loop (R331, R345). -/
def Mod.degOn (m : Mod) : Bool :=
  m.anyLoss || (m.saf.off.susp.isSome && (m.saf.loops.L.closed || m.saf.loops.R.closed))

/-- (Assumptions 42 DEDUCED, 92 DEDUCED) -/
def Mod.degCount (m : Mod) : Mod :=
  let on := m.degOn
  { m with saf := { m.saf with
    deg := if on then m.saf.deg + (m.raw - m.saf.degAt) else m.saf.deg, degAt := m.raw } }

/-- DEGRADED_LIMIT_NEAR once the remaining time is at most 10 % of the limit (R345). (Assumption 92 DEDUCED) -/
def Mod.degNear (m : Mod) : Mod :=
  let lim := m.degLimit
  if !m.saf.near && decide (lim * 9 ≤ m.saf.deg * 10) && decide (m.saf.deg < lim) then
    ({ m with saf := { m.saf with near := true } }).raise 0x4003 0 [((lim - m.saf.deg) / SEC : Nat)]
  else m

end Sys2Proof.Machine
end

