-- ==== Sys2Proof/Machine/FieldIo.lean ====
section
/-! DEFINITION. Field dies, load switches and feeds (10_field_io_load_switches.md): their operations and
the commands that concern them alone. -/
namespace Sys2Proof.Machine

def Mod.onIo (m : Mod) (f : IoSt → IoSt) : Mod := { m with io := f m.io }
def Mod.di (m : Mod) (i : Nat) : Di := m.io.di.getD i Di.reset
def Mod.die (m : Mod) (d : Nat) : Die := m.io.die.getD d Die.reset
def Mod.ls (m : Mod) (n : Nat) : Ls := m.io.ls.getD n Ls.reset
def Mod.feed (m : Mod) (f : Nat) : Feed := m.io.feed.getD f ⟨0, false, 0, false⟩
def Mod.onDi (m : Mod) (i : Nat) (f : Di → Di) : Mod := m.onIo (fun x => { x with di := upd x.di i f })
def Mod.onDie (m : Mod) (d : Nat) (f : Die → Die) : Mod := m.onIo (fun x => { x with die := upd x.die d f })
def Mod.onLs (m : Mod) (n : Nat) (f : Ls → Ls) : Mod := m.onIo (fun x => { x with ls := upd x.ls n f })
def Mod.onFeed (m : Mod) (k : Nat) (f : Feed → Feed) : Mod := m.onIo (fun x => { x with feed := upd x.feed k f })

/-- A test-failed input reads inactive (R367). -/
def Mod.diActive (m : Mod) (i : Nat) : Bool := (m.di i).filt && !(m.di i).testFailed

/-- Channels 0 to 11 stand on die A, 12 to 23 on die B (R374). -/
def lsDie (n : Nat) : Nat := if n < 12 then 0 else 1
def lsGroup (n : Nat) : Nat := if n < 8 then 1 else if n < 16 then 2 else 3
/-- The feed as the channel's own die measures it. -/
def lsFeed (n : Nat) : Nat := if n < 8 then 0 else if n < 12 then 1 else if n < 16 then 2 else 3
def feedGroup (f : Nat) : Nat := if f = 0 then 1 else if f = 3 then 3 else 2
def feedDie (f : Nat) : Nat := if f < 2 then 0 else 1
def dieLs (d : Nat) : List Nat := (upto 24).filter (fun n => lsDie n == d)

/-! ### Driving a channel (R375, R383 to R388) -/

/-- The fail-safe state stands: by the mode, by the die's watchdog, or because the logic side takes the die to
hold it (R80, R373, R387, R580). (Assumption 93 DEDUCED) -/
def Mod.fsOn (m : Mod) (n : Nat) : Bool :=
  m.io.fsMode || (m.die (lsDie n)).wdog || (m.die (lsDie n)).fsTaken

/-- The state the channel is to take: 0 off, 1 on, 2 flashing. (Assumption 97 DEDUCED) -/
def Mod.lsWant (m : Mod) (n : Nat) : Nat :=
  let c := m.ls n
  if m.tw.orphan then 0
  else match c.fs with
  | none => if m.fsOn n then 0 else c.dieCmd
  | some f => if m.fsOn n then (if f = 0 then 0 else if f = 1 then 1 else c.dieCmd) else c.dieCmd

/-- Held off by protection, shedding, sag or a missing feed (R376). (Assumption 97 DEDUCED) -/
def Mod.lsHeld (m : Mod) (n : Nat) : Bool :=
  let c := m.ls n
  let f := m.feed (lsFeed n)
  decide (c.trip ≠ 0) || c.latch || c.exhausted || c.shed || f.sag || f.absent

/-- A turn-on: a new inrush window, and the settings that wait for the next turn-on (R377, R390). -/
def Mod.lsTurnOn (m : Mod) (n : Nat) (first : Bool) : Mod :=
  let m := m.takeDue (fun d i => decide (d.eff = .turnOn) && decide (i = n))
  m.onLs n (fun c => { c with out := true, onAt := m.raw, goodAt := if first then m.raw else c.goodAt })

/-- Bring a channel's output to what its command, its holds and the fail-safe states ask for.
 (Assumption 97 DEDUCED) -/
def Mod.lsDrive (m : Mod) (n : Nat) : Mod :=
  let c := m.ls n
  let w := m.lsWant n
  if w = 0 ∨ m.lsHeld n then m.onLs n (fun c => { c with out := false, flashing := false })
  else if w = 1 then
    let m := m.onLs n (fun c => { c with flashing := false })
    if c.out then m else m.lsTurnOn n true
  else if c.flashing then m
  else (m.onLs n (fun c => { c with flashing := true, flashAt := m.raw })).lsTurnOn n true

def Mod.lsDriveAll (m : Mod) : Mod := (upto 24).foldl Mod.lsDrive m

/-- LS_FAILSAFE_APPLIED and the fail-safe states by mode, 1, or by watchdog, 2 (R387). -/
def Mod.lsFailsafeMode (m : Mod) (on : Bool) : Mod :=
  if m.io.fsMode = on then m
  else
    let m := (m.onIo (fun x => { x with fsMode := on })).lsDriveAll
    if on then (m.raise 0x5012 0 [1]).raise 0x5012 1 [1] else m

/-! ### Trips and retries (R383 to R385) -/

/-- Wire class: rated current in mA and time constant in ms (R378). -/
def wireClass (c : Nat) : Nat × Nat :=
  [(2500, 6000), (3200, 9000), (3800, 12000), (4800, 18000), (6500, 30000)].getD c (2500, 6000)

/-- I_R in mA (R378). -/
def Mod.lsRated (m : Mod) (n : Nat) : Nat :=
  min (m.pn P.lsNominal n) (min (wireClass (m.pn P.lsWireClass n)).1 (4000 * m.sup.kT / 10000))

/-- (1.1 I_R)^2 in 2^-16 mA^2, times 100. -/
def Mod.lsLevel (m : Mod) (n : Nat) : Nat := 121 * m.lsRated n * m.lsRated n * 65536

/-- A trip (R377, R378, R385). -/
def Mod.lsTrip (m : Mod) (n cause ma : Nat) : Mod :=
  let m := m.takeDue (fun d i => (d.id == P.lsRetryMax.id || d.id == P.lsRetryDelay.id) && decide (i = n))
  let m := m.onLs n (fun c => { c with
    out := false, flashing := false, trip := cause, tripAt := m.raw, tripMa := ma, goodAt := m.raw })
  let m := m.raise 0x5008 n [cause, ma]
  if m.pn P.lsRetryMax n ≤ (m.ls n).retries then
    (m.onLs n (fun c => { c with exhausted := true })).raise 0x500B n [cause]
  else m

/-- One retry, which uses a count (R383, R384). -/
def Mod.lsRetryNow (m : Mod) (n : Nat) : Mod :=
  let m := m.onLs n (fun c => { c with trip := 0, retries := c.retries + 1 })
  (m.raise 0x500A n [(m.ls n).retries]).lsDrive n

/-- LS_TIMED_SWITCH (R375). -/
def execLsTimedSwitch (n : Nat) (s : State) : Out :=
  s.pow (fun m =>
    match (m.ls n).timed with
    | some (st, t) =>
      let m := m.advance t
      (m.onLs n (fun c => { c with cmd := st, dieCmd := st, timed := none })).lsDrive n
    | none => m)

/-- LS_FLASH_TOGGLE (R375): 500 ms on, 500 ms off. -/
def execLsFlashToggle (n : Nat) (s : State) : Out :=
  s.pow (fun m =>
    let c := m.ls n
    if c.flashing then
      let m := m.advance (c.flashAt + 500 * MS)
      let m := m.onLs n (fun x => { x with flashAt := m.raw })
      if c.out then m.onLs n (fun x => { x with out := false }) else m.lsTurnOn n false
    else m)

/-- The current a module protects a channel on, in units of which `k` make a milliampere: its own, the sum with the twin's
exchanged one, or twice its own while the ligature link is down (R388). -/
def Mod.lsSum (m : Mod) (n own k : Nat) : Nat :=
  if m.twinConf then (if m.tw.heart then own + k * (m.ls n).twinMa else 2 * own) else own

/-- The active current limit in mA at `t`: min(LS_INRUSH_FACTOR x I_NOM, 24 A) in the inrush window, then 2 x I_NOM
(R377). -/
def Mod.lsLimit (m : Mod) (n t : Nat) : Nat :=
  if t < (m.ls n).onAt + m.pn P.lsInrushTime n * MS then min (m.pn P.lsInrushFactor n * m.pn P.lsNominal n) 24000
  else 2 * m.pn P.lsNominal n

/-- LS_LIMIT_TRIP (R377, R388): 10 ms at the active limit, outside the inrush window; `ma` is the own current. -/
def execLsLimitTrip (n ma : Nat) (s : State) : Out :=
  s.pow (fun m =>
    if (m.ls n).out then
      let t := m.advance ((m.ls n).onAt + (m.pn P.lsInrushTime n + 10) * MS)
      let i := t.lsSum n ma 1
      if t.lsLimit n t.raw ≤ i then t.lsTrip n 1 i else m
    else m)

/-- Feed voltage, in 0.1 V, below which current report and open-load detection stop (R380, R386). -/
def feedReport : Nat := 160

/-- The channel's feed stands at or above 16 V, so that its current is reported (R380, R386). -/
def Mod.lsReports (m : Mod) (n : Nat) : Bool := decide (feedReport ≤ (m.feed (lsFeed n)).volt)

/-- LS_FUSE_UPDATE (R378, R380, R386, R388): the heating state follows the summed current; with the feed below 16 V it runs
on the last valid current. -/
def execLsFuseUpdate (n ma : Nat) (s : State) : Out :=
  s.pow (fun m =>
    let m := m.onIo (fun x => { x with reportAt := m.raw })
    let c := m.ls n
    let own := if c.out then (if m.lsReports n then ma else c.ma) else 0
    let i := m.lsSum n own 1
    let tau := (wireClass (m.pn P.lsWireClass n)).2
    let x : Int := c.x + ((i * i * 65536 : Nat) - (c.x : Int)) / (tau : Int)
    let m := m.onLs n (fun c => { c with x := x.toNat, ma := if m.lsReports n then own else c.ma })
    if c.out && decide (m.lsLevel n ≤ 100 * x.toNat) then m.lsTrip n 2 i else m)

/-- Shed order: lowest priority first, the higher number on a tie. -/
def Mod.shedPick (m : Mod) (l : List Nat) : Option Nat :=
  l.foldl (fun b n => match b with
    | none => some n
    | some k => if m.pn P.lsPriority n ≤ m.pn P.lsPriority k then some n else some k) none

/-- Return order: highest priority first, the lower number on a tie. -/
def Mod.unshedPick (m : Mod) (l : List Nat) : Option Nat :=
  l.foldl (fun b n => match b with
    | none => some n
    | some k => if m.pn P.lsPriority k < m.pn P.lsPriority n then some n else some k) none

/-- GROUP_CHECK (R379, R388), every 100 ms; `own` in mA is the 1 s average of the group's current, over the exchanged sums
while the ligature exchange works. -/
def execGroupCheck (g own : Nat) (s : State) : Out :=
  s.live (fun m =>
    let avg := if m.twinConf && !m.tw.heart then 2 * own else own
    let m := m.takeDue (fun d _ => d.id == P.lsPriority.id)
    let lim := 24000 * m.sup.kT / 10000
    let chans := (upto 24).filter (fun n => lsGroup n == g)
    let old := (m.io.grp.getD (g - 1) ⟨0, none⟩).belowAt
    let below := if avg * 100 < lim * 80 then some (old.getD m.raw) else none
    let m := m.onIo (fun x => { x with grp := upd x.grp (g - 1) (fun _ => ⟨avg, below⟩) })
    if lim < avg then
      match m.shedPick (chans.filter (fun n => (m.ls n).out || (m.ls n).flashing)) with
      | some n => ((m.onLs n (fun c => { c with shed := true })).lsDrive n).raise 0x500D g [n, avg]
      | none => m
    else match below with
      | some t =>
        if t + SEC ≤ m.raw then
          match m.unshedPick (chans.filter (fun n => (m.ls n).shed)) with
          | some n => (m.onLs n (fun c => { c with shed := false })).lsDrive n
          | none => m
        else m
      | none => m)

/-- LS_OPEN_LOAD (R381, R388): `own` is the channel's current in mA, or in 50 uA in LED mode.
 (Assumption 96 DEDUCED) -/
def execLsOpenLoad (n own : Nat) (s : State) : Out :=
  s.live (fun m =>
    let c := m.ls n
    let th := m.pn P.lsOpenLoad n
    let cur := m.lsSum n own (if m.p P.lsMode n = 1 then 20 else 1)
    if th = 0 ∨ !m.lsReports n then m
    else if c.openLoad then
      if th ≤ cur then (m.onLs n (fun c => { c with openLoad := false })).raise 0x500C n [0, cur] else m
    else if c.out && decide (cur < th) && decide (c.onAt + m.pn P.lsInrushTime n * MS ≤ m.raw) then
      (m.onLs n (fun c => { c with openLoad := true })).raise 0x500C n [1, cur]
    else m)

/-- LS_THERMAL_LATCH_SET (R382, R384). -/
def execLsThermalLatchSet (n : Nat) (s : State) : Out :=
  s.pow (fun m =>
    if n < 24 ∧ ¬ (m.ls n).latch then
      ((m.onLs n (fun c => { c with latch := true })).lsDrive n).raise 0x5009 n [1]
    else m)

/-- LS_THERMAL_LATCH_CLEAR (R384). -/
def execLsThermalLatchClear (n : Nat) (s : State) : Out :=
  s.pow (fun m =>
    if (m.ls n).latch then
      let m := (m.onLs n (fun c => { c with latch := false })).raise 0x5009 n [0]
      if m.lsWant n = 0 ∨ (m.ls n).exhausted then m
      else if (m.ls n).retries < m.pn P.lsRetryMax n then m.lsRetryNow n
      else (m.onLs n (fun c => { c with exhausted := true })).raise 0x500B n [3]
    else m)

/-- LS_RETRY (R383, R384). -/
def execLsRetry (n : Nat) (s : State) : Out :=
  s.pow (fun m =>
    let c := m.ls n
    if decide (c.trip ≠ 0) && !c.latch && !c.exhausted && decide (m.lsWant n ≠ 0) then
      let m := m.advance (c.tripAt + m.pn P.lsRetryDelay n * MS)
      if c.trip = 2 ∧ m.lsLevel n < 200 * c.x then m
      else if c.retries < m.pn P.lsRetryMax n then m.lsRetryNow n
      else (m.onLs n (fun c => { c with exhausted := true })).raise 0x500B n [c.trip]
    else m)

/-- LS_RETRY_COUNTER_RESET (R383): 60 s on without a trip. -/
def execLsRetryCounterReset (n : Nat) (s : State) : Out :=
  s.pow (fun m =>
    let c := m.ls n
    if c.out || c.flashing then
      (m.advance (c.goodAt + 60 * SEC)).onLs n (fun c => { c with retries := 0 })
    else m)

/-! ### Commands (R376, R385, R391, R392) -/

/-- A channel named in PORTAL_LS_MAP of an enabled portal (R376): three fields of 8 bits, 0xFF for none. -/
def Mod.portalLs (m : Mod) (p k : Nat) : Option Nat :=
  let n := field (m.pn P.portalLsMap p) (8 * k) 8
  if n < 24 then some n else none

def Mod.lsOwned (m : Mod) (n : Nat) : Bool :=
  (m.md.active || decide (m.md = .egress))
    && m.portals.any (fun p => m.enabled p && (upto 3).any (fun k => m.portalLs p k == some n))

/-- Set a commanded state: it reaches the die with the next downstream frame (R375). In a formed pair the
ACTIVE makes it a timed command of both dies, 60 us ahead (R496). -/
def Mod.lsCommand (m : Mod) (n st : Nat) : Mod :=
  if m.twinActive && m.tw.pairFormed && m.tw.heart then
    let t : Nat := m.raw + 60 * US
    (m.onLs n (fun c => { c with timed := some (st, t) })).sendTwin 9 n [st, t]
  else m.onLs n (fun c => { c with cmd := st })

/-- The output state a channel takes from command `st`: a channel in its fail-safe state, or already flashing, keeps its
output. -/
def Mod.lsAfter (m : Mod) (n st : Nat) : Bool :=
  if m.fsOn n || (decide (st = 2) && (m.ls n).flashing) then (m.ls n).out else decide (st ≠ 0)

/-- LS_SET (R376, R391). -/
def Mod.lsSet (m : Mod) (n st : Nat) : Mod × Option Reply :=
  if 24 ≤ n then (m, some (refuse 0x1004))
  else if 3 ≤ st then (m, some (refuse 0x1003))
  else if m.lsOwned n then (m, some (refuse 0x2601))
  else
    let out := m.lsAfter n st
    let m := m.lsCommand n st
    if m.lsHeld n then (m, some { status := 0x0020 })
    else (m, some { status := 0, res := res2 (b2n out) 0 })

def execLsSet (h : Hdr) (n st : Nat) (s : State) : Out :=
  s.ring h (descLsSet n st) Mode.faultClear (fun m => if m.locked (.ls n) then m.hold (.lsSet h n st) else m.lsSet n st)

/-- LS_CLEAR (R385). -/
def Mod.lsClear (m : Mod) (n : Nat) : Mod × Option Reply :=
  if 24 ≤ n then (m, some (refuse 0x1004))
  else if (m.ls n).latch then (m, some (refuse 0x2602))
  else
    let m := m.onLs n (fun c => { c with retries := 0, exhausted := false, trip := 0 })
    ((m.raise 0x5010 n []).lsDrive n, some okReply)

def execLsClear (h : Hdr) (n : Nat) (s : State) : Out :=
  s.ring h (descLsClear n) Mode.faultClear (fun m => if m.locked (.ls n) then m.hold (.lsClear h n) else m.lsClear n)

/-- One bit per index of a test. -/
def mask (n : Nat) (f : Nat → Bool) : Nat := (upto n).foldl (fun w k => w + b2n (f k) * 2 ^ k) 0

/-- Code of a feed half: 0 normal, 1 LIGHT below 16 V, 2 off by sag, 3 absent (R389). -/
def Mod.feedCode (m : Mod) (f : Nat) : Nat :=
  let x := m.feed f
  if x.absent then 3
  else if x.sag then 2
  else if m.p P.feedClass (feedGroup f) = 0 ∧ x.volt < feedReport then 1 else 0

/-- FEED.STATE of R389. -/
def Mod.feedState (m : Mod) : Nat :=
  m.feedCode 0 + 4 * max (m.feedCode 1) (m.feedCode 2) + 16 * m.feedCode 3

def Mod.diStale (m : Mod) (i : Nat) : Bool := (m.die (i / 32)).stale

/-- The 36 words of R392. -/
def Mod.ioWords (m : Mod) : List Int :=
  let di (f : Nat → Bool) : List Int := [(mask 32 f : Nat), (mask 32 (fun k => f (32 + k)) : Nat)]
  let ch (f : Ls → Bool) : Int := (mask 24 (fun n => f (m.ls n)) : Nat)
  let fine (n : Nat) : Nat :=
    if m.p P.lsMode n = 1 ∧ (m.ls n).ma < 20 then (m.ls n).ma * 20 else (m.ls n).ma
  let cur : List Int := (upto 12).map (fun j => ((fine (2 * j) + 65536 * fine (2 * j + 1) : Nat) : Int))
  di (fun i => (m.di i).filt) ++ di (fun i => (m.di i).raw) ++ di m.diStale
    ++ di (fun i => (m.di i).testFailed) ++ di (fun i => (m.di i).chatter) ++ di (fun i => (m.di i).suspect)
    ++ [ch (fun c => decide (c.cmd ≠ 0)), ch (fun c => c.out), ch (fun c => decide (c.trip ≠ 0) || c.shed),
      ch (fun c => c.latch), ch (fun c => c.exhausted), ch (fun c => c.openLoad)]
    ++ cur
    ++ ([((m.feedState : Nat) : Int),
      (((m.feed 0).volt + 65536 * min (m.feed 1).volt (m.feed 2).volt : Nat) : Int), ((m.feed 3).volt : Nat), 0,
      fabAt m.time m.io.reportAt % 1000000000, fabAt m.time m.io.reportAt / 1000000000] : List Int)

/-- IO_STATUS (R392). -/
def execIoStatus (h : Hdr) (len : Nat) (s : State) : Out :=
  s.ring h (descIoStatus len) Mode.reads (fun m =>
    if len < 144 then (m, some (refuse 0x1006))
    else (m, some { status := 0, buf := (m.ioWords.map le4).flatten }))

/-! ### Feeds (R386) -/

/-- The LIGHT minimum in 0.1 V. -/
def lightMin (un : Nat) : Nat :=
  if un = 24 then 90 else if un = 48 then 180 else if un = 72 then 270 else if un = 96 then 350 else 400

/-- Voltage below which a half turns off, in 0.1 V. -/
def Mod.feedMin (m : Mod) (f : Nat) : Nat :=
  let un := m.pn P.feedUn (feedGroup f)
  if m.p P.feedClass (feedGroup f) = 0 then lightMin un else 7 * un

def halfLs (f : Nat) : List Nat := (upto 24).filter (fun n => lsFeed n == f)

/-- FEED_SAG_OFF (R386): below the minimum for more than 10 ms. -/
def execFeedSagOff (f volt : Nat) (s : State) : Out :=
  s.pow (fun m =>
    if f < 4 ∧ volt < m.feedMin f ∧ ¬ (m.feed f).sag then
      let m := m.onFeed f (fun x => { x with volt := volt, sag := true, offAt := m.raw })
      let m := (halfLs f).foldl Mod.lsDrive m
      m.raise 0x500E (feedGroup f) [volt]
    else m.onFeed f (fun x => { x with volt := volt }))

/-- FEED_RESTORED (R386): 0.8 Un for 100 ms. -/
def execFeedRestored (f volt : Nat) (s : State) : Out :=
  s.pow (fun m =>
    let t := (m.feed f).offAt
    if (m.feed f).sag && decide (8 * m.pn P.feedUn (feedGroup f) ≤ volt) then
      let m := m.onFeed f (fun x => { x with volt := volt, sag := false })
      let m := (halfLs f).foldl Mod.lsDrive m
      m.raise 0x500F (feedGroup f) [((m.raw - t) / MS : Nat)]
    else m.onFeed f (fun x => { x with volt := volt }))

/-- FEED_ABSENT (R386): below 5 V, or back. -/
def execFeedAbsent (f volt : Nat) (s : State) : Out :=
  s.pow (fun m =>
    let a := decide (volt < 50)
    if f < 4 ∧ (m.feed f).absent ≠ a then
      let m := m.onFeed f (fun x => { x with volt := volt, absent := a })
      let m := (halfLs f).foldl Mod.lsDrive m
      m.raise 0x5011 (feedGroup f) [b2n a]
    else m.onFeed f (fun x => { x with volt := volt }))

end Sys2Proof.Machine
end

