-- ==== Sys2Proof/Machine/Generator.lean ====
section
/-! DEFINITION. The profile generators (06_motion_homing.md): checks of a move, what a generator applies
at a tick, ends of plans, homing sequences. -/
namespace Sys2Proof.Machine

/-! ### Limits and checks (R204, R208 to R210) -/

/-- The limits of a move in um units: 0, or 0xFFFF_FFFF for the jerk, selects the default. -/
def Mod.moveLim (m : Mod) (i : Nat) (a : MoveArgs) : Lim where
  v := if a.speed = 0 then m.pn P.defaultSpeed i else a.speed
  a := if a.accel = 0 then m.pn P.defaultAccel i else a.accel
  d := if a.decel = 0 then m.pn P.defaultDecel i else a.decel
  j := if a.jerk = 0xFFFFFFFF then m.pn P.defaultJerk i else a.jerk

/-- A speed in um/s above the ceiling of R157 and R204. -/
def Mod.tooFast (m : Mod) (i v : Nat) : Bool := decide (2048000 < toSteps (m.scale i) v)

/-- LIMIT_ABOVE_MAX or SPEED_TOO_HIGH. -/
def Mod.limStatus (m : Mod) (i : Nat) (l : Lim) : Option Nat :=
  if m.pn P.speedMax i < l.v ∨ m.pn P.accelMax i < l.a ∨ m.pn P.decelMax i < l.d ∨ m.pn P.jerkMax i < l.j then
    some 0x1207
  else if m.tooFast i l.v then some 0x1205
  else none

def Mod.qLim (m : Mod) (i : Nat) (l : Lim) : Lim :=
  ⟨toQ (m.scale i) l.v, toQ (m.scale i) l.a, toQ (m.scale i) l.d, toQ (m.scale i) l.j⟩

/-- The target in microsteps (R205, R209). -/
def Mod.moveTarget (m : Mod) (i : Nat) (a : MoveArgs) : Int :=
  if a.relative then
    let base := match (m.axis i).mv with
      | some mv => (match mv.next with | some n => n.target | none => mv.target)
      | none => (m.axis i).pcmd
    base + toSteps (m.scale i) a.target
  else m.stepPos i a.target

/-- The axis is in a fault stop, a Safe Stop or a torque-loss coast. -/
def Axis.stopping (a : Axis) : Bool :=
  a.coast || a.fstop.isSome || (match a.mv with
    | some mv => (match mv.stop with
      | some (.fault _) => true
      | some .safeStop => true
      | some .endStop => true
      | _ => false)
    | none => false)

/-- An axis that torque returns to at the next tick (R576): all that lets it have torque stands. -/
def Mod.torqueDue (m : Mod) (i : Nat) : Bool :=
  let a := m.axis i
  !a.torque && decide (a.iso = .closed) && m.mayDrive i && !m.tw.resume.contains i && decide (m.sup.st ≠ .interrupted)

/-- The checks of R210 that do not look at the command's own values. (Assumption 66 DEDUCED) -/
def Mod.axisCheck (m : Mod) (i : Nat) (own refd : Bool) : Option Nat :=
  let a := m.axis i
  if a.fault.isSome then some 0x2202
  else if m.sup.st = .interrupted then some 0x220B
  else if !a.torque && !m.torqueDue i then some 0x2208
  else if (m.roleOf i).isSome && m.md.active && !own then some 0x220A
  else if refd && !a.referenced then some 0x2207
  else none

/-- R210 in its order; `own` is a move of the table of the axis's own portal. (Assumption 66 DEDUCED) -/
def Mod.moveCheck (m : Mod) (i : Nat) (own : Bool) (a : MoveArgs) : Option Nat :=
  match m.axisCheck i own true with
  | some st => some st
  | none =>
    let x := if a.relative then m.hostPos i (m.moveTarget i a) else a.target
    if x < m.p P.travelMin i ∨ m.p P.travelMax i < x then some 0x1206
    else match m.limStatus i (m.moveLim i a) with
      | some st => some st
      | none =>
        if m.moving i && !a.redirect then some 0x2205
        else if (m.axis i).stopping then some 0x2206 else none

/-! ### Starting and ending (R203, R211, R222) -/

/-- Microseconds of a plan time. -/
def durUs (d : Nat) : Int := roundDiv d 13107200

def MSrc.hdr : MSrc → Option Hdr
  | .ring h => some h
  | _ => none

/-- The TAG of a ring command or of a staged one; 0 for another source (R236). -/
def MSrc.tag : MSrc → Nat
  | .ring h => h.tag
  | .txn _ _ tag => tag
  | _ => 0

/-- PROBE returns to 0 (R293). -/
def Mod.probeReset (m : Mod) (p : Nat) : Mod :=
  (m.leaves p).foldl (fun m i => m.onOb i (fun o => { o with probe := .idle, ditherAt := none }))
    (m.onPo p (fun q => { q with probe := 0 }))

/-- The speed limit that lowerings of R55 already made put on a move that starts: 10 % of its programmed speed each. -/
def Mod.startLimit (m : Mod) (v : Nat) : Option Nat :=
  if m.sup.limitActive ∧ 0 < m.sup.lowerings then some (v * (10 - m.sup.lowerings) / 10) else none

/-- A portal cycle of an axis held or lowered is power-limited (R55, R272 condition 6). -/
def Mod.markLimited (m : Mod) (i : Nat) : Mod :=
  (m.onCyc (i / 4) (fun c => { c with flags := c.flags ||| 2 })).markLearn i 6

/-- A plan starts: AXIS_MOVE_START is stamped with the start instant. -/
def Mod.beginMove (m : Mod) (i start : Nat) (p0 : Int) (n : Pend) : Mod :=
  let m := m.takeDue (fun d k => (decide (d.eff = .moveStart) && decide (k = i))
    || (decide (d.eff = .leafStart) && decide ((m.roleOf i).map (fun x => x.1) = some k)))
  let held := m.startLimit n.lim.v
  let m := if held.isSome then m.markLimited i else m
  let m := m.onAx i (fun a => { a with
    mv := some (startMove start p0 n), restAt := none, ramp := none, inPosSince := none, inPos := false,
    inPosRaised := false, lastTag := n.tag, tempLimit := held, tempIn := none, jogDir := n.jog })
  let m := m.onOb i (fun o => { o with
    forceCnt := 0, absCnt := 0, openCnt := 0, growCnt := 0, planAt := start, cap := none, relief := false })
  let m := { m with ob := { m.ob with edges := (m.ob.edges.zip (upto 8)).map (fun (x : Edge × Nat) =>
    if m.pn P.edgeAxis x.2 = i then { x.1 with test := none } else x.1) } }
  let m := if m.isLeaf i then m.probeReset (i / 4) else m
  let m := match m.roleOf i with
    | some (p, r) => m.onCyc p (fun c => { c with roles := upd c.roles r (fun x => { x with moves := min 255 (x.moves + 1) }) })
    | none => m
  let m := m.life (lifeAxis i 0) 1
  m.raiseT (fabAt m.time (start / 65536)) 0x1020 i [n.tag, m.hostPos i n.target]

/-- The reason of AXIS_MOVE_END for a plan that has ended (R236). -/
def Move.endReason (mv : Move) : Nat :=
  if mv.overrun then 5
  else match mv.stop with
    | none => 0
    | some .stopped => 1
    | some .superseded => 3
    | some .jogTimeout => 6
    | some .endStop => 8
    | some (.fault _) => 2
    | some .safeStop => 7

/-- The rest of a plan that has ended at or before the present tick: P_CMD is its rest position, or P_ENC
after a stall; then a pending REDIRECT move starts at the very end, or a latch follows. -/
def Mod.endPlan (m : Mod) (i : Nat) : Mod :=
  match (m.axis i).mv with
  | none => m
  | some mv =>
    let owed := (m.axis i).owed
    if mv.ended m.raw then
      let at_ : Nat := mv.stop_ / 65536
      let pc := if mv.toEnc then m.pEnc i else wrap32 (roundDiv mv.rest 65536)
      let m := m.onAx i (fun a => { a with
        mv := none, pcmd := pc, pos := pc * 65536, vel := 0, restAt := some at_, ramp := none,
        jogDir := none, inPosSince := none, owed := [] })
      let m := m.onOb i (fun o => { o with cap := none })
      let m := if mv.overrun then
          (m.raise 0x1024 i [mv.tag, m.um i (roundDiv (mv.rest - mv.target * 65536) 65536).natAbs]).markRole i 3 none
        else m
      let m := m.moveEndAt i mv.tag mv.endReason (max at_ (mv.start / 65536))
      match mv.next with
      | some n => (m.beginMove i mv.stop_ mv.rest n).onAx i (fun a => { a with
          mv := a.mv.map (fun x => { x with fresh := false }) })
      | none => owed.foldl (fun m c => m.latch i c) (m.takeDue (fun d k => (decide (d.eff = .arrival) && decide (k = i)) || (decide (d.eff = .leafStop) && m.isLeaf i && decide (k = i / 4))))
    else m

/-! ### What arrives at a tick (R212, R213, R215, R217, R220 to R223) -/

/-- Complete a ring command; another source gets no completion. -/
def Mod.answer (m : Mod) (src : MSrc) (r : Reply) : Mod :=
  match src with
  | .ring h => m.complete h r
  | _ => m

/-- Start a move at rest, or as a REDIRECT of the running one (R212, R213). -/
def Mod.takeMove (m : Mod) (i : Nat) (n : Pend) (at? : Option Nat) : Mod :=
  match (m.axis i).mv with
  | none =>
    let st := (at?.getD m.raw) * 65536
    let m := m.beginMove i st ((m.axis i).pcmd * 65536) n
    let d := match (m.axis i).mv with
      | some mv => mv.dur
      | none => 0
    let m := m.answer n.src { status := 0, res := res2 (durUs d) n.target, at? := some (fabAt m.time (st / 65536)) }
    m.endPlan i
  | some mv =>
    let m := match mv.next with
      | some o => m.moveEnd i o.tag 3
      | none => m
    let st := match mv.stop with
      | none => mv.halt m.raw .superseded
      | some _ => mv
    let st := { st with next := some n }
    let m := m.onAx i (fun a => { a with mv := some st, jogDir := n.jog })
    let left := st.stop_ - m.raw * 65536
    let d := left + segsDur (planSegs 0 (n.target * 65536 - st.rest).natAbs n.lim)
    m.answer n.src { status := 0x0012, res := res2 (durUs d) n.target }

/-- STOP at its tick (R213, R217). (Assumption 69 DEDUCED) -/
def Mod.takeStop (m : Mod) (i : Nat) (src : MSrc) : Mod :=
  match (m.axis i).mv with
  | none => m.answer src { status := 0, res := res2 (m.hostPos i (m.axis i).pcmd) 0 }
  | some mv =>
    let m := match mv.next with
      | some o => m.moveEnd i o.tag 3
      | none => m
    let st : Move := match mv.stop with
      | none => { (mv.halt m.raw .stopped) with next := none }
      | some .superseded => { mv with stop := some .stopped, next := none }
      | some _ => { mv with next := none }
    let m := m.onAx i (fun a => { a with mv := some st })
    let m := m.answer src { status := 0, res := res2 (m.hostPos i (roundDiv st.rest 65536)) 0 }
    m.endPlan i

/-- The limits in force of a running move (R216). -/
def Axis.effLim (a : Axis) (l : Lim) : Lim :=
  match a.tempLimit with
  | some t => { l with v := min l.v t }
  | none => l

/-- Apply a replan and raise its event; the stored limits are `l` (R221). -/
def Mod.takeReplan (m : Mod) (i : Nat) (r : Replan) (l : Lim) : Mod :=
  let m := m.onAx i (fun a => { a with mv := some { r.mv with lim := l } })
  if r.status = 0x0010 then
    (m.raise 0x1023 i [r.mv.tag, ofQ (m.scale i) r.dreq]).markRole i 2 none
  else m

/-- A 0 keeps the present value (R215). -/
def Mod.newLim (m : Mod) (i : Nat) (l : Lim) (a : LimitArgs) : Lim :=
  let q := toQ (m.scale i)
  ⟨if a.speed = 0 then l.v else q a.speed, if a.accel = 0 then l.a else q a.accel,
    if a.decel = 0 then l.d else q a.decel, if a.jerk = 0 then l.j else q a.jerk⟩

/-- The status of the values a SET_MOTION_LIMITS carries. (Assumption 67 DEDUCED) -/
def Mod.limArgStatus (m : Mod) (i : Nat) (a : LimitArgs) : Option Nat :=
  m.limStatus i ⟨a.speed, a.accel, a.decel, a.jerk⟩

/-- SET_MOTION_LIMITS at its tick (R215, R220, R221). (Assumption 67 DEDUCED) -/
def Mod.takeLimits (m : Mod) (i : Nat) (src : MSrc) (a : LimitArgs) : Mod :=
  match (m.axis i).mv with
  | none => m.answer src (refuse 0x2209)
  | some mv =>
    match m.limArgStatus i a with
    | some st => m.answer src (refuse st)
    | none =>
      let l := m.newLim i mv.lim a
      let safe := toQ (m.scale i) (m.pn P.decelSafeMax i)
      let r := mv.replan m.raw (mv.kin m.raw) ((m.axis i).effLim l) safe true
      let used := if r.status = 0x0010 then max l.d r.dreq else if r.status = 0x0011 then safe else l.d
      let m := m.takeReplan i r l
      m.answer src { status := r.status, res := res2 (ofQ (m.scale i) used) 0 }

/-- The DECEL of R283 at its tick: a replan without a jerk limit. -/
def Mod.takeReact (m : Mod) (i d : Nat) : Mod :=
  match (m.axis i).mv with
  | some mv =>
    if mv.stop.isSome then m
    else
      let l := { mv.lim with d := max mv.lim.d d, j := 0 }
      m.takeReplan i (mv.replan m.raw (mv.kin m.raw) ((m.axis i).effLim l) (toQ (m.scale i) (m.pn P.decelSafeMax i)) true) l
  | none => m

/-- A jog's target: the travel limit, or JOG_SPAN from its start position while unreferenced; a jog that redirects starts at
the stop point (R232). -/
def Mod.jogTarget (m : Mod) (i : Nat) (pos : Bool) : Int :=
  if (m.axis i).referenced then m.stepPos i (if pos then m.p P.travelMax i else m.p P.travelMin i)
  else
    let d := toSteps (m.scale i) (m.p P.jogSpan i)
    let p0 : Int := match (m.axis i).mv with
      | some mv => roundDiv (mv.halt m.raw .superseded).rest 65536
      | none => (m.axis i).pcmd
    p0 + (if pos then d else -d)

/-- The speed of a jog: 0 selects JOG_SPEED_MAX (R232). -/
def Mod.jogSpeed (m : Mod) (i speed : Nat) : Nat := if speed = 0 then m.pn P.jogSpeedMax i else speed

def Mod.takeJog (m : Mod) (i : Nat) (h : Hdr) (pos redirect : Bool) (speed : Nat) : Mod :=
  match m.axisCheck i false false with
  | some st => m.complete h (refuse st)
  | none =>
    if m.moving i && !redirect then m.complete h (refuse 0x2205)
    else if (m.axis i).stopping then m.complete h (refuse 0x2206)
    else if m.tooFast i (m.jogSpeed i speed) then m.complete h (refuse 0x1205)
    else
      let l : Lim := ⟨m.jogSpeed i speed, m.pn P.defaultAccel i, m.pn P.defaultDecel i, m.pn P.defaultJerk i⟩
      let n : Pend := ⟨m.jogTarget i pos, m.qLim i l, .ring h, h.tag, some pos, false⟩
      (m.takeMove i n none).onAx i (fun a => { a with jogAt := m.raw })

/-- The command an item stands for. -/
def Arr.src : Arr → Option MSrc
  | .move src _ _ => some src
  | .jog h _ _ _ => some (.ring h)
  | .stop src => some src
  | .limits src _ => some src
  | .react _ => none

/-- Put the values of a SET_MOTION_LIMITS under the first later one of the same tick, field by field (R223). -/
def mergeLimits (a : LimitArgs) : List Arr → Option (List Arr)
  | [] => none
  | .limits src b :: r =>
    let f (x y : Nat) : Nat := if y = 0 then x else y
    some (.limits src ⟨f a.speed b.speed, f a.accel b.accel, f a.decel b.decel, f a.jerk b.jerk⟩ :: r)
  | x :: r => (mergeLimits a r).map (fun l => x :: l)

/-- A fired MOVE of a table does not start at its boundary (R250). -/
def Mod.refuseRow (m : Mod) (p row act st : Nat) : Mod :=
  (m.raise 0x2005 p [row, act, st]).onPo p (fun q => { q with refused := true })

/-- An item is refused. -/
def Mod.refuseArr (m : Mod) (i : Nat) (src : MSrc) (st : Nat) : Mod :=
  match src with
  | .table row act => m.refuseRow (i / 4) row act st
  | _ => m.answer src (refuse st)

/-- One item that arrived since the last tick, with those that follow it. In the tick of a torque removal every command is
refused with TORQUE_OFF (R223); a committed move that is final starts and ends at the same instant (R465). -/
def Mod.takeArr (m : Mod) (i : Nat) (x : Arr) (rest : List Arr) : Mod × List Arr :=
  match x with
  | .move src a at? =>
    let own := match src with
      | .table _ _ => true
      | .txn _ own _ => own
      | _ => false
    let n : Pend := ⟨m.moveTarget i a, m.qLim i (m.moveLim i a), src, src.tag, none, false⟩
    (match src with
      | .txn _ _ _ => (if (m.axis i).torque then m.takeMove i n at? else (m.takeMove i n at?).dropTorque i, rest)
      | _ =>
        (match (if (m.axis i).cut then some 0x2208 else m.moveCheck i own a) with
          | some st => (m.refuseArr i src st, rest)
          | none => (m.takeMove i n at?, rest)))
  | .jog h pos redirect speed =>
    (if (m.axis i).cut then m.complete h (refuse 0x2208) else m.takeJog i h pos redirect speed, rest)
  | .stop src => (if (m.axis i).cut then m.answer src (refuse 0x2208) else m.takeStop i src, rest)
  | .react d => (m.takeReact i d, rest)
  | .limits src a =>
    if (m.axis i).cut then (m.answer src (refuse 0x2208), rest)
    else match mergeLimits a rest with
      | some l => (m.answer src { status := 0x0013 }, l)
      | none => (m.takeLimits i src a, rest)

/-- Apply the items in order; `k` bounds their number. (Assumption 65 DEDUCED) -/
def Mod.takeArrs (m : Mod) (i : Nat) : Nat → List Arr → Mod
  | 0, _ => m
  | _ + 1, [] => m
  | k + 1, x :: rest => let (m', r) := m.takeArr i x rest; m'.takeArrs i k r

/-- The temporary limit of R216 at a tick. -/
def Mod.takeTemp (m : Mod) (i : Nat) : Mod :=
  let a := m.axis i
  match a.mv with
  | some mv =>
    if a.tempLimit = a.tempIn ∨ mv.stop.isSome ∨ mv.overrun then m
    else
      let l := a.effLim mv.lim
      let fresh := a.tempIn.isNone && decide (l.v < mv.lim.v)
      let r := mv.replan m.raw (mv.kin m.raw) l (toQ (m.scale i) (m.pn P.decelSafeMax i)) true
      let m := (m.takeReplan i r mv.lim).onAx i (fun a => { a with tempIn := a.tempLimit })
      if fresh then m.raise 0x1025 i [mv.tag, ofQ (m.scale i) l.v] else m
  | none => m

/-- The generator of one axis at a tick (R202, R223): the ended plan, a fault or Safe Stop, the items in
execution order, the temporary limit, then the plan's position and speed. (Assumption 65 DEDUCED) -/
def Mod.genTick (m : Mod) (i : Nat) : Mod :=
  let m := m.onAx i (fun a => { a with pcmdPrev := a.pcmd })
  let m := (m.endPlan i).endPlan i
  let m := if (m.axis i).torque then m
    else
      let pe := m.pEnc i
      m.onAx i (fun a => if a.coast then { a with pcmd := pe, pos := pe * 65536, vel := 0 } else a)
  let m := match (m.axis i).fstop with
    | some why => m.halt i why false
    | none => m
  let m := m.onAx i (fun a => { a with fstop := none })
  let items := (m.axis i).arr
  let m := m.onAx i (fun a => { a with arr := [] })
  let m := (m.takeArrs i (2 * items.length) items).onAx i (fun a => { a with cut := false })
  let m := m.takeTemp i
  match (m.axis i).mv with
  | some mv =>
    let k := mv.kin m.raw
    m.onAx i (fun a => { a with
      pcmd := wrap32 (roundDiv k.p 65536), pos := k.p, vel := k.v,
      dist := a.dist + (wrap32 (roundDiv k.p 65536 - a.pcmdPrev)).natAbs })
  | none => m.endPlan i

/-! ### In position (R211) -/

def Mod.inPosErr (m : Mod) (i : Nat) : Int := m.um i (m.err i)

/-- Follow the in-position condition of an axis at a tick. (Assumption 68 DEDUCED) -/
def Mod.inPosTick (m : Mod) (i : Nat) : Mod :=
  if m.moving i then m.onAx i (fun a => { a with inPos := false, inPosSince := none })
  else if (m.inPosErr i).natAbs ≤ m.pn P.inPosWindow i then
    m.onAx i (fun a =>
      let t := a.inPosSince.getD m.raw
      { a with inPosSince := some t, inPos := a.inPos || decide (t + m.pn P.inPosTime i * MS ≤ m.raw) })
  else m.onAx i (fun a => { a with inPos := false, inPosSince := none })

/-! ### Homing (R224 to R230) -/

def Move.shift (mv : Move) (d : Int) : Move :=
  { mv with p0 := mv.p0 + d * 65536, rest := mv.rest + d * 65536, target := mv.target + d,
            next := mv.next.map (fun n => { n with target := n.target + d }) }

/-- Add whole electrical cycles to the reference and to every internal position, and set POS_ORIGIN (R230).
 (Assumption 69 DEDUCED) -/
def Mod.rebase (m : Mod) (i : Nat) (d origin : Int) : Mod :=
  m.onAx i (fun a => { a with
    homeRef := a.homeRef + d, pcmd := a.pcmd + d, pcmdPrev := a.pcmdPrev + d, pos := a.pos + d * 65536,
    frozen := a.frozen.map (· + d), mv := a.mv.map (fun mv => mv.shift d), posOrigin := origin })

/-- Fix the reference (R230) at encoder position `ref`. -/
def Mod.homeFix (m : Mod) (i : Nat) (method : Nat) (ref : Int) : Mod :=
  let hp := toSteps (m.scale i) (m.p P.homePosition i)
  let (d, o, r) :=
    if method = 6 then
      let n := roundDiv hp 1024
      (1024 * n - (m.axis i).homeRef, hp - 1024 * n, ref + 1024 * n - (m.axis i).homeRef)
    else
      let dl := hp - ref
      let n := roundDiv dl 1024
      (1024 * n, dl - 1024 * n, ref + 1024 * n)
  let m := m.rebase i d o
  let m := m.onAx i (fun a => { a with shadowDisc := false, home := a.home.map (fun h => { h with ref := some r, refUm := m.hostPos i r }) })
  m.raise 0x1030 i [0, method, o]

/-- The role axes of a portal in homing order: lock, step, leaf L, leaf R (R224). -/
def Mod.homeOrder (m : Mod) (p : Nat) : List Nat := [3, 2, 0, 1].filterMap (m.roleAxis p)

/-- Axes a homing operation covers. -/
def Mod.homeAxes (m : Mod) (inst : Nat) (portal : Bool) : List Nat :=
  if portal then m.homeOrder inst else [inst]

/-- The method an axis's next homing runs: a value that waits for it counts (R233). -/
def Mod.nextMethod (m : Mod) (i : Nat) : Nat := ((m.takeDue (fun d k => d.id == P.homeMethod.id && decide (k = i))).p P.homeMethod i).toNat

/-- A method fits the axis's role, as in force since the last start (R228). -/
def Mod.homeFits (m : Mod) (i k : Nat) : Bool :=
  if k = 4 then (match m.roleOf i with
    | some (p, 2) => decide (m.p P.stepRetPair p ≠ 255)
    | _ => false)
  else if k = 5 then (match m.roleOf i with
    | some (p, 3) => decide (m.p P.lockPair p ≠ 255)
    | _ => false)
  else true

/-- Direction of the search (R228). -/
def Mod.homeDirOf (m : Mod) (i : Nat) : Int :=
  let k := m.p P.homeMethod i
  if k = 4 ∨ k = 5 then
    match m.roleOf i with
    | some (p, r) => (match m.posUm p r 0, m.posUm p r 1 with
      | some a, some b => if b < a then 1 else -1
      | _, _ => -1)
    | none => -1
  else if m.p P.homeDir i = 1 then 1 else -1

/-- A homing sequence begins (R226, R231); the parameters of the next homing come into force. -/
def Mod.homeBegin (m : Mod) (i : Nat) : Mod :=
  let m := m.takeDue (fun d k => decide (d.eff = .homing) && decide (k = i))
  let m := m.loseRef i 6
  let al := decide (m.p P.encType i = 1) && !(m.axis i).align
  m.onAx i (fun a => { a with
    ramp := none,
    home := some (HomeRun.mk (m.pn P.homeMethod i) (if al then .align else .search) false m.raw
      (if al then some (m.raw + 100 * MS) else none) 0 (m.homeDirOf i) none (m.pEnc i) none 0
      (decide (m.md = .starting))) })

/-- The operation that homes an axis, and the axis it homes next. -/
def Mod.homeOp (m : Mod) (i : Nat) : Option LongOp :=
  m.host.ops.find? (fun o => match o.kind with
    | .home inst portal => (m.homeAxes inst portal).contains i
    | _ => false)

/-- The axis after `i` in a list. -/
def after (i : Nat) : List Nat → Option Nat
  | [] => none
  | a :: r => if a = i then r.head? else after i r

/-- A sequence ends: its axis is referenced by a success (R231); the next axis of the portal begins, or the operation
completes (R229, R230). -/
def Mod.homeEnd (m : Mod) (i : Nat) (fail : Option Nat) : Mod :=
  let op := m.homeOp i
  let um := ((m.axis i).home.map (fun h => h.refUm)).getD 0
  let m := m.onAx i (fun a => { a with home := none })
  let m := match fail with
    | some c =>
      let m := m.raise 0x1031 i [0, c]
      if m.moving i then m.onAx i (fun a => { a with arr := .stop .self :: a.arr }) else m
    | none => m.onAx i (fun a => { a with referenced := true })
  match op with
  | none => m
  | some o =>
    match o.kind, fail with
    | .home _ _, some c =>
      (m.dropOps (· == o)).completeTo o.hdr { status := 0x4201, detail := c, res := res2 i 0 }
    | .home inst true, none =>
      (match after i (m.homeOrder inst) with
        | some k => m.homeBegin k
        | none => (m.dropOps (· == o)).completeTo o.hdr
            { status := 0, res := res2 0 ((m.homeOrder inst).foldl (fun w k => w + 2 ^ k) 0 : Nat) })
    | .home _ false, none => (m.dropOps (· == o)).completeTo o.hdr { status := 0, res := res2 um 0 }
    | _, _ => m

def Mod.onHome (m : Mod) (i : Nat) (f : HomeRun → HomeRun) : Mod :=
  m.onAx i (fun a => { a with home := a.home.map f })

/-- Issue a homing move over a distance in microsteps; a running one is redirected. -/
def Mod.homeMove (m : Mod) (i : Nat) (target : Int) (creep : Bool) : Mod :=
  let v := if creep then m.pn P.homeCreepSpeed i else m.pn P.homeSpeed i
  let l : Lim := ⟨v, m.pn P.homeAccel i, m.pn P.homeAccel i, 0⟩
  (m.takeMove i ⟨target, m.qLim i l, .self, 0, none, true⟩ none).onHome i (fun h => { h with go := true })

def Mod.homeFar (m : Mod) (i : Nat) : Int := toSteps (m.scale i) (m.p P.homeMaxTravel i)

/-- The search moved HOME_MAX_TRAVEL without its reference. -/
def Mod.homeLost (m : Mod) (i : Nat) (h : HomeRun) : Bool := h.go && !m.moving i

/-- A fault ends the attempt (R229, cause 3). -/
def Mod.homeFaulty (m : Mod) (i : Nat) : Bool :=
  let a := m.axis i
  a.fault.isSome || !a.torque || (match a.mv with
    | some mv => (match mv.stop with
      | some (.fault _) => true
      | _ => false)
    | none => false)

/-- The pair that confirms methods 4 and 5. -/
def Mod.homePair (m : Mod) (i : Nat) (method : Nat) : Bool :=
  match m.roleOf i with
  | some (p, _) => if method = 4 then m.stepSw false p else m.lockSw false p
  | none => false

/-- Fix the reference and back off (R228); methods 4 to 6 have no back-off and are done. -/
def Mod.homeTake (m : Mod) (i : Nat) (h : HomeRun) (ref : Int) : Mod :=
  let m := m.homeFix i h.method ref
  if h.method ≤ 3 then m.onHome i (fun h => { h with ph := .backoff, go := false }) else m.homeEnd i none

/-- One axis's homing sequence at a tick. (Assumption 65 DEDUCED) -/
def Mod.homeTick (m : Mod) (i : Nat) : Mod :=
  match (m.axis i).home with
  | none => m
  | some h =>
    let far := m.homeFar i
    let pe := m.pEnc i
    let pc := (m.axis i).pcmd
    let sw := m.diActive (m.pn P.homeSwitchInput i)
    if decide (h.ph ≠ .align) && decide (h.method ≠ 6) && m.homeFaulty i then m.homeEnd i (some 3)
    else if h.atStart && !m.homeFits i h.method then m.homeEnd i (some 2)
    else
      let m := m.onHome i (fun h => { h with prevEnc := pe })
      match h.ph with
      | .align => if m.homeFaulty i then m.homeEnd i (some 3) else m
      | .search =>
        if h.method = 6 then m.homeTake i h pe
        else if h.method = 2 ∨ h.method = 3 then
          (if !h.go then
            (if sw then m.onHome i (fun h => { h with ph := .away })
             else m.homeMove i (pc + h.dir * far) false)
           else if sw then (m.takeStop i .self).onHome i (fun h => { h with ph := .stopSwitch })
           else if m.homeLost i h then m.homeEnd i (some 1) else m)
        else if !h.go then m.homeMove i (pc + h.dir * far) false
        else
          let err := toSteps (m.scale i) (m.p P.homeStopError i)
          let n := if err ≤ ((pc - pe).natAbs : Int) then h.stopTicks + 1 else 0
          let m := m.onHome i (fun h => { h with stopTicks := n })
          if m.homeLost i h && decide (n < m.pn P.homeStopTime i) then m.homeEnd i (some 1) else m
      | .stopSwitch => if m.moving i then m else m.onHome i (fun h => { h with ph := .away, go := false })
      | .away =>
        if !h.go then m.homeMove i (pc - h.dir * far) false
        else if !sw then
          (m.homeMove i (pe - h.dir * toSteps (m.scale i) (m.p P.homeBackoff i)) false).onHome i
            (fun h => { h with ph := .awayMore })
        else if m.homeLost i h then m.homeEnd i (some 1) else m
      | .awayMore => if m.moving i then m else m.onHome i (fun h => { h with ph := .creep, go := false, stamp := none })
      | .creep =>
        if !h.go then m.homeMove i (pc + h.dir * far) true
        else (match h.stamp with
          | some t =>
            let t0 : Int := (m.raw : Int) - 20000
            let ref := h.prevEnc + roundDiv ((pe - h.prevEnc) * (t - t0)) 20000
            if h.method = 3 then m.onHome i (fun h => { h with ph := .creepIndex }) else m.homeTake i h ref
          | none => if m.homeLost i h then m.homeEnd i (some 1) else m)
      | .creepIndex => if m.homeLost i h then m.homeEnd i (some 1) else m
      | .confirm => if m.homePair i h.method then m.homeTake i h (h.ref.getD pe) else m
      | .backoff =>
        if !h.go then
          let r := h.ref.getD pe
          m.homeMove i (r - h.dir * toSteps (m.scale i) (m.p P.homeBackoff i)) false
        else if m.moving i then m else m.homeEnd i none

/-- The end-stop criterion replaces stall detection in these phases (R225). -/
def Axis.endStopPhase (a : Axis) : Bool :=
  match a.home with
  | some h => decide (h.ph = .search) && h.go && (decide (h.method = 1) || decide (h.method = 4) || decide (h.method = 5))
  | none => false

/-- A filter decision of the homing switch (R228): the second activation is stamped. -/
def Mod.homeSwitch (m : Mod) (di : Nat) (on : Bool) (stamp : Nat) : Mod :=
  m.axes.foldl (fun m i =>
    match (m.axis i).home with
    | some h =>
      if on && decide (h.ph = .creep) && h.go && h.stamp.isNone && decide (m.pn P.homeSwitchInput i = di) then
        m.onHome i (fun h => { h with stamp := some stamp })
      else m
    | none => m) m

/-- End the homing of axes without an answer: cancel, reset (R142, R113). -/
def Mod.homeDrop (m : Mod) (l : List Nat) : Mod :=
  l.foldl (fun m i =>
    if (m.axis i).home.isSome then
      let m := m.onAx i (fun a => { a with home := none, referenced := false })
      if m.moving i then m.onAx i (fun a => { a with arr := .stop .self :: a.arr }) else m
    else m) m

end Sys2Proof.Machine
end

