-- ==== Sys2Proof/Machine/ObstOps.lean ====
section
/-! DEFINITION. Operations of obstacle detection and the tonguing probe (08_obstacle_detection.md): force
estimate, bins, detections and the module's own reaction, sensitive edges, the probe's zone and dwell. -/
namespace Sys2Proof.Machine

/-! ### Force estimate and profile (R265 to R269) -/

/-- The force estimate of a tick is valid (R267). -/
def Mod.forceValid (m : Mod) (i : Nat) : Bool :=
  let a := m.axis i
  a.torque && !a.encBad && !m.openLoop i

/-- Commanded acceleration in um/s^2. -/
def Mod.cmdAcc (m : Mod) (i : Nat) : Int :=
  match (m.axis i).mv with
  | some mv => if mv.ended m.raw then 0 else roundDiv ((mv.kin m.raw).a * m.scale i) 4398046511104
  | none => 0

/-- d * (K * I_Q - MOVING_MASS * a_CMD) in 0.1 N (R266). (Assumption 9 DEDUCED) -/
def Mod.force (m : Mod) (i : Nat) (iq : Int) : Int :=
  let (n, d) := m.kForce i
  (m.obst i).dir * roundDiv ((iq * n * 1000 - m.p P.movingMass i * m.cmdAcc i * d) * 10) (1000000 * d : Nat)

/-- Bin of a position in um (R268). -/
def Mod.binOf (m : Mod) (i : Nat) (x : Int) : Nat :=
  match m.roleOf i with
  | some (p, r) => (match m.posUm p r 0, m.posUm p r 1 with
    | some a, some b => if a = b then 0 else (clampI 0 4095 ((x - a) * 4096 * sgn (b - a) / (b - a).natAbs)).toNat
    | _, _ => 0)
  | none => 0

def Mod.binNow (m : Mod) (i : Nat) : Nat := m.binOf i (m.hostPos i (m.pEnc i))

/-- CLOSE_MEAN, CLOSE_SPREAD, OPEN_MEAN, OPEN_SPREAD of a bin in 0.1 N; zeros while the profile is being
reloaded (R274). -/
def Prof.bin (f : Prof) (b : Nat) : List Int :=
  match f.bins.find? (fun x => x.1 == b) with
  | some x => x.2
  | none => [0, 0, 0, 0]

def Mod.binVals (m : Mod) (i b : Nat) : List Int :=
  if (m.obst i).loading then [0, 0, 0, 0] else (m.obst i).prof.bin b

/-- Theta of R276 in 0.1 N. -/
def Mod.theta (m : Mod) (p : Nat) (v : List Int) : Int :=
  min (10 * m.p P.forceDevMin p + m.p P.spreadGain p * v.getD 1 0) (10 * m.p P.closeForceLimit p - v.getD 0 0)

/-- The opening threshold of R287 in 0.1 N. -/
def Mod.thetaOpen (m : Mod) (p : Nat) (pocket : Bool) (v : List Int) : Int :=
  10 * (if pocket then m.p P.pocketDev p else m.p P.openForceDev p) + m.p P.spreadGain p * v.getD 3 0

/-- Within POCKET_ZONE of POS1. -/
def Mod.inPocket (m : Mod) (i : Nat) : Bool :=
  match m.roleOf i with
  | some (p, r) => (match m.posUm p r 1 with
    | some b => decide (((m.hostPos i (m.pEnc i) - b).natAbs : Int) ≤ m.p P.pocketZone p)
    | none => false)
  | none => false

/-- A plan runs, and ARM_DELAY has passed since it started; a change or a stop of it moves no start (R273, R275). -/
def Mod.armed (m : Mod) (i : Nat) : Bool :=
  match m.roleOf i with
  | some (p, _) =>
    (m.axis i).mv.isSome && decide ((m.obst i).planAt + m.pn P.armDelay p * MS * 65536 ≤ m.raw * 65536)
  | none => false

/-! ### Supervision (R275) -/

/-- The leaf is supervised: CLOSING, OPENING or REVERSING in a mode with torque, or a learn run. -/
def Mod.supervised (m : Mod) (i : Nat) : Bool :=
  match m.roleOf i with
  | some (p, r) =>
    let st := (m.portal p).state
    decide (r < 2) && m.md.torque
      && (decide (st = 3) || decide (st = 5) || decide (st = 6)
        || m.ob.learn.any (fun l => l.p == p))
  | none => false

def Mod.learning (m : Mod) (p : Nat) : Bool := m.ob.learn.any (fun l => l.p == p)

/-! ### Detection and reaction (R281 to R287) -/

/-- The commanded speed of a leaf in um/s. -/
def Mod.cmdSpeed (m : Mod) (i : Nat) : Nat :=
  match (m.axis i).mv with
  | some mv => ofQ (m.scale i) (mv.kin m.raw).v.natAbs
  | none => 0

/-- A reaction waits for the next tick. -/
def Arr.reacts : Arr → Bool
  | .react _ => true
  | _ => false

/-- The reaction of R283 to a running move, decided once: DECEL of at least v / 19.5 ms, never above DECEL_SAFE_MAX.
 (Assumption 80 DEDUCED) -/
def Mod.reactDecel (m : Mod) (i : Nat) : Mod :=
  if (m.axis i).mv.isNone || (m.axis i).arr.any Arr.reacts then m
  else
    let v := m.cmdSpeed i
    let need := (v * 10000 + 194) / 195
    let safe := m.pn P.decelSafeMax i
    let d := min need safe
    let m := m.onAx i (fun a => { a with arr := a.arr ++ [.react (toQ (m.scale i) d)] })
    if safe < need then m.raise 0x3006 i [((v * 1000000 / max 1 safe : Nat) : Int)] else m

/-- The AMP cap of a closing-direction detection, until the leaf's stop ends (R284). -/
def Mod.capAmp (m : Mod) (i : Nat) (fTrig : Int) : Mod :=
  let c := m.ampOfForce i fTrig.toNat
  m.onOb i (fun o => { o with cap := some (min c (o.cap.getD 4095)) })

/-- A detection of a leaf (R281 to R287): `bit` of R275, whether it is in the closing direction, and the
force in 0.1 N at which AMP is capped. (Assumption 80 DEDUCED) -/
def Mod.detect (m : Mod) (i bit : Nat) (closing : Bool) (fTrig : Int) : Mod :=
  match m.roleOf i with
  | none => m
  | some (p, r) =>
    let a := m.axis i
    let during := a.coast || a.fstop.isSome || (a.mv.map (fun x => x.stop)).join.isSome
    let m := m.raise 0x3001 i [bit, m.binNow i, (m.obst i).fEst.getD 0, b2n during]
    let m := m.onCyc p (fun c => { c with
      obstacle := c.obstacle ||| 2 ^ bit ||| 2 ^ (8 + r), learnFail := c.learnFail ++ [3] })
    let m := if m.learning p then
        { m with ob := { m.ob with learn := m.ob.learn.map (fun l => if l.p = p then { l with failed := some (l.failed.getD bit) } else l) } }
      else m
    if during then (if closing && m.moving i then m.capAmp i fTrig else m)
    else
      let react := if closing && decide (bit ≠ 7) && decide (m.p P.obstacleReaction p = 1) then 1 else 0
      let m := m.onPo p (fun q => { q with
        obstacle := q.obstacle ||| 2 ^ bit ||| 2 ^ (8 + r), obstReact := react,
        fresh := if q.fresh.contains r then q.fresh else q.fresh ++ [r] })
      let m := m.reactDecel i
      if m.moving i then
        (if closing then m.capAmp i fTrig
         else if bit = 7 then m else m.onOb i (fun o => { o with relief := true }))
      else m

/-- CLOSE_FORCE_LIMIT of an axis's portal in 0.1 N. -/
def Mod.forceLimit (m : Mod) (i : Nat) : Int := 10 * m.p P.closeForceLimit (i / 4)

/-- The step is blocked (R254, R288). (Assumption 78 DEDUCED) -/
def Mod.stepBlock (m : Mod) (i : Nat) : Mod :=
  let p := i / 4
  let m := m.reactDecel i
  let m := m.onAx i (fun a => { a with arr := a.arr ++ [.stop .self] })
  let m := m.onPo p (fun q => { q with stepBlocked := true, stepWatch := none })
  let m := m.onCyc p (fun c => { c with learnFail := c.learnFail ++ [3] })
  m.raise 0x3005 i [m.hostPos i (m.pEnc i), (m.obst i).fEst.getD 0]

/-! ### Sensitive edges (R278 to R280) -/

def Mod.edge (m : Mod) (e : Nat) : Edge := m.ob.edges.getD e Edge.reset
def Mod.onEdge (m : Mod) (e : Nat) (f : Edge → Edge) : Mod :=
  { m with ob := { m.ob with edges := upd m.ob.edges e f } }

/-- The leaf axis of an edge. -/
def Mod.edgeLeaf (m : Mod) (e : Nat) : Option Nat :=
  let i := m.pn P.edgeAxis e
  if m.p P.edgeType e ≠ 0 ∧ m.isLeaf i then some i else none

/-- An edge in fault, or on a die whose upstream link is stale (R280, R372). -/
def Mod.edgeBad (m : Mod) (e : Nat) : Bool := (m.edge e).fault.isSome || (m.io.die.getD (e / 4) Die.reset).stale

/-- The source bit an edge declares now in the closing direction: EDGE, or EDGE_FAULT (R279, R280). -/
def Mod.edgeBit (m : Mod) (e : Nat) : Option Nat :=
  if (m.edgeLeaf e).isNone || (m.edge e).test.isSome then none
  else if m.edgeBad e then (if m.p P.edgeFaultAsPressed e = 1 then some 4 else none)
  else if (m.edge e).pressed then some 2 else none

def Mod.edgeDeclare (m : Mod) (e : Nat) : Mod :=
  match m.edgeLeaf e, m.edgeBit e with
  | some i, some b => m.detect i b true (m.forceLimit i)
  | _, _ => m

/-- Every edge of a leaf that reads pressed or faulty declares. -/
def Mod.edgesDeclare (m : Mod) (i : Nat) : Mod :=
  (upto 8).foldl (fun m e => if m.edgeLeaf e = some i then m.edgeDeclare e else m) m

/-- Every cause of an edge fault that stands. -/
def Edge.causes (x : Edge) : List Nat := x.fault.toList ++ x.more

/-- EDGE_FAULT (R280): the fault stands; a tick boundary declares it. -/
def Mod.edgeFail (m : Mod) (e cause : Nat) : Mod :=
  let x := m.edge e
  if x.causes.contains cause then m
  else (m.onEdge e (fun x => { x with
    fault := some (x.fault.getD cause), more := if x.fault.isSome then x.more ++ [cause] else x.more,
    clearAt := none, passed := false, newPress := true })).raise 0x3003 e [cause]

/-- The module sources the measuring current and the test pulses of its edge pins: in a twin pair the EDGE pins are
Y-connected, and a SHADOW senses only (R76). -/
def Mod.edgeDrives (m : Mod) : Bool := decide (m.md ≠ .shadow)

/-- A pressure-wave test begins on a resting leaf (R280). -/
def Mod.edgeTests (m : Mod) (p : Nat) : Mod :=
  (upto 8).foldl (fun m e => match m.edgeLeaf e with
    | some i => if m.edgeDrives && decide (i / 4 = p) && decide (m.p P.edgeType e = 2) && !m.moving i then
        (m.takeDue (fun d k => decide (d.eff = .pwTest) && decide (k = e))).onEdge e (fun x => { x with
          test := some m.raw, testPress := none, testFree := none })
      else m
    | none => m) m

/-- Entry to CLOSING or OPEN: pressed edges declare at CLOSING, and the tests begin. -/
def Mod.edgeEntry (m : Mod) (p st : Nat) : Mod :=
  let m := if st = 5 then (m.leaves p).foldl Mod.edgesDeclare m else m
  if st = 4 ∨ st = 5 then m.edgeTests p else m

/-! ### One tick of a leaf or step (R275 to R277, R287, R288) -/

/-- A count continues, restarts, or stays past its declaration. -/
def cnt (c : Nat) (on : Bool) : Nat := if on then c + 1 else 0

/-- A count that has been declared. -/
def declared : Nat := 1000000

/-- Error growth G in um over a window of ticks (R277). -/
def growth (o : Obst) (w : Nat) : Int :=
  if w < o.errs.length then o.dir * (o.errs.getD 0 0 - o.errs.getD w 0) else 0

/-- F_EST and the counts of one leaf or step axis at a tick. -/
def Mod.obstTick (m : Mod) (i : Nat) : Mod :=
  let a := m.axis i
  let o := m.obst i
  let d := if a.pcmd = a.pcmdPrev then o.dir else sgn (wrap32 (a.pcmd - a.pcmdPrev))
  let iq := if a.iqN = 0 then a.iq else roundDiv a.iqSum (a.iqN * 1073741824 : Nat)
  let m := m.onAx i (fun a => { a with iq := iq, iqSum := 0, iqN := 0 })
  let m := m.onOb i (fun o => { o with dir := d, acc := m.cmdAcc i })
  let ok := m.forceValid i
  let f := m.force i iq
  let run := a.mv.isSome
  let e := m.um i (m.err i)
  let m := m.onOb i (fun o => { o with
    fEst := if ok then some f else none, errs := (e :: o.errs).take 51 })
  match m.roleOf i with
  | none => m
  | some (p, r) =>
    let o := m.obst i
    let w := m.pn P.errGrowthWindow p
    let armed := m.armed i
    if r = 2 then
      let ok := ok && m.md.torque && !([8, 9, 10].contains (m.portal p).state)
      m.onOb i (fun x => { x with
        forceCnt := cnt x.forceCnt (ok && run && armed && decide (10 * m.p P.stepForceLimit p < f)),
        growCnt := cnt x.growCnt (ok && run && armed && decide (m.p P.stepErrLimit p < growth o w)) })
    else if m.supervised i then
      let v := m.binVals i (m.binNow i)
      let cl := m.closingDir i
      let op := m.toward1 i
      m.onOb i (fun x => { x with
        forceCnt := cnt x.forceCnt (ok && run && armed && cl && !m.learning p && decide (m.theta p v < f - v.getD 0 0)),
        absCnt := cnt x.absCnt (ok && run && cl && decide (10 * m.p P.closeForceLimit p < f)),
        openCnt := cnt x.openCnt (ok && armed && op && !m.learning p && decide (m.thetaOpen p (m.inPocket i) v < f - v.getD 2 0)),
        growCnt := cnt x.growCnt (ok && run && armed && decide (m.p P.errGrowthLimit p < growth o w)) })
    else m.onOb i (fun x => { x with forceCnt := 0, absCnt := 0, openCnt := 0, growCnt := 0 })

/-- The edges that declare at a tick boundary: a filtered press, or a fault just declared, in the closing direction; and
each start of a closing move (R279, R280). -/
def Mod.edgesDue (m : Mod) (started : Nat → Bool) : List Nat :=
  (upto 8).filter (fun e => match m.edgeLeaf e with
    | some i => ((m.edge e).newPress || started i) && m.supervised i && m.closingDir i
    | none => false)

/-- They declare after the tables of the tick have been scanned, so that the next tick publishes it (R281). -/
def Mod.edgeTick (m : Mod) (p : Nat) (l : List Nat) : Mod :=
  let m := (upto 8).foldl (fun m e => if (m.edgeLeaf e).any (fun i => decide (i / 4 = p)) then m.onEdge e (fun x => { x with newPress := false }) else m) m
  l.foldl Mod.edgeDeclare m

/-! ### The probe (R290 to R293) -/

/-- P_CMD lies within FINAL_ZONE of POS0. -/
def Mod.inFinal (m : Mod) (i : Nat) : Bool :=
  match m.roleOf i with
  | some (p, r) => (match m.posUm p r 0 with
    | some x => decide (((m.hostPos i (m.axis i).pcmd - x).natAbs : Int) ≤ m.p P.finalZone p)
    | none => false)
  | none => false

/-- The plan has ended at POS0. -/
def Mod.atPos0 (m : Mod) (i : Nat) : Bool :=
  match m.roleOf i with
  | some (p, r) => (match m.posUm p r 0 with
    | some x => !m.moving i && decide ((m.axis i).pcmd = m.stepPos i x)
    | none => false)
  | none => false

/-- The probe of one leaf at a tick: the zone begins, the dwell begins at the plan's end. -/
def Mod.probeTick (m : Mod) (i : Nat) : Mod :=
  let p := i / 4
  let on := decide (m.p P.probeEnable p = 1) || m.learning p
  match (m.obst i).probe with
  | .idle =>
    if m.supervised i && m.toward0 i && m.inFinal i then
      (if on then m.onOb i (fun o => { o with probe := .zone, ditherAt := some m.raw })
       else m.onOb i (fun o => { o with probe := .zone, ditherAt := none }))
    else m
  | .zone =>
    if m.atPos0 i then
      (if on then
        let t := (m.axis i).restAt.getD m.raw + m.pn P.probeDwell p * MS
        m.onOb i (fun o => { o with probe := .dwell t })
       else m.onOb i (fun o => { o with probe := .clear }))
    else m
  | _ => m

/-- PROBE of a portal from its leaves (R293). -/
def Mod.probeCombine (m : Mod) (p : Nat) : Mod :=
  let ls := (m.leaves p).map (fun i => (m.obst i).probe)
  let v : Nat :=
    if ls.contains .trapped then 3
    else if !ls.isEmpty && ls.all (fun x => decide (x = .clear)) then 2
    else if decide (m.p P.probeEnable p = 1) && ls.any (fun x => match x with
      | .zone => true
      | .dwell _ => true
      | _ => false) then 1
    else 0
  m.onPo p (fun q => { q with probe := v })

end Sys2Proof.Machine
end

