-- ==== Sys2Proof/Machine/TxnOps.lean ====
section
/-! DEFINITION. Transaction contexts and the local commit (13_transactions.md), as the sequence tables need
them; the rows stand in Txn.lean. -/
namespace Sys2Proof.Machine

def Mod.ctx (m : Mod) (c : Nat) : Ctx := m.txn.ctx.getD c Ctx.reset
def Mod.onTxn (m : Mod) (f : TxnSt → TxnSt) : Mod := { m with txn := f m.txn }
def Mod.onCtx (m : Mod) (c : Nat) (f : Ctx → Ctx) : Mod := m.onTxn (fun t => { t with ctx := upd t.ctx c f })

/-- The first R_RAW whose fabric time is at or after an instant. -/
def rawAt (t : TimeSt) (T : Int) : Nat :=
  let d := 5 * (4294967296 + t.rate)
  (((T - t.offset) * 4294967296 + d - 1) / d).toNat

/-- Whole microsecond at or after an instant in ns. -/
def ceilUs (t : Int) : Int := (t + 999) / 1000 * 1000

/-- The last sample instant of R359 before an instant of fabric time. -/
def Mod.sampleBefore (m : Mod) (c : Int) : Int :=
  let r := rawAt m.time c
  let s := (r - m.io.phase) / 50000 * 50000 + m.io.phase
  let f := fabAt m.time s
  if f < c then f else fabAt m.time (s - 50000)

/-- C lies in an interval (s, s + 110 us) of R463. -/
def Mod.inSample (m : Mod) (c : Int) : Bool := decide (c < m.sampleBefore c + 110000)

/-- C moved forward to the next instant outside every such interval. -/
def Mod.afterSample (m : Mod) (c : Int) : Int := if m.inSample c then m.sampleBefore c + 110000 else c

def Action.isGrant : Action → Bool
  | .sideRelease _ g => g
  | _ => false

def SECns : Int := 1000000000

/-- Commit a local bundle (R462, R463): a refusal's status, or the context in PENDING with its C. `table` is
the portal whose table asked. -/
def Mod.commitLocal (m : Mod) (c : Nat) (at? : Option Int) (table : Option Nat) : Mod × Option Nat :=
  let x := m.ctx c
  if x.st ≠ 1 then (m, some 0x2903)
  else if !x.fab.isEmpty then (m, some 0x1903)
  else if x.acts.isEmpty then (m, some 0x1904)
  else
    let grant := x.acts.any Action.isGrant
    let bad (t : Int) : Bool :=
      decide (t < m.now + 100000) || decide (m.now + m.p P.txnMaxLead 0 * SECns < t) || (grant && m.inSample t)
    let go (t : Int) : Mod × Option Nat :=
      let n := m.txn.order + 1
      ((m.onTxn (fun t => { t with order := n })).onCtx c (fun y => { y with
        st := 2, c := t, order := n, table := table, out := none, final := false, coord := false, key := none,
        decision := none, lateAt := none, skips := [] }), none)
    match at? with
    | some t => if bad t then (m, some 0x1902) else go t
    | none =>
      let t := ceilUs (m.now + 100000)
      go (if grant then m.afterSample t else t)

/-- A context counts as open for R82 and TRANSACTION_OPEN (R458). -/
def Ctx.isOpen (c : Ctx) : Bool := (decide (2 ≤ c.st) && decide (c.st ≤ 6)) || (decide (c.st = 1) && !c.reusable)

def Mod.txnOpen (m : Mod) : Bool := m.txn.ctx.any Ctx.isOpen

end Sys2Proof.Machine
end

