-- ==== Sys2Proof/Machine/Cycle.lean ====
section
/-! DEFINITION. Portal cycles: what a cycle collects, the learning at its end (R272, R273) and its record
(R521 to R524, 15_recorder.md). -/
namespace Sys2Proof.Machine

/-- A peak that no tick has set. -/
def noPeak : Int := -100000

def RoleAcc.zero : RoleAcc := ⟨0, 0, noPeak, noPeak, 0, 0, 0, 0, 0⟩

/-- Trusted under R447. -/
def Mod.trusted (m : Mod) : Bool := m.time.trusted

/-- A cycle begins when the portal leaves LOCKED (R243). (Assumption 76 DEDUCED) -/
def Mod.cycBegin (m : Mod) (p : Nat) : Mod :=
  let sd := m.side.get (m.sideOf p)
  let rel := sd.released
  m.onPo p (fun q => { q with cyc := some {
    start := m.now
    startRaw := m.raw
    modeStart := m.md.num
    flags := b2n m.sup.limitActive * 2 + b2n (decide (m.sup.st ≠ .normal)) * 4 + b2n (!m.trusted) * 32
    obstacle := 0
    probe := 0
    probeRatio := 0
    onsetShift := 0
    lockAt := none
    lockConfirm := none
    stepAt := none
    stepConfirm := none
    warnAt := none
    warning := none
    opens := 0
    relCoord := if rel then sd.coord else 0xFFFF
    relSerial := if rel then sd.serial else 0
    relLate := if rel then sd.late else 0
    firstFault := 0
    busMin := m.sup.vbus
    tempMax := m.sup.tbp
    reversals := 0
    roles := List.replicate 4 RoleAcc.zero
    learnFail := if m.sup.limitActive then [6] else []
    bins := [] } })

/-- Add a sample to its bin (R273). -/
def addBin (l : List (Nat × Bool × Nat × Int × Nat)) (r : Nat) (cl : Bool) (b : Nat) (f : Int) :
    List (Nat × Bool × Nat × Int × Nat) :=
  match l with
  | [] => [(r, cl, b, f, 1)]
  | (r', cl', b', s, n) :: rest =>
    if r' = r ∧ cl' = cl ∧ b' = b then (r', cl', b', s + f, n + 1) :: rest
    else (r', cl', b', s, n) :: addBin rest r cl b f

/-- The leaf's tick is a sample of R273: a move from rest, past ARM_DELAY, outside a stop. (Assumption 77 DEDUCED) -/
def Mod.sampling (m : Mod) (i : Nat) : Bool :=
  match (m.axis i).mv with
  | some mv => mv.fresh && mv.stop.isNone && m.armed i && m.forceValid i
  | none => false

/-- One role of a cycle at a tick (R523). (Assumption 77 DEDUCED) -/
def Mod.roleTick (m : Mod) (p r : Nat) (c : CycAcc) : CycAcc :=
  match m.roleAxis p r with
  | none => c
  | some i =>
    let a := m.axis i
    let cl := m.toward0 i
    let op := m.toward1 i
    let f := (m.obst i).fEst
    let leaf := decide (r < 2)
    let b := m.binNow i
    let err := (m.um i (m.err i)).natAbs
    let rms := max (isqrt (a.A.rms2 / 65536)) (isqrt (a.B.rms2 / 65536))
    let c := { c with roles := upd c.roles r (fun x =>
      let hiC := match f with
        | some f => leaf && cl && decide (x.peakFClose < f)
        | none => false
      let hiO := match f with
        | some f => leaf && op && decide (x.peakFOpen < f)
        | none => false
      { x with
        closeTicks := x.closeTicks + b2n cl, openTicks := x.openTicks + b2n op,
        peakFClose := if hiC then f.getD 0 else x.peakFClose, peakBin := if hiC then b else x.peakBin,
        peakFOpen := if hiO then f.getD 0 else x.peakFOpen,
        peakErr := max x.peakErr err, peakRms := max x.peakRms rms,
        flags := x.flags ||| (16 * b2n a.derated) }) }
    match f with
    | some f =>
      if leaf && (cl || op) && m.sampling i && !m.learning p then { c with bins := addBin c.bins r cl b f } else c
    | none => c

/-- A condition of R272 that has failed. (Assumption 78 DEDUCED) -/
def CycAcc.fail (c : CycAcc) (n : Nat) (on : Bool) : CycAcc :=
  if on && !c.learnFail.contains n then { c with learnFail := c.learnFail ++ [n] } else c

/-- Start of a lock or step move toward POS0, and the time from it to its switch (R522). -/
def confirmAt (start : Option Nat) (at? conf : Option Nat) (sw : Bool) (raw : Nat) : Option Nat × Option Nat :=
  let (a, c) := match start with
    | some t => if at? = some t then (at?, conf) else (some t, none)
    | none => (at?, conf)
  match a, c with
  | some t, none => (a, if sw then some ((raw - t) / MS) else none)
  | _, _ => (a, c)

def Mod.closingStart (m : Mod) (p r : Nat) : Option Nat :=
  match m.roleAxis p r with
  | some i => if m.toward0 i then ((m.axis i).mv.map (fun x => x.start / 65536)) else none
  | none => none

/-- An open cycle at a tick. -/
def Mod.cycTick (m : Mod) (p : Nat) : Mod :=
  match (m.portal p).cyc with
  | none => m
  | some c =>
    let c := (upto 4).foldl (fun c r => m.roleTick p r c) c
    let (la, lc) := confirmAt (m.closingStart p 3) c.lockAt c.lockConfirm (m.lockSw false p) m.raw
    let (sa, sc) := confirmAt (m.closingStart p 2) c.stepAt c.stepConfirm (m.stepSw false p) m.raw
    let warn := match c.warnAt, c.warning with
      | some t, none => if (m.leaves p).any m.toward0 then some ((m.raw - t) / MS) else none
      | _, w => w
    let sag := decide (m.sup.st ≠ .normal)
    let c := { c with
      lockAt := la, lockConfirm := lc, stepAt := sa, stepConfirm := sc, warning := warn,
      flags := c.flags ||| (4 * b2n sag) ||| (64 * b2n (decide (m.md = Mode.degraded))) ||| (512 * b2n (decide (850 < m.sup.tbp))),
      busMin := min c.busMin m.sup.vbus, tempMax := max c.tempMax m.sup.tbp,
      probe := if (m.portal p).probe ≥ 2 then (m.portal p).probe else c.probe }
    let c := (((c.fail 2 (decide (m.md ≠ Mode.activeClosed) && decide (m.md ≠ Mode.activeReleased))).fail 4
      (decide ((m.portal p).probe = 3))).fail 7 sag).fail 10 (decide (1250 < m.sup.tbp))
    m.onPo p (fun q => { q with cyc := some c })

/-! ### Learning (R273) -/

/-- The limit of a change: 5 % of the old value, a value below 10.0 N counting as 10.0 N. (Assumption 77 DEDUCED) -/
def limit5 (old : Int) : Int := max 100 old * 5 / 100

/-- One field's change: limited, with whether the limit clipped it. -/
def stepField (old chg lim : Int) : Int × Bool := (old + clampI (-lim) lim chg, decide (lim < chg.natAbs))

/-- The new mean and spread of a sample of `n` ticks with sum `sum`. -/
def learnBin (mean spread sum : Int) (n sh : Nat) (ceil : Option Int) : Int × Int × Bool × Bool :=
  let dm := roundDiv (sum - mean * n) ((n * 2 ^ sh : Nat) : Int)
  let ds := roundDiv (((sum - mean * n).natAbs : Int) - spread * n) ((n * 2 ^ sh : Nat) : Int)
  let (m1, c1) := stepField mean dm (limit5 mean)
  let (s1, c2) := stepField spread ds (limit5 spread)
  let (m2, near) := match ceil with
    | some c => if mean < m1 ∧ c < m1 then (max mean c, true) else (m1, false)
    | none => (m1, false)
  (m2, max 10 s1, c1 || c2, near)

def putBin (l : List (Nat × List Int)) (b : Nat) (v : List Int) : List (Nat × List Int) :=
  match l with
  | [] => [(b, v)]
  | (k, w) :: r => if b < k then (b, v) :: (k, w) :: r else if b = k then (b, v) :: r else (k, w) :: putBin r b v

/-- What one cycle has changed in a profile: the profile, bins changed, clipped, and the first near limit. -/
structure Learned where
  prof : Prof
  changed : Nat
  clipped : Nat
  near : Option (Nat × Int)
  deriving DecidableEq, Repr

def learnOne (sh : Nat) (ceil : Int) (x : Learned) (smp : Bool × Nat × Int × Nat) : Learned :=
  let (cl, b, sum, n) := smp
  let v := x.prof.bin b
  if cl then
    let (mn, sp, c, near) := learnBin (v.getD 0 0) (v.getD 1 0) sum n sh (some ceil)
    let w := [mn, sp, v.getD 2 0, v.getD 3 0]
    { x with
      prof := { x.prof with bins := putBin x.prof.bins b w }, changed := x.changed + b2n (decide (w ≠ v)),
      clipped := x.clipped + b2n c,
      near := (match x.near with | some y => some y | none => if near then some (b, mn) else none) }
  else
    let (mn, sp, c, _) := learnBin (v.getD 2 0) (v.getD 3 0) sum n sh none
    let w := [v.getD 0 0, v.getD 1 0, mn, sp]
    { x with
      prof := { x.prof with bins := putBin x.prof.bins b w }, changed := x.changed + b2n (decide (w ≠ v)),
      clipped := x.clipped + b2n c }

/-- A probe reference value moves by the same rule, within 5 % of itself. -/
def learnRef (old new : Int) (sh : Nat) : Int :=
  (stepField old (roundDiv (new - old) (2 ^ sh : Nat)) ((old.natAbs * 5 / 100 : Nat) : Int)).1

/-- A profile transfer to the twin: the probe reference, then each bin with its four values (R497). -/
def profBody (f : Prof) (bins : List (Nat × List Int)) : List Int :=
  [(f.compliance : Int), f.onset, (f.cycles : Int)] ++ (bins.map (fun x => (x.1 : Int) :: x.2)).flatten

/-- Apply a qualifying cycle to one leaf with a valid profile (R271, R273). -/
def Mod.learnLeaf (m : Mod) (p r i : Nat) (c : CycAcc) : Mod :=
  let o := m.obst i
  if o.prof.valid then
    let sh := m.pn P.learnShift p
    let ceil := 10 * (m.p P.closeForceLimit p - m.p P.forceDevMin p)
    let smps := (c.bins.filter (fun x => x.1 == r)).map (fun x => x.2)
    let x := smps.foldl (learnOne sh ceil) ⟨o.prof, 0, 0, none⟩
    let f := if o.probe = .clear ∧ m.p P.probeEnable p = 1 then { x.prof with
        compliance := (learnRef x.prof.compliance o.compliance sh).toNat,
        onset := learnRef x.prof.onset o.onset sh }
      else x.prof
    let f := { f with cycles := f.cycles + 1 }
    let m := m.onOb i (fun o => { o with prof := f, changed := true })
    let m := match x.near with
      | some (b, v) => m.raise 0x300B i [b, v]
      | none => m
    let m := m.raise 0x3009 i [x.changed, x.clipped]
    if m.twinConf then m.sendTwin 7 i (profBody f (f.bins.filter (fun b => !o.prof.bins.contains b))) else m
  else m

/-- What a qualifying cycle of a portal teaches its leaves. -/
def Mod.learnCycle (m : Mod) (x : Nat × CycAcc) : Mod :=
  (upto 2).foldl (fun m r => match m.roleAxis x.1 r with
    | some i => m.learnLeaf x.1 r i x.2
    | none => m) m

/-- Learning is work of class 3: it waits while that class is suspended (R29, R289). -/
def Mod.learnWaiting (m : Mod) : Mod :=
  if m.runs 3 then m.ob.waits.foldl Mod.learnCycle { m with ob := { m.ob with waits := [] } } else m

/-! ### The end of a cycle -/

/-- CHECK_VALUE in force (R522). -/
def Mod.checkInForce (m : Mod) : BitVec 64 :=
  match m.nv.confirmed with
  | some v => v
  | none => m.nv.computed.getD 0

def peakOr0 (x : Int) : Int := if x = noPeak then 0 else x

/-- A role block (R523); the energy is a free value. (Assumption 10 DESIGN CHOICE) -/
def Mod.roleBlk (m : Mod) (p r : Nat) (x : RoleAcc) (ctr : Nat) : RoleBlk :=
  match m.roleAxis p r with
  | none => ⟨0, 0, 0, 0, 0, 0, 0, 0, 0, 0, 0⟩
  | some i =>
    { endPos := m.hostPos i (m.pEnc i), closeMs := min 0xFFFF (x.closeTicks / 10), openMs := min 0xFFFF (x.openTicks / 10),
      peakFClose := if r < 2 then peakOr0 x.peakFClose else 0, peakFOpen := if r < 2 then peakOr0 x.peakFOpen else 0,
      peakErr := min 65535 x.peakErr, peakRms := x.peakRms, energy := min 65535 (Config.axisEnergy ctr / 100),
      moves := x.moves, flags := x.flags, peakBin := x.peakBin }

/-- Hand a record to the recorder, or to the twin while the recorder memory is faulty (R538, R540).
 (Assumption 76 DEDUCED) -/
def Mod.stageRec (m : Mod) (r : JRec) : Mod := m.onRec (fun x => x.put m.tw.pairFormed r)

/-- The record of a cycle that ends in a state; `extra` flags are those of R521 and R537. -/
def Mod.cycRecord (m : Mod) (p endState : Nat) (c : CycAcc) (flags : Nat) : JRec :=
  let q := m.portal p
  let b := (upto 4).map (fun r => m.roleBlk p r (c.roles.getD r RoleAcc.zero) (m.freeCtr + r))
  ⟨0, 1, p, flags, c.startRaw, .cycle {
    start := c.start
    stop := m.now
    modeStart := c.modeStart
    modeEnd := m.md.num
    endState := endState
    reversals := min 255 c.reversals
    obstacle := c.obstacle
    probe := c.probe
    probeRatio := c.probeRatio
    onsetShift := c.onsetShift
    lockConfirm := min 0xFFFF (c.lockConfirm.getD 0xFFFF)
    stepConfirm := min 0xFFFF (c.stepConfirm.getD 0xFFFF)
    warning := min 0xFFFF (c.warning.getD 0)
    opens := min 65535 c.opens
    relCoord := c.relCoord
    relSerial := c.relSerial
    roles := b
    relLate := c.relLate
    firstFault := c.firstFault
    busMin := c.busMin
    tempMax := c.tempMax
    cycles := m.recd.life.getD (lifePortal p 0) 0
    check := m.checkInForce
    user := q.user
    fw := m.fw.version }⟩

/-- Whole um travelled and whole seconds of torque go into the lifetime counters (R527). -/
def Mod.lifeFlush (m : Mod) : Mod :=
  let m := (m.life 0 ((m.raw - m.recd.lifeAt) / SEC)).onRec (fun r => { r with
    lifeAt := r.lifeAt + (m.raw - r.lifeAt) / SEC * SEC })
  m.axes.foldl (fun m i =>
    let a := m.axis i
    let um := a.dist * m.scale i / 67108864
    let m := (m.life (lifeAxis i 1) um).life (lifeAxis i 2) (a.onTicks / 10000)
    m.onAx i (fun a => { a with
      dist := a.dist - um * 67108864 / max 1 (m.scale i), onTicks := a.onTicks % 10000 })) m

/-- The counters' copy with the higher sequence number. -/
def RecSt.lifeKept (r : RecSt) : List Nat := if r.lifeNv.1.1 < r.lifeNv.2.1 then r.lifeNv.2.2 else r.lifeNv.1.2

/-- The older copy of the counters is written with the next sequence number (R99, R527). -/
def RecSt.lifeWrite (r : RecSt) (v : List Nat) : RecSt :=
  let n := max r.lifeNv.1.1 r.lifeNv.2.1 + 1
  { r with lifeNv := if r.lifeNv.1.1 < r.lifeNv.2.1 then ((n, v), r.lifeNv.2) else (r.lifeNv.1, (n, v)) }

/-- All counters are written (R527). -/
def Mod.lifeSave (m : Mod) : Mod := m.onRec (fun r => r.lifeWrite r.life)

/-- The counters of a portal and of its axes are written with its cycle record (R527). -/
def Mod.lifeSaveOf (m : Mod) (p : Nat) : Mod :=
  let mine (k : Nat) : Bool := (decide (lifePortal p 0 ≤ k) && decide (k < lifePortal p 8))
    || (decide (lifeAxis (4 * p) 0 ≤ k) && decide (k < lifeAxis (4 * p + 4) 0))
  m.onRec (fun r => r.lifeWrite ((upto 150).map (fun k => if mine k then r.life.getD k 0 else r.lifeKept.getD k 0)))

/-- The first failed condition of R272, 0 for none. (Assumption 78 DEDUCED) -/
def firstFail (l : List Nat) : Nat := l.foldl (fun b n => if b = 0 ∨ n < b then n else b) 0

/-- A cycle ends (R243): PORTAL_CYCLE_END, its record, learning. `cut` marks R521 and R537.
 (Assumptions 10 DESIGN CHOICE, 76 DEDUCED) -/
def Mod.cycEnd (m : Mod) (p endState : Nat) (cut : Bool) : Mod :=
  match (m.portal p).cyc with
  | none => m
  | some c =>
    let c := c.fail 1 (decide (endState ≠ 0) || cut)
    let good := c.learnFail.isEmpty
    let m := m.life (lifePortal p 0) 1
    let flags := c.flags ||| b2n good ||| (256 * b2n cut) ||| (32 * b2n (!m.trusted))
    let m := m.stageRec (m.cycRecord p endState c flags)
    let m := (upto 4).foldl (fun m r => match m.roleAxis p r with
      | some i => m.life (lifeAxis i 6) (Config.axisEnergy (m.freeCtr + r) / 1000)
      | none => m) m
    let m := ({ m with freeCtr := m.freeCtr + 4 }).lifeFlush.lifeSaveOf p
    let m := m.onPo p (fun q => { q with cyc := none })
    let m := (upto 8).foldl (fun m e => match m.edgeLeaf e with
      | some i => if decide (i / 4 = p) && decide (m.p P.edgeType e = 2) then
          let m := m.onEdge e (fun x => { x with sincePass := x.sincePass + 1 })
          if 10 ≤ (m.edge e).sincePass then m.edgeFail e 4 else m
        else m
      | none => m) m
    let m := m.raise 0x200E p [endState, ((m.raw - c.startRaw) / MS : Nat), (m.portal p).reversals]
    if good then
      (if m.runs 3 then m.learnCycle (p, c) else { m with ob := { m.ob with waits := m.ob.waits ++ [(p, c)] } })
    else match (m.leaves p).head? with
      | some i => m.raise 0x300A i [firstFail c.learnFail]
      | none => m

end Sys2Proof.Machine
end

