-- ==== Sys2Proof/Machine/Table.lean ====
section
/-! DEFINITION. Sequence tables as data (R248, R249, R260): the factory templates, the whole-table check,
row fields. -/
namespace Sys2Proof.Machine

/-! ### Templates (R260) -/

/-- Point number of an offset of a portal (R251). -/
def ptNum (p off : Nat) : Nat := 0x100 + 32 * p + off

/-- One row: PRESENT, NEXT, conditions (OP, offset of a local portal point, VALUE), TIMER_OP and TIMER, the
actions. (Assumption 71 DEDUCED) -/
def mkRow (p present next : Nat) (conds : List (Nat × Nat × Nat)) (tmr : Nat × Nat) (acts : List Nat) : List Nat :=
  let c (k : Nat) : List Nat := match conds[k]? with
    | some (op, off, v) => [op * 2 ^ 28 + 2 ^ 27 + ptNum p off, v]
    | none => [0, 0]
  [2 ^ 31 + present * 2 ^ 20 + next * 2 ^ 16] ++ c 0 ++ c 1 ++ c 2 ++ c 3
    ++ [tmr.1 * 2 ^ 28 + tmr.2 * 2 ^ 26]
    ++ (upto 4).map (fun k => acts.getD k 0) ++ [0, 0]

/-- (Assumption 71 DEDUCED) -/
def emptyRow : List Nat := List.replicate 16 0

def actMove (roles pos set : Nat) (redirect : Bool) : Nat :=
  2 ^ 28 + roles * 2 ^ 24 + b2n redirect * 2 ^ 23 + pos * 2 ^ 16 + set * 2 ^ 13
def actStop (roles : Nat) : Nat := 2 * 2 ^ 28 + roles * 2 ^ 24
def actTimer (t dur : Nat) : Nat := 5 * 2 ^ 28 + t * 2 ^ 26 + dur
def actEvent (code : Nat) : Nat := 6 * 2 ^ 28 + code

/-- SET_LS of a mapped channel; none where PORTAL_LS_MAP names none. -/
def actLs (map k st : Nat) : Nat :=
  let n := field map (8 * k) 8
  if n < 24 then 3 * 2 ^ 28 + n * 2 ^ 16 + st else 0

def tAuto : Nat := 0xFFFFF0
def tWarn : Nat := 0xFFFFF1
def tReclose : Nat := 0xFFFFF2

/-- Template `n` of portal `p` with the channels of a PORTAL_LS_MAP. Channel fields: 0 OPEN_LAMP, 1 WARN_LAMP,
2 CHIME. In template 4 the step's conditions and actions are absent; row 18 holds nothing else and is
invalid there. (Assumption 71 DEDUCED) -/
def template (n p map : Nat) : List (List Nat) :=
  let step := decide (n ≠ 4)
  let L := if n = 3 then 1 else 3
  let lm := if n = 3 then 0x000F else 0x00FF
  let at_ (k : Nat) : Nat × Nat × Nat := (5, 7, lm * 65536 + (if n = 3 then k else 17 * k))
  let lock1 : Nat × Nat × Nat := (5, 7, 0xF000 * 65536 + 0x1000)
  let eq (off v : Nat) : Nat × Nat × Nat := (1, off, v)
  let ne0 (off : Nat) : Nat × Nat × Nat := (2, off, 0)
  let chg (off : Nat) : Nat × Nat × Nat := (7, off, 0)
  let lamp := actLs map 0
  let warn := actLs map 1
  let chime := actLs map 2
  let s {α : Type} (l : List α) : List α := if step then l else []
  let wrn : List Nat := [chime 1, warn 2, actTimer 1 tWarn]
  let none_ : Nat × Nat := (0, 0)
  let row := mkRow p
  let a : List (List Nat) :=
    [row 0 2 [eq 13 1] none_ [lamp 1],
     row 2 0 [eq 13 0] none_ [lamp 0],
     row 2 3 [eq 14 1] none_ ([actMove 8 1 2 false] ++ s [actMove 4 1 3 false]),
     row 3 5 [eq 13 0] none_ ([actStop (if step then L + 4 else L)] ++ wrn),
     row 3 7 [ne0 17] none_ [actStop L],
     row 3 0xF ([lock1] ++ s [eq 1 2] ++ [at_ 0]) none_ [actMove L 1 0 false],
     row 3 4 [at_ 1] none_ [lamp 0, actTimer 0 tAuto],
     row 4 5 [eq 13 0] none_ wrn,
     row 4 5 [chg 16] none_ wrn,
     (if n = 4 then emptyRow else row 4 5 [] (1, 0) wrn),
     row 4 0xF [chg 15] none_ [actTimer 0 tAuto]]
  let b : List (List Nat) :=
    [row 5 6 [ne0 17, eq 18 1, (9, 21, 0)] none_ [actMove L 1 0 true, chime 0],
     row 5 7 [ne0 17] none_ [actStop L, chime 0],
     row 5 6 [eq 19 3] none_ [actMove L 1 0 true],
     row 5 3 [chg 15, eq 13 1] none_ [actMove L 1 0 true, chime 0, warn 0],
     row 5 0xF [] (1, 1) [chime 0, actMove L 0 1 true],
     row 5 1 [at_ 0, eq 9 1, eq 19 2] none_ [actMove 8 0 2 false],
     row 1 0xF [eq 8 1] none_ (s [actMove 4 0 3 false] ++ [warn 0]),
     (if step then row 1 7 [eq 1 4] none_ [actMove 4 1 3 false, actEvent 1] else emptyRow),
     row 1 0 (s [eq 1 0] ++ [eq 8 1]) none_ [],
     row 6 7 [ne0 17] none_ [actStop L],
     row 6 4 [at_ 1] none_ [actTimer 0 tReclose, warn 0],
     row 7 1 [chg 16, at_ 0, eq 8 1] none_ [],
     row 7 5 [chg 16] none_ wrn,
     row 7 3 [chg 15, eq 13 1] none_ [actMove L 1 0 true]]
  a ++ b ++ List.replicate 39 emptyRow

/-- The table in force; until the first load it is template 1 over the map of ASSEMBLY, which is all none, whatever is
written to PORTAL_LS_MAP later (R260). -/
def Mod.tableOf (m : Mod) (p : Nat) : List (List Nat) :=
  let q := m.portal p
  if q.table.isEmpty then template 1 p P.portalLsMap.dflt.toNat else q.table

/-- The table as written: the one that waits, or the one in force. -/
def Mod.tableWritten (m : Mod) (p : Nat) : List (List Nat) :=
  match (m.portal p).held with
  | some t => t
  | none => m.tableOf p

def rowBytes (t : List (List Nat)) : List Byte := (t.map (fun r => (r.map (fun w => leBytes 4 w)).flatten)).flatten

/-- 64 rows of 16 words from 4,096 bytes. -/
def rowsOf (b : List Byte) : List (List Nat) :=
  let w := toWords 1024 b
  (upto 64).map (fun r => (w.drop (16 * r)).take 16)

/-! ### The check of R249 -/

def stateCode (c : Nat) : Bool := decide (c ≤ 10) || decide (c = 14)
def nextCode (c : Nat) : Bool := decide (c ≤ 7) || decide (c = 10) || decide (c = 15)

/-- What the check needs to know of the portal, from the configuration as written. -/
structure TabCtx where
  /-- the four roles that have an axis -/
  roles : List Bool
  /-- the positions that are set, by 4 * role + index -/
  pos : List Bool
  map : Nat
  /-- number of portals of the part (R2) -/
  portals : Nat
  deriving DecidableEq, Repr

/-- An action word breaks R249. (Assumption 72 DEDUCED) -/
def actBad (x : TabCtx) (present w : Nat) : Bool :=
  let roles := field w 24 4
  let named (f : Nat → Bool) : Bool := (upto 4).any (fun r => bit roles r && f r)
  match w / 2 ^ 28 with
  | 0 => decide (field w 0 28 ≠ 0)
  | 1 => decide (field w 18 5 ≠ 0) || decide (field w 0 13 ≠ 0) || decide (present = 10)
      || named (fun r => !x.roles.getD r false || !x.pos.getD (4 * r + field w 16 2) false)
  | 2 => decide (field w 0 24 ≠ 0) || named (fun r => !x.roles.getD r false)
  | 3 => decide (field w 21 7 ≠ 0) || decide (field w 2 14 ≠ 0) || decide (field w 0 2 = 3)
      || decide (24 ≤ field w 16 5) || !(upto 3).any (fun k => decide (field x.map (8 * k) 8 = field w 16 5))
  | 4 => decide (field w 19 9 ≠ 0)
  | 5 => decide (field w 24 2 ≠ 0)
  | 6 => decide (field w 16 12 ≠ 0)
  | 7 => decide (field w 8 20 ≠ 0)
  | _ => true

/-- A condition word that names a point of a portal the part does not have (R2, R251). -/
def pointAbsent (x : TabCtx) (w : Nat) : Bool :=
  decide (w / 2 ^ 28 ≠ 0) && bit w 27 && decide (0x100 + 32 * x.portals ≤ field w 0 9) && decide (field w 0 9 < 0x180)

/-- The first word of a row that breaks R249, or that names an absent portal (R2). (Assumption 72 DEDUCED) -/
def rowFault (x : TabCtx) (r : List Nat) : Option Nat :=
  let w (k : Nat) : Nat := r.getD k 0
  let pr := field (w 0) 20 4
  (upto 16).find? (fun k =>
    if k = 0 then decide (field (w 0) 24 7 ≠ 0) || decide (field (w 0) 0 16 ≠ 0) || !stateCode pr || !nextCode (field (w 0) 16 4)
    else if k ≤ 8 then (if k % 2 = 1 then decide (10 < w k / 2 ^ 28) || decide (field (w k) 18 9 ≠ 0) || pointAbsent x (w k) else false)
    else if k = 9 then decide (3 < w k / 2 ^ 28) || decide (field (w k) 0 26 ≠ 0)
    else if k ≤ 13 then actBad x pr (w k)
    else decide (w k ≠ 0))

/-- The first failing row and word of a table (R249): DETAIL is row * 256 + word. (Assumption 72 DEDUCED) -/
def tableFaultAt (x : TabCtx) : Nat → List (List Nat) → Option Nat
  | _, [] => none
  | k, r :: t => match rowFault x r with
    | some w => some (256 * k + w)
    | none => tableFaultAt x (k + 1) t

/-- The check's view of a portal in the configuration as written. -/
def PStore.tabCtx (st : PStore) (part : Part) (p : Nat) : TabCtx :=
  let mp := (st.get P.portalAxisMap p).toNat
  ⟨(upto 4).map (fun r => decide (field mp (3 * r) 3 < 4)),
   (upto 16).map (fun k => decide (st.get P.portalPos (16 * p + k) ≠ unset)), (st.get P.portalLsMap p).toNat,
   InstK.portal.count part⟩

/-! ### Fields of a row -/

def rowValid (r : List Nat) : Bool := bit (r.getD 0 0) 31
def rowPresent (r : List Nat) : Nat := field (r.getD 0 0) 20 4
def rowNext (r : List Nat) : Nat := field (r.getD 0 0) 16 4

/-- Condition c of a row: OP, LOCAL, MODULE, POINT, VALUE. -/
structure Cond where
  op : Nat
  loc : Bool
  mod : Nat
  pt : Nat
  val : Nat
  deriving DecidableEq, Repr

def rowCond (r : List Nat) (c : Nat) : Cond :=
  let a := r.getD (1 + 2 * c) 0
  ⟨a / 2 ^ 28, bit a 27, field a 9 9, field a 0 9, r.getD (2 + 2 * c) 0⟩

def rowConds (r : List Nat) : List Cond := ((upto 4).map (rowCond r)).filter (fun c => decide (c.op ≠ 0))

/-- The actions of a row with their numbers 1 to 4. -/
def rowActs (r : List Nat) : List (Nat × Nat) :=
  ((upto 4).map (fun k => (k + 1, r.getD (10 + k) 0))).filter (fun x => decide (x.2 / 2 ^ 28 ≠ 0))

def actKind (w : Nat) : Nat := w / 2 ^ 28
def actRoles (w : Nat) : List Nat := (upto 4).filter (fun r => bit (field w 24 4) r)

end Sys2Proof.Machine
end

