-- ==== Sys2Proof/Machine/Portal.lean ====
section
/-! DEFINITION. Portals at run time (07_portal_sequencing.md): signal points, state changes, the state from
sensors, step states, fixed transitions, the scan and the actions of a row, requests. -/
namespace Sys2Proof.Machine

/-! ### Points (R251, R389, R432, R433) -/

/-- A role axis is in position at POSk (R211): in position, and its encoder within IN_POS_WINDOW of POSk.
 (Assumption 68 DEDUCED) -/
def Mod.atPosK (m : Mod) (p r k : Nat) : Bool :=
  match m.roleAxis p r, m.posUm p r k with
  | some i, some x =>
    (m.axis i).inPos && decide ((m.um i (m.stepPos i x - m.pEnc i)).natAbs ≤ m.pn P.inPosWindow i)
  | _, _ => false

/-- One nibble of AT_POS. (Assumption 68 DEDUCED) -/
def Mod.atPos (m : Mod) (p r : Nat) : Nat := ((upto 4).find? (m.atPosK p r)).getD 15

def Mod.released (m : Mod) (p : Nat) : Bool := (m.side.get (m.sideOf p)).released

/-- The 32 points of a portal as they stand. -/
def Mod.portalVals (m : Mod) (p : Nat) : List Int :=
  let q := m.portal p
  let pos (r : Nat) : Int := match m.roleAxis p r with
    | some i => m.hostPos i (m.pEnc i)
    | none => 0
  let mv : Nat := mask 4 (fun r => match m.roleAxis p r with
    | some i => m.moving i
    | none => false)
  let at_ : Nat := m.atPos p 0 + 16 * m.atPos p 1 + 256 * m.atPos p 2 + 4096 * m.atPos p 3
  let left : Int := max 0 (m.p P.maxReversals p - q.reversals)
  [(q.state : Int), q.stepState, pos 0, pos 1, pos 2, pos 3, mv, at_,
   m.pairPoint (m.pn P.lockPair p) false, m.pairPoint (m.pn P.closedPair p) false,
   m.pairPoint (m.pn P.stepRetPair p) false, m.pairPoint (m.pn P.emergencyPair p) true,
   m.pairPoint (m.pn P.isolationPair p) false, b2n (m.released p), b2n q.openReq, q.openPress, q.closePress,
   q.obstacle, q.obstReact, q.probe, q.reversals, left, q.txnOutcome,
   if q.state = 10 then (q.faultCause : Int) else 0] ++ q.user

/-- The points of a portal are sampled (R251). -/
def Mod.publish (m : Mod) (p : Nat) : Mod := m.onPo p (fun q => { q with pts := m.portalVals p })

/-- An evacuation source is active (R85). (Assumption 34 DEDUCED) -/
def Mod.evacuating (m : Mod) : Bool := m.mode.evac.any (fun b => b)

/-- MODULE.TWIN: 0 no twin, 1 ACTIVE, 2 SHADOW. -/
def Mod.twinPoint (m : Mod) : Int :=
  if !m.twinConf then 0 else if m.md = .shadow then 2 else 1

def syncNum : SyncSt → Nat
  | .freeRunning => 0
  | .acquiring => 1
  | .locked => 2
  | .holdover => 3

/-- The module's own point outside the portals (R389, R432). -/
def Mod.modulePoint (m : Mod) (n : Nat) : Int :=
  let di (f : Nat → Bool) (b : Nat) : Int := (mask 16 (fun k => f (16 * b + k)) : Nat)
  let ch (f : Ls → Bool) : Int := (mask 24 (fun k => f (m.ls k)) : Nat)
  if n < 4 then di (fun i => (m.di i).filt) n
  else if n < 8 then di (fun i => m.diStale i || (m.di i).testFailed) (n - 4)
  else if n = 0x008 then ch (fun c => decide (c.cmd ≠ 0))
  else if n = 0x009 then ch (fun c => c.out)
  else if n = 0x00A then ch (fun c => decide (c.trip ≠ 0) || c.latch || c.exhausted || c.shed)
  else if n = 0x00B then (m.feedState : Nat)
  else if n = 0x010 then (m.md.num : Nat)
  else if n = 0x011 then (b2n m.saf.loops.L.shows + 2 * b2n m.saf.loops.R.shows : Nat)
  else if n = 0x012 then
    (b2n m.saf.reedLost.isNone + 2 * b2n m.saf.boreLost.isNone + 4 * b2n (decide (m.md = .degraded)) + 8 * b2n m.saf.reached : Nat)
  else if n = 0x013 then m.twinPoint
  else if n = 0x014 then (syncNum m.time.sync + 4 * b2n m.time.trusted : Nat)
  else if n = 0x015 then (b2n m.evacuating : Nat)
  else if 0x180 ≤ n ∧ n < 0x200 then m.fab.host.getD (n - 0x180) 0
  else 0

/-- The module's own point as a reader sees it: portal points as last sampled. -/
def Mod.ownPoint (m : Mod) (n : Nat) : Int :=
  if 0x100 ≤ n ∧ n < 0x180 then (m.portal ((n - 0x100) / 32)).pts.getD ((n - 0x100) % 32) 0
  else m.modulePoint n

/-- Class period in ns (R434). -/
def classPeriod (c : Nat) : Int := if c = 1 then 1000000 else if c = 2 then 10000000 else 100000000

/-- A received point is stale (R433). -/
def Mod.imgStale (m : Mod) (x : ImgPt) : Bool :=
  let fresh (r : Int) : Bool := decide (m.now - 2 * classPeriod x.cls ≤ r) && decide (r < m.now)
  !x.ok || !(fresh x.time || x.before.any fresh)

/-- A point of the fabric: its value and whether it is stale. -/
def Mod.point (m : Mod) (mod pt : Nat) : Int × Bool :=
  if m.fab.addr = some mod then (m.ownPoint pt, false)
  else match m.fab.image.find? (fun x => x.mod == mod && x.pt == pt) with
    | some x => (x.value, m.imgStale x)
    | none => (0, true)

def Mod.condPoint (m : Mod) (c : Cond) : Int × Bool := if c.loc then (m.ownPoint c.pt, false) else m.point c.mod c.pt

/-! ### State changes (R240, R246, R247, R251, R259, R281) -/

def Mod.setTimer (m : Mod) (p t : Nat) (v : Tmr) : Mod := m.onPo p (fun q => { q with timers := upd q.timers t (fun _ => v) })

def Mod.cancelTimers (m : Mod) (p : Nat) : Mod := m.onPo p (fun q => { q with timers := List.replicate 4 .idle })

/-- Force counts restart at each portal state change (R276). -/
def Mod.countsRestart (m : Mod) (p : Nat) : Mod :=
  (m.leaves p).foldl (fun m i => m.onOb i (fun o => { o with forceCnt := 0, absCnt := 0, openCnt := 0 })) m

/-- What entering a state does to the portal's own registers. (Assumption 76 DEDUCED) -/
def Portal.enter (q : Portal) (new : Nat) : Portal :=
  { q with
    state := new, obstacle := 0, obstReact := 0, fresh := [],
    openReq := q.openReq && decide (new ≠ 3),
    reversals := if (q.state = 2 ∧ new = 3) ∨ q.state = 7 then 0 else if new = 6 then q.reversals + 1 else q.reversals,
    timers := if new = 10 then List.replicate 4 .idle else q.timers }

/-- The lifetime counter a state entry advances (R527). -/
def entryLife : Nat → Option Nat
  | 6 => some 1
  | 7 => some 2
  | 8 => some 5
  | 9 => some 4
  | 10 => some 6
  | _ => none

/-- (Assumption 76 DEDUCED) -/
def cycleEnds (st : Nat) : Bool := decide (st = 0) || decide (8 ≤ st)

/-- Change a portal's state. `row` is the table row, or 0xFF with the fixed cause (R264): 1 handle, 2
evacuation, 3 key, 4 degraded limit, 5 fault, 6 lock lost, 7 sensors. (Assumptions 70 DEDUCED, 75 DEDUCED) -/
def Mod.toState (m : Mod) (p new row : Nat) (cause : Option Nat) : Mod :=
  let old := (m.portal p).state
  if old = new then m
  else
    let m := if new = 6 then m.takeDue (fun d i => decide (d.eff = .reversing) && decide (i = p)) else m
    let m := (m.onPo p (fun q => q.enter new)).countsRestart p
    let m := m.raise 0x2001 p ([(old : Int), (new : Int), (row : Int)] ++ (cause.toList.map (fun (c : Nat) => (c : Int))))
    let m := if new = 6 then m.raise 0x2009 p [(m.portal p).reversals] else m
    let m := match entryLife new with
      | some k => m.life (lifePortal p k) 1
      | none => m
    let m := if new = 6 ∨ new = 7 then m.onCyc p (fun c => c.fail 5 true) else m
    let m := if new = 6 then m.onCyc p (fun c => { c with reversals := c.reversals + 1 }) else m
    let m := if old = 0 then m.cycBegin p else m
    let m := if new = 5 then m.onCyc p (fun c => { c with warnAt := some (c.warnAt.getD m.raw) }) else m
    let m := if cycleEnds new then m.cycEnd p new false else m
    let m := if new = 9 then m.demand p 2 else m
    let m := if new = 0 ∧ m.saf.reached then m.onPo p (fun q => { q with isolDeg := true }) else m
    m.edgeEntry p new

/-- Enter FAULT with a cause of R264; moving role axes make a fault stop. (Assumptions 20 DEDUCED, 70 DEDUCED) -/
def Mod.portalFault (m : Mod) (p cause : Nat) : Mod :=
  if (m.portal p).state = 10 then m
  else
    let m := (m.toState p 10 0xFF (some 5)).onPo p (fun q => { q with faultCause := cause })
    let m := m.raise 0x200A p [cause]
    (m.roleAxes p).foldl (fun m i => if m.moving i then m.faultStop i none else m) m

/-- The state from sensors, the first line of R241 that holds. -/
def Mod.sensorState (m : Mod) (p : Nat) : Nat :=
  if m.emergency false p || decide (m.md = .egress) then 9
  else if m.isolKey false p || (m.portal p).isolDeg then 8
  else if m.pairsLocked false p then 0
  else if m.closedSw false p then 1
  else if (m.leaves p).all (fun i => (m.axis i).referenced)
      && (upto 2).all (fun r => (m.roleAxis p r).isNone || m.atPosK p r 1) then 4
  else 10

/-- Take the state from sensors (R241): timers cancelled, OPEN_REQ, REVERSALS, OBSTACLE and PROBE cleared. -/
def Mod.fromSensors (m : Mod) (p : Nat) : Mod :=
  if m.enabled p then
    let new := m.sensorState p
    let was := (m.portal p).state
    let m := (m.cancelTimers p).onPo p (fun q => { q with openReq := false, reversals := 0, obstacle := 0, obstReact := 0, fresh := [] })
    let m := (m.probeReset p).toState p new 0xFF (some 7)
    if new = 10 ∧ ((m.portal p).faultCause ≠ 5 ∨ was ≠ 10) then (m.onPo p (fun q => { q with faultCause := 5 })).raise 0x200A p [5]
    else m
  else m.onPo p (fun q => { q with state := 0xFF })

/-! ### Step states (R242, R254) -/

def Mod.stepStateOf (m : Mod) (p : Nat) : Nat :=
  match m.roleAxis p 2 with
  | none => 0xF
  | some i =>
    let q := m.portal p
    let tgt (k : Nat) : Bool := match (m.axis i).mv, m.posUm p 2 k with
      | some mv, some x => decide (mv.target = m.stepPos i x)
      | _, _ => false
    if m.moving i then (if tgt 1 then 1 else if tgt 0 then 3 else 4)
    else if q.stepBlocked then 4
    else if m.stepSw false p then 0
    else if m.atPosK p 2 1 then 2
    else 4

/-- The step at a tick: BLOCKED ends with its next move; the end of a move to POS0 or POS1 is watched. -/
def Mod.stepTick (m : Mod) (p : Nat) (wasMoving started : Bool) : Mod :=
  match m.roleAxis p 2 with
  | none => m.onPo p (fun q => { q with stepState := 0xF })
  | some i =>
    let m := if started then m.onPo p (fun q => { q with stepBlocked := false, stepWatch := none }) else m
    let m := if (wasMoving || started) && !m.moving i then
        let k := if (m.posUm p 2 0).map (m.stepPos i) = some (m.axis i).pcmd then 0 else 1
        m.onPo p (fun q => { q with stepWatch := some (k, (m.axis i).restAt.getD m.raw) })
      else m
    let m := match (m.portal p).stepWatch with
      | some (k, _) =>
        let done := (m.axis i).inPos && (decide (k ≠ 0) || m.stepSw false p)
        if done then m.onPo p (fun q => { q with stepWatch := none }) else m
      | none => m
    let old := (m.portal p).stepState
    let new := m.stepStateOf p
    if old = new then m
    else (m.onPo p (fun q => { q with stepState := new })).raise 0x2002 p [old, new]

/-! ### Fixed transitions (R252 to R255) -/

/-- The first drive fault (1) or lost reference (2) of the role axes. (Assumption 70 DEDUCED) -/
def Mod.roleFault (m : Mod) (p : Nat) : Option Nat :=
  if (m.roleAxes p).any (fun i => (m.axis i).fault.isSome) then some 1
  else if (m.roleAxes p).any (fun i => !(m.axis i).referenced) then some 2
  else none

/-- Follow the contradiction of rule 5: the lock axis in position at POS0 without LOCK_PAIR, or at POS1 with
it. (Assumption 73 DEDUCED) -/
def Mod.lockTick (m : Mod) (p : Nat) : Mod :=
  let sw := m.lockSw false p
  let w := if m.atPosK p 3 0 && !sw then some 1 else if m.atPosK p 3 1 && sw then some 2 else none
  m.onPo p (fun q => { q with lockWatch := match w with
    | none => none
    | some k => (match q.lockWatch with
      | some (j, t) => if j = k then some (j, t) else some (k, m.raw)
      | none => some (k, m.raw)) })

/-- STO of a portal group by rule 1 stands while its demand does. (Assumption 75 DEDUCED) -/
def Mod.needSto (m : Mod) (p cause : Nat) : Bool :=
  !(m.stoOf p).reed.contains cause && !(m.stoOf p).reed.contains 6 && !m.saf.ss.getD p false

/-- Step 2 of R244; a fired MOVE that did not start is looked at once, at its boundary (R250).
 (Assumptions 20 DEDUCED, 73 DEDUCED) -/
def Mod.fixedStep (m : Mod) (p : Nat) : Mod :=
  let st := (m.portal p).state
  let refused := (m.portal p).refused
  let m := m.onPo p (fun q => { q with refused := false })
  let handle := m.emergency false p
  if handle || decide (m.md = .egress) then
    let m := m.toState p 9 0xFF (some (if handle then 1 else 2))
    if (m.stoOf p).reed.contains 2 then m else m.demand p 2
  else if decide (st ≠ 9) && (m.isolKey false p || (m.portal p).isolDeg) then
    let m := m.toState p 8 0xFF (some (if m.isolKey false p then 3 else 4))
    if m.needSto p 3 then m.safeStop p 2 3 else m
  else if st = 8 then m.fromSensors p
  else if decide (st ≠ 9) && decide (st ≠ 10) && (m.roleFault p).isSome then
    m.portalFault p ((m.roleFault p).getD 1)
  else if decide (st = 0) && (!m.lockSw false p || !m.closedSw false p) then
    let m := m.toState p 1 0xFF (some 6)
    let m := m.raise 0x2007 p [(if m.lockSw false p then m.pn P.closedPair p else m.pn P.lockPair p : Nat)]
    m.life (lifePortal p 7) 1
  else if refused then m.portalFault p 3
  else m

/-! ### The scan (R244 to R246) -/

def Mod.condTrue (m : Mod) (p : Nat) (c : Cond) : Bool :=
  let (x, stale) := m.condPoint c
  let v := ofBits 32 (c.val % 2 ^ 32)
  let masked := ((toBits 32 x) &&& (c.val / 65536)) % 65536
  if c.op = 8 then stale
  else if stale then false
  else if c.op = 1 then decide (x = v)
  else if c.op = 2 then decide (x ≠ v)
  else if c.op = 3 then decide (x < v)
  else if c.op = 4 then decide (v ≤ x)
  else if c.op = 5 then decide (masked = c.val % 65536)
  else if c.op = 6 then decide (masked ≠ c.val % 65536)
  else if c.op = 9 then decide (v < x)
  else if c.op = 10 then decide (x ≤ v)
  else match (m.portal p).prev with
    | none => false
    | some l => (match l.find? (fun y => y.1 == (if c.loc then 512 else c.mod) && y.2.1 == c.pt) with
      | some y => decide (y.2.2 ≠ x)
      | none => false)

/-- Values of the points that CHANGED conditions name, for the next evaluation. -/
def Mod.changedNow (m : Mod) (t : List (List Nat)) : List (Nat × Nat × Int) :=
  ((t.filter rowValid).map (fun r => ((rowConds r).filter (fun c => decide (c.op = 7))).map (fun c =>
    (if c.loc then 512 else c.mod, c.pt, (m.condPoint c).1)))).flatten

def Tmr.reads (t : Tmr) (raw : Nat) : Nat :=
  match t with
  | .idle => 3
  | .expired => 1
  | .running u => if u ≤ raw then 1 else 2

def Mod.timerTrue (m : Mod) (p : Nat) (r : List Nat) : Bool :=
  let w := r.getD 9 0
  let op := w / 2 ^ 28
  if op = 0 then true
  else decide (((m.portal p).timers.getD (field w 26 2) .idle).reads m.raw = op)

/-- The extra conditions of R245. No row takes a portal out of FAULT, which only PORTAL_RESET does (R255).
 (Assumption 143 DEDUCED) -/
def Mod.nextOk (m : Mod) (p : Nat) (r : List Nat) : Bool :=
  let n := rowNext r
  if decide ((m.portal p).state = 10) && decide (n ≠ 15) && decide (n ≠ 10) then false
  else if n = 0 then
    m.pairsLocked false p && ([0, 1, 3].filterMap (m.roleAxis p)).all (fun i => !m.moving i)
  else if n = 2 then m.released p
  else if n = 3 then
    m.released p ||
      (decide (rowPresent r = 5) &&
        (let mv := (rowActs r).filter (fun x => actKind x.2 == 1)
         match mv with
         | [(_, w)] => bit w 23 && !bit w 26 && !bit w 27
         | _ => false))
  else true

def Mod.rowMatch (m : Mod) (p : Nat) (r : List Nat) : Bool :=
  let pr := rowPresent r
  rowValid r && (decide (pr = (m.portal p).state) || (decide (pr = 14) && decide ((m.portal p).state ≠ 8) && decide ((m.portal p).state ≠ 9)))
    && (rowConds r).all (m.condTrue p) && m.timerTrue p r && m.nextOk p r

/-- A holding row keeps the state (R246). -/
def holding (st : Nat) (r : List Nat) : Bool := decide (rowNext r = 15) || decide (rowNext r = st)

/-! ### Actions (R248, R250, R294, R338) -/

/-- The arguments of a table MOVE (R248, R261): 0 selects the axis default. (Assumption 66 DEDUCED) -/
def Mod.tableMove (m : Mod) (p w : Nat) (x : Int) : MoveArgs :=
  let k := 8 * p + field w 13 3
  { target := x, speed := m.pn P.profSpeed k, accel := m.pn P.profAccel k, decel := m.pn P.profDecel k,
    jerk := if m.p P.profJerk k = 0 then 0xFFFFFFFF else m.pn P.profJerk k, redirect := bit w 23, relative := false }

/-- The check of one role of a MOVE. (Assumption 66 DEDUCED) -/
def Mod.checkMove (m : Mod) (p r w next : Nat) : Option Nat :=
  match m.roleAxis p r, m.posUm p r (field w 16 2) with
  | some i, some x =>
    let st := (m.portal p).state
    let far := match m.posUm p r 0 with
      | some a => decide (m.p P.closedWindow p < ((x - a).natAbs : Int))
      | none => true
    let toward (k j : Nat) : Bool := match m.posUm p r k, m.posUm p r j with
      | some a, some b => decide (sgn (m.stepPos i x - (m.axis i).pcmd) = sgn (a - b)) && decide (a ≠ b)
      | _, _ => false
    (match m.moveCheck i true (m.tableMove p w x) with
      | some s => some s
      | none =>
        if decide (r ≠ 2) && far && !m.released p && !(decide (st = 5) && (decide (next = 6) || decide (next = 3)) && bit w 23) then
          some 0x3302
        else if decide (r = 2) && toward 1 0 && !m.zeroSpeed false then some 0x3501
        else if decide (r = 3) && toward 0 1 && (decide ((m.portal p).probe = 1) || decide ((m.portal p).probe = 3)) then
          some 0x3401
        else none)
  | _, _ => some 0x1003

/-- The check of one action: the status of the first failure (R250). -/
def Mod.checkAct (m : Mod) (p w next : Nat) : Option Nat :=
  let k := actKind w
  if k = 1 then (if m.md = .egress then none else (actRoles w).findSome? (fun r => m.checkMove p r w next))
  else if k = 2 then (if m.md = .egress then none else (actRoles w).findSome? (fun r => match m.roleAxis p r with
    | some i => m.axisCheck i true true
    | none => some 0x1003))
  else if k = 7 then (if (m.ctx (field w 0 8)).st = 1 then none else some 0x2003)
  else none

/-- The resources an action touches (R465). -/
def Mod.actRes (m : Mod) (p w : Nat) : List Res :=
  let k := actKind w
  if k = 1 ∨ k = 2 then ((actRoles w).filterMap (m.roleAxis p)).map Res.axis
  else if k = 3 then [.ls (field w 16 5)]
  else []

/-- Run one action of a fired row (R248). -/
def Mod.doAct (m : Mod) (p row : Nat) (a w : Nat) : Mod :=
  let k := actKind w
  let axes := (actRoles w).filterMap (fun r => (m.roleAxis p r).map (fun i => (r, i)))
  if k = 1 then
    (if m.md = .egress then m else axes.foldl (fun m x => match m.posUm p x.1 (field w 16 2) with
      | some y => m.onAx x.2 (fun b => { b with arr := b.arr ++ [.move (.table row a) (m.tableMove p w y) none] })
      | none => m) m)
  else if k = 2 then
    (if m.md = .egress then m else axes.foldl (fun m x => m.onAx x.2 (fun b => { b with arr := b.arr ++ [.stop (.table row a)] })) m)
  else if k = 3 then m.lsCommand (field w 16 5) (field w 0 2)
  else if k = 4 then m.onPo p (fun q => { q with user := upd q.user (field w 16 3) (fun _ => (field w 0 16 : Nat)) })
  else if k = 5 then
    let d := field w 0 24
    let ms := if d = tAuto then m.pn P.autoCloseTime p else if d = tWarn then m.pn P.warningTime p
      else if d = tReclose then m.pn P.recloseDelay p else d
    m.setTimer p (field w 26 2) (if ms = 0 then .idle else .running (m.raw + ms * MS))
  else if k = 6 then m.raise 0x200B p [(field w 0 16 : Nat), row]
  else if k = 7 then (m.commitLocal (field w 0 8) none (some p)).1
  else m

/-- An action on a locked resource waits for the bundle (R465). -/
def Mod.runAct (m : Mod) (p row : Nat) (x : Nat × Nat) : Mod :=
  if (m.actRes p x.2).any m.locked then m.onTxn (fun t => { t with heldActs := t.heldActs ++ [(p, row, x.1)] })
  else m.doAct p row x.1 x.2

/-- The state a row leads to. -/
def rowTo (st : Nat) (r : List Nat) : Nat := if rowNext r = 15 then st else rowNext r

/-- The first action of a row that fails its check, and its status (R250). -/
def Mod.rowRefusal (m : Mod) (p : Nat) (r : List Nat) : Option (Nat × Nat) :=
  (rowActs r).findSome? (fun x => (m.checkAct p x.2 (rowTo (m.portal p).state r)).map (fun s => (x.1, s)))

/-- Fire a row (R246, R250). (Assumption 109 DEDUCED) -/
def Mod.fireRow (m : Mod) (p k : Nat) (r : List Nat) : Mod :=
  let st := (m.portal p).state
  let next := rowTo st r
  match m.rowRefusal p r with
  | some (a, s) => (m.raise 0x2005 p [(k : Int), (a : Int), (s : Int)]).portalFault p 3
  | none =>
    let m := (rowActs r).foldl (fun m x => m.runAct p k x) m
    if next = st then m
    else if next = 10 then
      let m := (m.toState p 10 k none).onPo p (fun q => { q with faultCause := 6 })
      let m := m.raise 0x200A p [6]
      (m.roleAxes p).foldl (fun m i => if m.moving i then m.faultStop i none else m) m
    else m.toState p next k none

/-- A fired row stops the leaf or redirects it (R285). -/
def stopsLeaf (r : List Nat) (role : Nat) : Bool :=
  (rowActs r).any (fun x => (actRoles x.2).contains role && (decide (actKind x.2 = 2) || (decide (actKind x.2 = 1) && bit x.2 23)))

/-- R285: a detection just published that no fired row acts on. -/
def Mod.unhandled (m : Mod) (p : Nat) (fresh : List Nat) (st : Nat) (fired : Option (List Nat)) : Mod :=
  fresh.foldl (fun m role =>
    match m.roleAxis p role with
    | some i =>
      let ok := match fired with
        | some r => stopsLeaf r role
        | none => false
      if ok then m
      else (m.onAx i (fun a => { a with arr := a.arr ++ [.stop .self] })).raise 0x3007 i [st]
    | none => m) m

/-- Steps 3 and 4 of R244. -/
def Mod.scan (m : Mod) (p : Nat) : Mod :=
  let m := m.publish p
  let q := m.portal p
  let fresh := q.fresh
  let st := q.state
  let m := m.onPo p (fun q => { q with fresh := [] })
  if st = 8 ∨ st = 9 then m
  else
    let t := m.tableOf p
    let hits := t.map (m.rowMatch p)
    let arms := q.armed
    let can := (upto 64).find? (fun k => hits.getD k false && (!holding st (t.getD k []) || arms.getD k true))
    let fires := can.filter (fun k => (m.rowRefusal p (t.getD k [])).isNone)
    let armed := (upto 64).map (fun k =>
      if !hits.getD k false then true
      else if fires = some k ∧ holding st (t.getD k []) then false else arms.getD k true)
    let now := m.changedNow t
    let m := m.onPo p (fun q => { q with armed := armed, prev := some now })
    match can with
    | some k =>
      let r := t.getD k []
      (m.fireRow p k r).unhandled p fresh st (if fires = some k then some r else none)
    | none => m.unhandled p fresh st none

/-! ### Requests (R259) -/

/-- A press of an open or close button, or a request: source 1 button, 2 host. -/
def Mod.press (m : Mod) (p : Nat) (close : Bool) (source : Nat) (t : Int) : Mod :=
  if close then m.onPo p (fun q => { q with closePress := (q.closePress + 1) % 65536 })
  else
    let m := m.takeDue (fun d i => d.id == P.openPreselect.id && decide (i = p))
    let m := m.onPo p (fun q => { q with openPress := (q.openPress + 1) % 65536, lastPress := some t })
    let m := m.onCyc p (fun c => { c with opens := c.opens + 1 })
    let st := (m.portal p).state
    if m.released p && (decide (st = 0) || decide (st = 2)) then
      (m.onPo p (fun q => { q with openReq := true })).raise 0x200C p [source]
    else m

end Sys2Proof.Machine
end

