-- ==== Sys2Proof/Machine/Store.lean ====
section
/-! DEFINITION. Writes to the configuration and the user calibration (R8, R99, R102, R348): what a write
does beside its value, and the outer form of the commands that change written values. -/
namespace Sys2Proof.Machine

/-- An alternately written area: the older copy is written with the next sequence number (R99).
 (Assumption 43 DEDUCED) -/
def writeCopy (ok : Bool × Bool) (sq : Nat × Nat) : (Bool × Bool) × (Nat × Nat) :=
  let n := max sq.1 sq.2 + 1
  let first := if ok.1 = ok.2 then decide (sq.1 ≤ sq.2) else !ok.1
  if first then ((true, ok.2), (n, sq.2)) else ((ok.1, true), (sq.1, n))

/-- The configuration area is written. (Assumption 43 DEDUCED) -/
def Mod.cfgSave (m : Mod) : Mod :=
  let (v, q) := writeCopy m.nv.config m.nv.configSeq
  { m with nv := { m.nv with config := v, configSeq := q } }

/-- The user calibration area is written. (Assumption 43 DEDUCED) -/
def Mod.calSave (m : Mod) : Mod :=
  let (v, q) := writeCopy m.nv.calib m.nv.calibSeq
  { m with nv := { m.nv with calib := v, calibSeq := q } }

/-- The user calibration and the configuration are erased (R101): no copy is valid, and the tables and learned profiles
they held are gone. -/
def Mod.eraseAreas (m : Mod) : Mod :=
  let po : List Portal := m.po.map (fun q => { q with table := [], held := none })
  let ax : List Axis := m.ax.map (fun a => { a with tabs := List.replicate 7 none })
  let can : List CanPort := m.can.map (fun c => { c with tab := List.replicate 512 0 })
  { m with
    due := [], po := po, ax := ax, can := can
    fab := { m.fab with pubTab := pubDefaults }
    ob := { m.ob with saved := List.replicate 16 Prof.reset, ax := m.ob.ax.map (fun o => { o with prof := Prof.reset, changed := false }) }
    nv := { m.nv with
      calib := (false, false), config := (false, false), calibSeq := (0, 0), configSeq := (0, 0),
      eraseOwed := false, computed := none, confirmed := none } }

/-- A write to the canonical set ends its confirmation and the computed value (R102, R348). (Assumption 43 DEDUCED) -/
def Mod.canonChanged (m : Mod) : Mod := { m with nv := { m.nv with computed := none, confirmed := none } }

/-- A written value comes into force at once, or waits for its instant (R8). -/
def Mod.schedule (m : Mod) (d : PDef) (i : Nat) (x : Int) : Mod :=
  let k := pKey d.id i
  if d.eff = .now ∨ d.eff = .never then { m with live := m.live.set d i x, due := m.due.filter (fun kv => kv.1 != k) }
  else { m with due := m.due.filter (fun kv => kv.1 != k) ++ [(k, x)] }

/-- A leaf's profile becomes invalid: 1 parameter write, 2 block write, 3 reload failure (R271, R302).
 (Assumptions 81 DEDUCED, 82 DEDUCED) -/
def Mod.profileInvalid (m : Mod) (i cause : Nat) : Mod :=
  (m.onOb i (fun o => { o with prof := { o.prof with valid := false } })).raise 0x300D i [cause]

/-- R271 on a written parameter: the profiles it makes invalid. (Assumption 82 DEDUCED) -/
def Mod.profileLost (m : Mod) (d : PDef) (i : Nat) : Mod :=
  let drop (m : Mod) (i : Nat) : Mod := if m.isLeaf i then m.profileInvalid i 1 else m
  if d.id = P.torqueConstant.id ∨ d.id = P.polePairs.id ∨ d.id = P.transmissionEff.id ∨ d.id = P.movingMass.id
      ∨ d.id = P.axisScale.id then drop m i
  else if d.id = P.portalPos.id ∧ i % 4 < 2 ∧ i / 4 % 4 < 2 then
    (match m.roleAxis (i / 16) (i / 4 % 4) with
      | some a => drop m a
      | none => m)
  else m

/-- R231 on a written parameter: the reference it loses. -/
def Mod.refLost (m : Mod) (d : PDef) (i : Nat) : Mod :=
  if d.id = P.axisScale.id ∨ d.id = P.encScale.id ∨ d.id = P.encOffset.id ∨ d.id = P.encDir.id ∨ d.id = P.encType.id then
    m.loseRef i 4
  else m

/-- What a written value does to the running module. -/
def Mod.paramTaken (m : Mod) (d : PDef) (i : Nat) (x : Int) : Mod :=
  let m := ((m.schedule d i x).profileLost d i).refLost d i
  if d.rwl then m.canonChanged else m

/-- Everything an accepted write of a parameter does to the module; its value goes into the written store
beside it, and into the areas of R99. -/
def Mod.paramWritten (m : Mod) (d : PDef) (i : Nat) (x : Int) : Mod :=
  let m := m.paramTaken d i x
  let m := if d.isCalib then m.calSave else m
  m.cfgSave

/-- A ring command that may change written parameter values. -/
def Mod.cmdPar (m : Mod) (st : PStore) (h : Hdr) (d : Desc) (accept : Mode → Bool)
    (body : PStore → Mod → PStore × Mod × Option Reply) : PStore × Mod :=
  if m.alive && m.mayRun h d then
    let m := m.begin h
    if accept m.md then
      match body st m with
      | (st', m', some r) => (st', m'.complete h r)
      | (st', m', none) => (st', m')
    else (st, m.complete h (refuse 0x2101))
  else (st, m)

def State.ringPar (s : State) (h : Hdr) (d : Desc) (accept : Mode → Bool)
    (body : PStore → Mod → PStore × Mod × Option Reply) : Out :=
  let x := s.m.cmdPar s.par h d accept body
  s.put s.boot x.1 x.2

end Sys2Proof.Machine
end

