-- ==== Sys2Proof/Machine/FabOps.lean ====
section
/-! DEFINITION. The Wegato fabric (12_fabric_time.md): versions, the black channel, receive buffers, the map
and its addresses, sessions, and the servo's arithmetic. -/
namespace Sys2Proof.Machine

def Mod.onFab (m : Mod) (f : FabSt → FabSt) : Mod := { m with fab := f m.fab }
def Mod.onTime (m : Mod) (f : TimeSt → TimeSt) : Mod := { m with time := f m.time }
def Mod.fport (m : Mod) (k : Nat) : FabPort := m.fab.ports.getD (k - 1) FabPort.reset
def Mod.onFport (m : Mod) (k : Nat) (f : FabPort → FabPort) : Mod :=
  m.onFab (fun x => { x with ports := upd x.ports (k - 1) f })

def sat16 (n : Nat) : Nat := min n 0xFFFF
def sat32 (n : Nat) : Nat := min n 0xFFFFFFFF

/-! ### Versions (R120, R121) -/

/-- What a side speaks: its major, that major's highest minor, and the highest minor of the major before. -/
structure Speaks where
  major : Nat
  minor : Nat
  prev : Option Nat

/-- The own versions of protocols 0 to 5 (R120). -/
def ownVer (p : Nat) : Speaks :=
  if p = 0 then ⟨2, 3, some 4⟩
  else if p ≤ 2 then ⟨1, 4, none⟩
  else if p = 3 then ⟨1, 2, none⟩
  else if p = 4 then ⟨3, 1, some 6⟩
  else ⟨2, 0, some 3⟩

/-- The highest minor of a major, if the side speaks it. -/
def Speaks.minorOf (x : Speaks) (major : Nat) : Option Nat :=
  if major = x.major then some x.minor
  else if major + 1 = x.major then x.prev
  else none

/-- The highest common major with the lower of the two highest minors (R121). -/
def negotiate (x y : Speaks) : Option (Nat × Nat) :=
  [x.major, x.major - 1].findSome? (fun j => match x.minorOf j, y.minorOf j with
    | some a, some b => some (j, min a b)
    | _, _ => none)

def Mod.setNeg (m : Mod) (p : Nat) (v : Option (Nat × Nat)) : Mod :=
  { m with host := { m.host with neg := upd m.host.neg p (fun _ => v) } }

/-! ### Sending (R420, R421, R437) -/

/-- The next number of a list of counters by TYPE. -/
def nextOf (l : List (Nat × Nat)) (t : Nat) : Nat × List (Nat × Nat) :=
  match l.find? (fun x => x.1 == t) with
  | some (_, n) => (n + 1, l.map (fun x => if x.1 = t then (t, n + 1) else x))
  | none => (0, l ++ [(t, 0)])

/-! ### Receiving (R431, R437 to R439) -/

def isSafe (f : Frame) : Bool := bit f.flags 0
def isTrusted (f : Frame) : Bool := bit f.flags 1

/-- The 16 bytes of a frame's header (R420). -/
def frameHead (f : Frame) : List Byte :=
  leBytes 1 f.version ++ leBytes 1 f.type ++ leBytes 2 (f.origin % 512 + 32768 * b2n f.noAddr) ++ leBytes 2 f.dest
    ++ leBytes 1 f.hops ++ leBytes 1 f.flags ++ leBytes 4 f.seq ++ leBytes 2 f.payload.length ++ leBytes 2 0

/-- Bytes 0 to 15 of the trailer (R437). -/
def frameTail (f : Frame) : List Byte :=
  leBytes 2 f.epoch ++ leBytes 2 0 ++ leBytes 4 f.safeSeq ++ leBytes 4 f.tsNs ++ leBytes 4 f.tsSec

/-- Bytes the SAFE_CRC runs over: FABRIC_ID, header bytes 1 to 15, the payload, trailer bytes 0 to 15 (R438).
 (Assumption 100 PRESUMED) -/
def safeBytes (f : Frame) (fabricId : Nat) : List Byte :=
  leBytes 4 fabricId ++ (frameHead f).drop 1 ++ f.payload ++ frameTail f

/-- A frame as it stands after the tag (R420, R437). -/
def frameBytes (f : Frame) : List Byte :=
  frameHead f ++ f.payload ++ (if bit f.flags 0 then frameTail f ++ leBytes 4 f.safeCrc.toNat else [])

/-- CRC-32 with polynomial 0xF4AC_FB13, bits taken least significant first. (Assumption 100 PRESUMED) -/
def safeCrc (b : List Byte) : BitVec 32 :=
  ~~~ (b.foldl (fun c x => crcBits 0xC8DF352F#32 8 (c ^^^ (x.setWidth 32))) 0xFFFFFFFF#32)

/-- The 802.1Q priority of a frame the module sends (R421). -/
def framePcp (type : Nat) (safe : Bool) : Nat :=
  if 0x30 ≤ type then 6
  else if 0x20 ≤ type then 1
  else if 0x10 ≤ type then (if safe then 6 else if type = 0x10 then 5 else if type = 0x11 then 4 else 2)
  else 3

/-- Payload bytes of a frame: a publication lists point numbers in 2 bytes and values in 4 (R435).
 (Assumption 147 DESIGN CHOICE) -/
def framePayload (type : Nat) (body : List Int) : List Byte :=
  if 0x10 ≤ type ∧ type ≤ 0x12 then
    (body.zip (upto body.length)).flatMap (fun x => if x.2 % 2 = 0 then leBytes 2 x.1.toNat else le4 x.1)
  else Config.frameBody type body

def Mod.route (m : Mod) (a : Nat) : Option Route := m.fab.routes.find? (fun e => e.addr == a)

/-- The ports a frame leaves by: both for all modules and for every transaction message, the routed one for a frame to one
module (R429, R431, R471). (Assumption 101 DEDUCED) -/
def Mod.egress (m : Mod) (type dest : Nat) : Nat :=
  if dest = 0xFFFF ∨ 0x30 ≤ type then 3
  else match m.route dest with
    | some r => if r.f2 then 2 else 1
    | none => 3

/-- The frame a port sends: header and trailer fields (R420, R437). (Assumption 147 DESIGN CHOICE) -/
def Mod.outFrame (m : Mod) (type dest flags sq ss : Nat) (body : List Int) : Frame :=
  { version := 0x14, type := type, origin := m.fab.addr.getD 0, noAddr := m.fab.addr.isNone, dest := dest, hops := 255,
    flags := flags, seq := sq, payload := framePayload type body, epoch := m.fab.epoch, safeSeq := ss,
    tsNs := (m.now % 1000000000).toNat, tsSec := (m.now / 1000000000 % 4294967296).toNat, safeCrc := 0#32 }

/-- The trailer of a black-channel frame as both ports send it, F2's copy with bit 2 of FLAGS set (R420, R437, R438). -/
def Mod.trailer (m : Mod) (type dest flags sq ss : Nat) (body : List Int) : List Nat :=
  let f := m.outFrame type dest flags sq ss body
  let crc (f : Frame) : Nat := (safeCrc (safeBytes f (m.pn P.fabricId 0))).toNat
  [f.epoch, f.safeSeq, f.tsNs, f.tsSec, crc f, crc { f with flags := flags + 4 }]

/-- A frame leaves on the ports that are up: its header fields SEQ, FLAGS, EPOCH and SAFE_SEQ stand first. -/
def Mod.sendFrame (m : Mod) (type dest : Nat) (safe : Bool) (body : List Int) : Mod :=
  let (sq, l) := nextOf m.fab.seqTx type
  let (ss, l2) := if safe then nextOf m.fab.safeTx type else (0, m.fab.safeTx)
  let link := m.egress type dest
  let flags := b2n safe + 2 * b2n m.trusted
  let out := (m.send link type dest
    ([(sq : Int), (flags : Int), (m.fab.epoch : Int), (ss : Int)] ++ body)
    (if safe then m.trailer type dest flags sq ss body else []))
  out.onFab (fun x => { x with
    seqTx := l, safeTx := l2,
    ports := (x.ports.zip [1, 2]).map (fun q => if q.1.up && q.1.ver.isSome && (link == 3 || link == q.2)
      then { q.1 with txFrames := sat32 (q.1.txFrames + 1) } else q.1) })

/-- Fabric time of sending, near the present: the trailer holds the seconds modulo 2^32. -/
def Mod.sentAt (m : Mod) (f : Frame) : Int :=
  let s := m.now / 1000000000
  let d := ((f.tsSec : Int) - s + 2147483648) % 4294967296 - 2147483648
  (s + d) * 1000000000 + f.tsNs

/-- The first check of R439 that fails; `lim` is the closing age in ns of the half-open age window (R7).
 (Assumption 131 DEDUCED) -/
def Mod.bcFault (m : Mod) (f : Frame) (lim : Int) : Option Nat :=
  let age := m.now - m.sentAt f
  if safeCrc (safeBytes f (m.pn P.fabricId 0)) ≠ f.safeCrc then some 1
  else if !isTrusted f || !m.trusted then some 2
  else if age < -50000 ∨ lim ≤ age then some 3
  else match m.fab.safeAcc.find? (fun x => x.1 == f.origin && x.2.1 == f.type) with
    | some (_, _, e, q) => if e = f.epoch ∧ f.safeSeq ≤ q then some 4 else none
    | none => none

/-- The black-channel check: an accepted frame advances the sequence, a rejected one is counted and
reported at most once per second per origin. -/
def Mod.bcTake (m : Mod) (f : Frame) (lim : Int) : Mod × Bool :=
  match m.bcFault f lim with
  | none =>
    let l := m.fab.safeAcc.filter (fun y => !(y.1 == f.origin && y.2.1 == f.type))
    (m.onFab (fun x => { x with safeAcc := l ++ [(f.origin, f.type, f.epoch, f.safeSeq)] }), true)
  | some k =>
    let m := m.onFab (fun x => { x with bcReject := sat32 (x.bcReject + 1) })
    let due := match m.fab.bcAt.find? (fun x => x.1 == f.origin) with
      | some (_, t) => decide (t + SEC ≤ m.raw)
      | none => true
    if due then
      ((m.onFab (fun x => { x with bcAt := x.bcAt.filter (fun y => y.1 != f.origin) ++ [(f.origin, m.raw)] })).raise
        0x7009 f.origin [k], false)
    else (m, false)

/-- The first copy of an ORIGIN, TYPE and SEQ is taken, a second one discarded, and a frame of this module's
own origin too. -/
def Mod.firstCopy (m : Mod) (f : Frame) : Mod × Bool :=
  if f.noAddr || decide (m.fab.addr = some f.origin) || m.fab.seen.contains (f.origin, f.type, f.seq) then (m, false)
  else (m.onFab (fun x => { x with seen := x.seen.drop (x.seen.length - 4095) ++ [(f.origin, f.type, f.seq)] }), true)

/-- Take the oldest buffered frame of a PCP out of a receive buffer: F1's, else F2's. -/
def dropPcp (pcp : Nat) : List (Nat × Nat) → Option (List (Nat × Nat))
  | [] => none
  | x :: r => if x.1 = pcp then some r else (dropPcp pcp r).map (fun l => x :: l)

def Mod.unbuf (m : Mod) (pcp : Nat) : Mod :=
  match dropPcp pcp (m.fport 1).buf with
  | some l => m.onFport 1 (fun q => { q with buf := l })
  | none => (match dropPcp pcp (m.fport 2).buf with
    | some l => m.onFport 2 (fun q => { q with buf := l })
    | none => m)

/-! ### Receive buffers (R423) -/

def bufBytes (l : List (Nat × Nat)) (f : Nat → Bool) : Nat :=
  (l.filter (fun x => f x.1)).foldl (fun n x => n + x.2) 0

/-- 256 KB with 16 KB kept for PCP 7 and 32 KB for PCP 6. -/
def bufFits (l : List (Nat × Nat)) : Bool :=
  decide (bufBytes l (fun c => decide (c < 6)) + max 32768 (bufBytes l (fun c => c == 6))
    + max 16384 (bufBytes l (fun c => c == 7)) ≤ 262144)

/-- The lowest PCP buffered below one. -/
def lowestPcp (l : List (Nat × Nat)) (below : Nat) : Option Nat :=
  (upto below).find? (fun c => l.any (fun x => x.1 == c))

/-- Count a discard and report it at most once per second per PCP. -/
def Mod.rxDrop (m : Mod) (pcp : Nat) : Mod :=
  let m := m.onFab (fun x => { x with
    drops := upd x.drops pcp (fun n => sat32 (n + 1)), dropSec := upd x.dropSec pcp (· + 1) })
  let due := match m.fab.dropAt.getD pcp none with
    | some t => decide (t + SEC ≤ m.raw)
    | none => true
  if due then
    let n := m.fab.dropSec.getD pcp 0
    (m.onFab (fun x => { x with
      dropSec := upd x.dropSec pcp (fun _ => 0), dropAt := upd x.dropAt pcp (fun _ => some m.raw) })).raise 0x7007 0 [pcp, n]
  else m

/-- Buffer a frame of one port, discarding older frames of lower priority for it; `k` bounds them. -/
def Mod.bufPut (m : Mod) (port pcp len : Nat) : Nat → Mod
  | 0 => m.rxDrop pcp
  | k + 1 =>
    let l := (m.fport port).buf
    if bufFits (l ++ [(pcp, len)]) then m.onFport port (fun q => { q with buf := l ++ [(pcp, len)] })
    else match lowestPcp l pcp with
      | some c => ((m.onFport port (fun q => { q with buf := (dropPcp c l).getD l })).rxDrop c).bufPut port pcp len k
      | none => m.rxDrop pcp

/-! ### The map (R425 to R429) -/

/-- This module's own topology record: addressing and anchor settings in force, its neighbours. -/
def Mod.ownRec (m : Mod) : TopoRec :=
  { serial := m.id.serial,
    fixedAddr := if m.p P.addrMode 0 = 1 then some (m.pn P.fixedAddr 0) else none,
    anchorEnable := decide (m.p P.anchorEnable 0 = 1), anchorPriority := m.pn P.anchorPriority 0,
    anchorBase := m.pn P.anchorBase 0,
    n1 := (m.fport 1).neighSerial, n2 := (m.fport 2).neighSerial }

def Mod.recOf (m : Mod) (sn : Nat) : Option TopoRec :=
  if sn = m.id.serial then some m.ownRec else m.fab.recs.find? (fun r => r.serial == sn)

/-- The modules reached from `cur`, entered from `prev`, until the end of the line or the module `stop`;
whether `stop` was reached. -/
def Mod.walk (m : Mod) (stop prev cur : Nat) : Nat → List TopoRec × Bool
  | 0 => ([], false)
  | k + 1 =>
    if cur = stop then ([], true)
    else match m.recOf cur with
      | none => ([], false)
      | some r =>
        let next := if r.n1 = some prev then r.n2 else r.n1
        match next with
        | some n => let (l, c) := m.walk stop cur n k; (r :: l, c)
        | none => ([r], false)

/-- The modules after one through its F2, whether they close a ring, which needs a neighbour at both its ports, and those
through its F1 of a line. -/
def Mod.chains (m : Mod) (r : TopoRec) : List TopoRec × Bool × List TopoRec :=
  let (a, back) := match r.n2 with
    | some n => m.walk r.serial r.serial n 600
    | none => ([], false)
  let ring := back && r.n1.isSome
  let b := match r.n1 with
    | some n => if ring then [] else (m.walk r.serial r.serial n 600).1
    | none => []
  (a, ring, b)

/-- The map, the own module first. -/
def Mod.map (m : Mod) : List TopoRec := let (a, _, b) := m.chains m.ownRec; m.ownRec :: a ++ b

/-- The anchor of the map (R426): the highest priority, the lowest serial number on a tie. -/
def Mod.anchor (m : Mod) : Option TopoRec :=
  m.map.foldl (fun b r =>
    if r.anchorEnable then (match b with
      | none => some r
      | some x => if x.anchorPriority < r.anchorPriority ∨ (x.anchorPriority = r.anchorPriority ∧ r.serial < x.serial)
          then some r else some x)
    else b) none

/-- The modules in the order of their positions from the anchor. (Assumption 101 DEDUCED) -/
def Mod.positions (m : Mod) (a : TopoRec) : List TopoRec := let (x, _, y) := m.chains a; a :: x ++ y

/-- What a completed discovery gives a module: an address, none with a conflict, none beyond the limit, or
its address as before. -/
inductive AddrRes where
  | gets (a : Nat)
  | conflict (a : Nat)
  | limit (pos : Nat)
  | keeps

/-- Position of a serial number in a list. -/
def posOfSerial (l : List TopoRec) (sn : Nat) : Nat := (l.takeWhile (fun r => r.serial != sn)).length

/-- (Assumption 101 DEDUCED) -/
def Mod.addrOf (m : Mod) (r : TopoRec) : AddrRes :=
  let fixedOf (a : Nat) : Nat := (m.map.filter (fun x => x.fixedAddr == some a)).length
  match r.fixedAddr with
  | some a => if 2 ≤ fixedOf a then .conflict a else .gets a
  | none => (match m.anchor with
    | none => .keeps
    | some n =>
      let k := posOfSerial (m.positions n) r.serial
      let a := (n.anchorBase + k) % 512
      if 512 ≤ k then .limit k else if fixedOf a ≠ 0 then .conflict a else .gets a)

/-- The routing entries of R429: the port with the fewer hops, F2 on a tie. (Assumption 101 DEDUCED) -/
def Mod.routesNow (m : Mod) : List Route :=
  let (a, ring, b) := m.chains m.ownRec
  let n := a.length
  let entry (r : TopoRec) (f2 : Bool) (hops : Nat) : Option Route :=
    match m.addrOf r with
    | .gets x => some ⟨x, r.serial, f2, hops⟩
    | .keeps => (m.fab.routes.find? (fun e => e.serial == r.serial)).map (fun e => ⟨e.addr, r.serial, f2, hops⟩)
    | _ => none
  let up := (a.zip (upto n)).filterMap (fun (x : TopoRec × Nat) =>
    if ring && decide (n - x.2 < x.2 + 1) then entry x.1 false (n - x.2) else entry x.1 true (x.2 + 1))
  let down := (b.zip (upto b.length)).filterMap (fun (x : TopoRec × Nat) => entry x.1 false (x.2 + 1))
  up ++ down

/-- A discovery starts (R425): the parameters of the next discovery come into force. -/
def Mod.startDisc (m : Mod) : Mod :=
  (m.takeDue (fun d _ => decide (d.eff = .discovery))).onFab (fun x => { x with disc := 1, changedAt := m.raw })

/-- Flood the own topology record. -/
def Mod.floodRec (m : Mod) : Mod :=
  let r := m.ownRec
  let o (x : Option Nat) : Int := match x with
    | some n => n
    | none => -1
  m.sendFrame 0x02 0xFFFF false [r.serial, o r.fixedAddr, b2n r.anchorEnable, r.anchorPriority, r.anchorBase, o r.n1, o r.n2]

/-! ### Publications (R435) -/

/-- The delay of this module within each class period. -/
def Mod.pubDelay (m : Mod) : Int := ((m.fab.addr.getD 0 % 64) * 10000 : Nat)

/-- Count the sending instants from the present on. -/
def Mod.pubRestart (m : Mod) : Mod :=
  m.onFab (fun x => { x with pubNext := [1, 2, 3].map (fun c => (m.now - m.pubDelay) / classPeriod c + 1) })

/-! ### Sessions (R441) -/

def Mod.session (m : Mod) (k : Nat) : Sess := m.fab.sess.getD k Sess.reset
def Mod.onSess (m : Mod) (k : Nat) (f : Sess → Sess) : Mod := m.onFab (fun x => { x with sess := upd x.sess k f })

/-- Close a session: 1 close, 2 lost, 3 address change, 4 start, 5 host-link reset. Completions still
pending end with SESSION_LOST. -/
def Mod.closeSess (m : Mod) (k cause : Nat) : Mod :=
  let s := m.session k
  if s.used then
    let m := m.onSess k (fun _ => Sess.reset)
    let hs := s.opening.toList ++ s.tx.filterMap (fun x => x.hdr) ++ s.wait.map (fun x => x.2)
    let m := hs.foldl (fun m h => m.complete h (refuse 0x4801)) m
    m.raise 0x700E k [cause]
  else m

def Mod.closeAllSess (m : Mod) (cause : Nat) : Mod := (upto 64).foldl (fun m k => m.closeSess k cause) m

/-- A session frame: kind 0 data, 1 open, 2 close, 3 refused. (Assumption 105 DEDUCED) -/
def Mod.sendSess (m : Mod) (peer kind k seq : Nat) (data : List Byte) : Mod :=
  m.sendFrame 0x20 peer false ([(kind : Int), (k : Int), (seq : Int)] ++ data.map (fun b => (b.toNat : Int)))

/-- A new address, or none: sessions close, a new epoch begins, and the publication instants are counted
anew (R428, R437). -/
def Mod.setAddr (m : Mod) (a : Option Nat) : Mod :=
  if m.fab.addr = a then m
  else
    let old := m.fab.addr
    let o (x : Option Nat) : Int := (x.getD 0xFFFF : Nat)
    let m := (m.closeAllSess 3).onFab (fun x => { x with addr := a, epoch := (x.epoch + 1) % 65536, safeTx := [] })
    let m := m.pubRestart
    m.raise 0x7003 0 [o old, o a]

/-! ### Fabric time (R443 to R447) -/

/-- Trusted as R447 defines it. -/
def Mod.trustNow (m : Mod) : Bool :=
  m.time.alone || decide (m.time.sync = .locked)
    || (decide (m.time.sync = .holdover) && decide (m.raw < m.time.holdSince + 10 * SEC))

/-- Enter a sync state, with the event when the state or the trust changed. -/
def Mod.setSync (m : Mod) (st : SyncSt) : Mod :=
  let old := m.time.sync
  let was := m.time.trusted
  let m := m.onTime (fun t => { t with
    sync := st, good := if old = st then t.good else 0, bad := if old = st then t.bad else 0,
    holdSince := if st = .holdover ∧ old ≠ .holdover then m.raw else t.holdSince })
  let tr := m.trustNow
  let m := m.onTime (fun t => { t with trusted := tr })
  if old = st ∧ was = tr then m else m.raise 0x7010 0 [(syncNum st : Nat), b2n tr]

/-- The fabric holds no other module while neither port has a neighbour with a common version (R424, R447); the trust follows. -/
def Mod.seeNeighbours (m : Mod) : Mod :=
  let a := (m.fport 1).neighSerial.isNone && (m.fport 2).neighSerial.isNone
  if m.time.alone = a then m else (m.onTime (fun t => { t with alone := a })).setSync m.time.sync

/-- The grandmaster is lost. -/
def Mod.loseGm (m : Mod) : Mod :=
  match m.time.sync with
  | .acquiring => m.setSync .freeRunning
  | .locked => m.setSync .holdover
  | st => m.setSync st

/-- Put OFFSET and RATE_ADJ; a change of the rate alone keeps the present fabric time (R444).
 (Assumption 104 DEDUCED) -/
def Mod.setRate (m : Mod) (rate : Int) : Mod :=
  m.onTime (fun t => { t with rate := rate, offset := t.offset + ((m.raw : Int) * 5 * t.rate) / 4294967296 - ((m.raw : Int) * 5 * rate) / 4294967296 })

/-- The instants of timed load-switch commands of final bundles follow fabric time (R446). (Assumption 104 DEDUCED) -/
def Mod.retime (m : Mod) : Mod :=
  m.txn.ctx.foldl (fun m c =>
    if c.final && c.lateAt.isNone then c.acts.foldl (fun m a => match a with
      | .lsSet n _ => m.onLs n (fun x => { x with timed := x.timed.map (fun y => (y.1, max m.raw (rawAt m.time c.c))) })
      | _ => m) m
    else m) m

end Sys2Proof.Machine
end

