-- ==== Sys2Proof/Machine/Fabric.lean ====
section
/-! DEFINITION. The commands of 12_fabric_time.md: links, discovery, frames, publications, points, sessions,
fabric commands, and fabric time. -/
namespace Sys2Proof.Machine

/-! ### Links and topology -/

/-- FABRIC_LINK_UP (R424, R425): ports 1 and 2. -/
def execFabricLinkUp (port : Nat) (s : State) : Out :=
  s.live (fun m =>
    if (port = 1 ∨ port = 2) ∧ ¬ (m.fport port).up then
      ((m.onFport port (fun q => { q with up := true, badVer := none, lastHello := m.raw })).raise 0x7001 port [port, 1]).startDisc
    else m)

/-- A ring that a lost link has opened switches its table to the remaining direction (R430). -/
def Mod.failover (m : Mod) (port : Nat) : Mod :=
  if m.fab.topology = 2 ∧ !(m.chains m.ownRec).2.1 then
    (m.onFab (fun x => { x with topology := 1, routes := m.routesNow })).raise 0x7006 port [port, 0]
  else m

/-- FABRIC_LINK_LOSS (R430): the other port floods a record, a ring fails over, a discovery follows.
 (Assumption 101 DEDUCED) -/
def execFabricLinkLoss (port : Nat) (s : State) : Out :=
  s.live (fun m =>
    if (m.fport port).up then
      let m := m.onFport port (fun q => { q with
        up := false, ver := none, neighSerial := none, neighAddr := none, downCount := sat16 (q.downCount + 1) })
      let m := ((m.setNeg port none).raise 0x7001 port [port, 0]).seeNeighbours
      let m := m.floodRec
      (m.failover port).startDisc
    else m)

/-- FABRIC_HELLO_SEND (R424): each millisecond, on each port whose link is up. -/
def execFabricHelloSend (s : State) : Out :=
  s.live (fun m =>
    let m := m.advance (nextMul m.raw MS)
    let addr : Int := (m.fab.addr.getD 0xFFFF : Nat)
    let m := [1, 2].foldl (fun m k => if (m.fport k).up then
        m.send k 0x01 0xFFFF [m.id.serial, addr, b2n (m.fport 1).up, b2n (m.fport 2).up, 1, 4]
      else m) m
    m.onFab (fun x => { x with ports := x.ports.map (fun q => if q.up then { q with txFrames := sat32 (q.txFrames + 1) } else q) }))

/-- FABRIC_HELLO_RX (R121, R424): the version per port, the neighbour, and a record when it changed. -/
def execFabricHelloRx (port : Nat) (x : Hello) (s : State) : Out :=
  s.work 4 (fun m =>
    let m := m.unbuf 3
    if (m.fport port).up then
      let old := m.fport port
      let v := negotiate (ownVer port) ⟨x.major, x.minor, x.prevMinor⟩
      let m := m.onFport port (fun q => { q with
        ver := v, lastHello := m.raw, rxFrames := sat32 (q.rxFrames + 1),
        neighSerial := if v.isSome then some x.serial else none,
        neighAddr := if v.isSome then x.addr else none })
      let m := (m.setNeg port v).seeNeighbours
      let pv := x.major * 256 + x.minor
      let m := if v.isNone ∧ old.badVer ≠ some pv then
          (m.onFport port (fun q => { q with badVer := some pv })).raise 0x700A port [port, pv]
        else m
      if decide (old.neighSerial ≠ (m.fport port).neighSerial) then m.floodRec.startDisc else m
    else m)

/-- TOPOLOGY_RECORD_RX (R425, R430): a record that opens the ring makes every module fail over. -/
def execTopologyRecordRx (r : TopoRec) (s : State) : Out :=
  s.work 4 (fun m =>
    let m := m.unbuf 3
    if r.serial = m.id.serial then m
    else if m.fab.recs.contains r then m
    else
      let l := m.fab.recs.filter (fun x => x.serial != r.serial)
      let m := (m.onFab (fun x => { x with recs := l ++ [r] })).failover (if r.n1.isNone then 1 else 2)
      if m.fab.disc = 1 then m.onFab (fun x => { x with changedAt := m.raw }) else m.startDisc)

/-- The own address after a completed discovery (R426 to R428). (Assumption 101 DEDUCED) -/
def Mod.takeAddr (m : Mod) : Mod :=
  match m.addrOf m.ownRec with
  | .gets a => (m.onFab (fun x => { x with conflict := false })).setAddr (some a)
  | .conflict a =>
    let m := (m.onFab (fun x => { x with conflict := true })).setAddr none
    m.raise 0x7004 0 [a]
  | .limit k => ((m.onFab (fun x => { x with conflict := false })).setAddr none).raise 0x700B 0 [k]
  | .keeps => m.onFab (fun x => { x with conflict := false })

/-- Sessions whose peer a discovery has given another address close (R441). -/
def Mod.peersMoved (m : Mod) (old : List Route) : Mod :=
  (upto 64).foldl (fun m k =>
    match (if (m.session k).used then old.find? (fun e => e.addr == (m.session k).peer) else none) with
    | some e => (match m.fab.routes.find? (fun x => x.serial == e.serial) with
      | some x => if x.addr = e.addr then m else m.closeSess k 3
      | none => m)
    | none => m) m

/-- DISCOVERY_COMPLETE (R425 to R429): the map has not changed for 200 ms. -/
def execDiscoveryComplete (s : State) : Out :=
  s.live (fun m =>
    if m.fab.disc = 1 then
      let m := m.advance (m.fab.changedAt + 200 * MS)
      let (_, ring, _) := m.chains m.ownRec
      let n := m.map.length
      let an := m.anchor
      let rts := m.routesNow
      let old := m.fab.routes
      let m := if an.isNone then m.raise 0x7005 0 [] else m
      let m := m.takeAddr
      let anAddr : Nat := match an with
        | some r => (match m.addrOf r with
          | .gets a => a
          | _ => 0xFFFF)
        | none => 0xFFFF
      let m := m.onFab (fun x => { x with
        disc := 2, topology := if ring then 2 else 1, count := n, routes := rts,
        anchorSerial := (an.map (fun r => r.serial % 2 ^ 32)).getD 0,
        anchorSelf := decide ((an.map (fun r => r.serial)) = some m.id.serial) })
      let m := m.peersMoved old
      let m := m.raise 0x7002 0 [(m.fab.topology : Int), (n : Int), (anAddr : Int)]
      let done := m.host.ops.filter (fun o => o.kind == .discover)
      let m := m.dropOps (fun o => o.kind == .discover)
      done.foldl (fun m o => m.completeTo o.hdr { status := 0, res := n }) m
    else m)

/-- FABRIC_FRAME_ARRIVAL (R422, R423): forwarded, buffered or discarded. (Assumption 101 DEDUCED) -/
def execFabricFrameArrival (port pcp len : Nat) (f : Frame) (s : State) : Out :=
  s.live (fun m =>
    let q := m.fport port
    if !q.up then m
    else if 7 < pcp ∨ 1500 < len ∨ 255 < f.hops then m.onFport port (fun q => { q with rxErrors := sat32 (q.rxErrors + 1) })
    else
      let m := m.onFport port (fun q => { q with rxFrames := sat32 (q.rxFrames + 1) })
      let mine := decide (m.fab.addr = some f.dest)
      let other := 3 - port
      let o := m.fport other
      let m := if decide (0 < f.hops) && decide (f.type ≠ 1) && !mine && !(decide (m.fab.addr = some f.origin) && !f.noAddr)
          && o.up && o.ver.isSome && q.ver.isSome then
          (m.send other f.type f.dest [f.origin, f.hops - 1, f.seq]).onFport other (fun q => { q with txFrames := sat32 (q.txFrames + 1) })
        else m
      if mine || decide (f.dest = 0xFFFF) then m.bufPut port pcp len (q.buf.length + 1) else m)

/-! ### Publications and points -/

/-- The published points of a class with their values, SAFE or not, in rising number (R434, R435). -/
def Mod.pubPoints (m : Mod) (cls : Nat) (safe : Bool) : List (Nat × Int) :=
  (upto 512).filterMap (fun n =>
    let w := m.fab.pub.getD n 0
    let off := decide (0x100 ≤ n) && decide (n < 0x180) && !m.enabled ((n - 0x100) / 32)
    if w % 4 = cls ∧ bit w 2 = safe ∧ off = false then
      some (n, match m.fab.pubVals.find? (fun x => x.1 == n) with
        | some (_, v) => v
        | none => m.ownPoint n)
    else none)

/-- The frames of one kind at one sending instant, at most 244 points each; `k` bounds them. -/
def Mod.sendPub (m : Mod) (cls : Nat) (safe : Bool) : Nat → List (Nat × Int) → Mod
  | 0, _ => m
  | _ + 1, [] => m
  | k + 1, l =>
    let body : List Int := ((l.take 244).map (fun x => [(x.1 : Int), x.2])).flatten
    (m.sendFrame (0x0F + cls) 0xFFFF safe body).sendPub cls safe k (l.drop 244)

/-- PUBLICATION_SEND (R435): at the next sending instant of the class, or at once when it has passed. -/
def execPublicationSend (cls : Nat) (s : State) : Out :=
  s.live (fun m =>
    if (cls = 1 ∨ cls = 2 ∨ cls = 3) ∧ m.fab.addr.isSome then
      let p := classPeriod cls
      let k := m.fab.pubNext.getD (cls - 1) 0
      let t := k * p + m.pubDelay
      let m := if m.now < t then m.advance (rawAt m.time t) else m
      let m := m.onFab (fun x => { x with pubNext := upd x.pubNext (cls - 1) (fun _ => max (k + 1) ((m.now - m.pubDelay) / p + 1)) })
      (m.sendPub cls false 4 (m.pubPoints cls false)).sendPub cls true 4 (m.pubPoints cls true)
    else m)

/-- Points of a publication payload: 2 bytes of number, 4 bytes of value. -/
def pubBody : Nat → List Byte → List (Nat × Int)
  | 0, _ => []
  | k + 1, b => if b.length < 6 then [] else (ofLe (b.take 2), ofBits 32 (ofLe ((b.drop 2).take 4))) :: pubBody k (b.drop 6)

/-- The newest valid reception of a point strictly before the present instant. -/
def Mod.lastBefore (m : Mod) (mod pt : Nat) : Option Int :=
  match m.fab.image.find? (fun x => x.mod == mod && x.pt == pt) with
  | some x => if !x.ok then none else if x.time < m.now then some x.time else x.before
  | none => none

/-- PUBLICATION_RX (R431, R433, R439): delivered under class 2 where its points are SAFE, under class 4 otherwise (R27); until
then the frame waits in the receive buffer. -/
def execPublicationRx (f : Frame) (s : State) : Out :=
  s.work (if isSafe f then 2 else 4) (fun m =>
    if 0x10 ≤ f.type ∧ f.type ≤ 0x12 then
      let cls := f.type - 0x0F
      let m := m.unbuf (framePcp f.type (isSafe f))
      let (m, ok) := m.firstCopy f
      if !ok then m
      else
        let pts := pubBody 300 f.payload
        let (m, good) := if isSafe f then m.bcTake f (classPeriod cls + m.p P.safeAgeMargin 0 * 1000000) else (m, true)
        let keep := m.fab.image.filter (fun x => !(x.mod == f.origin && pts.any (fun y => y.1 == x.pt)))
        if good then
          let new := pts.map (fun y => (⟨f.origin, y.1, y.2, m.now, m.lastBefore f.origin y.1, cls, true⟩ : ImgPt))
          m.onFab (fun x => { x with image := keep ++ new })
        else m.onFab (fun x => { x with image := x.image.map (fun y =>
          if y.mod = f.origin ∧ pts.any (fun z => z.1 == y.pt) then { y with ok := false } else y) })
    else m)

/-- FABRIC_LOAD_MEASURE (R436): each second, in 0.1 %. -/
def execFabricLoadMeasure (load1 load2 : Nat) (s : State) : Out :=
  s.live (fun m =>
    let m := m.advance (nextMul m.raw SEC)
    [(1, load1), (2, load2)].foldl (fun m (x : Nat × Nat) =>
      let m := m.onFport x.1 (fun q => { q with load := x.2 })
      if 10 * m.pn P.fabricLoadWarn 0 < x.2 then m.raise 0x7008 x.1 [(x.1 : Int), (x.2 : Int)] else m) m)

/-- FABRIC_DISCOVER (R454). -/
def execFabricDiscover (h : Hdr) (s : State) : Out :=
  s.ring h descFabricDiscover Mode.comm (fun m =>
    if m.fab.disc = 1 then (m, some (refuse 0x2805))
    else match m.startLong (some h) .discover 0 with
      | (m', some r) => (m', some r)
      | (m', none) => (m'.startDisc, none))

def isHostPoint (pt : Nat) : Bool := decide (0x180 ≤ pt) && decide (pt < 0x200)

/-- POINT_WRITE (R454): the value holds from the next tick boundary. -/
def Mod.pointWrite (m : Mod) (pt : Nat) (v : Int) : Mod × Option Reply :=
  if isHostPoint pt then (m.onFab (fun x => { x with hostNext := x.hostNext ++ [(pt, v)] }), some okReply)
  else (m, some (refuse 0x1802))

def execPointWrite (h : Hdr) (pt : Nat) (v : Int) (s : State) : Out :=
  s.ring h (descPointWrite pt v) Mode.comm (fun m => if m.locked (.point pt) then m.hold (.pointWrite h pt v) else m.pointWrite pt v)

/-- POINT_READ (R433, R454): bit 31 of the selector names this module, whose absent portals have no points (R2). -/
def execPointRead (h : Hdr) (pt sel : Nat) (s : State) : Out :=
  s.ring h (descPointRead pt sel) Mode.reads (fun m =>
    if 512 ≤ pt ∨ (bit sel 31 ∧ 0x100 + 32 * InstK.portal.count m.id.part ≤ pt ∧ pt < 0x180) then (m, some (refuse 0x1004))
    else
      let (v, stale) := if bit sel 31 then (m.ownPoint pt, false) else m.point (sel % 512) pt
      (m, some { status := 0, res := res2 v (b2n stale) }))

/-- TOPOLOGY_READ (R454). -/
def execTopologyRead (h : Hdr) (len : Nat) (s : State) : Out :=
  s.ring h (descTopologyRead len) Mode.reads (fun m =>
    if len < 4096 then (m, some (refuse 0x1006))
    else
      let entry (a : Nat) : List Byte :=
        if m.fab.addr = some a then leBytes 4 (2 ^ 31) ++ leBytes 4 m.id.serial
        else match m.route a with
          | some r => leBytes 4 (2 ^ 31 + b2n r.f2 * 2 ^ 30 + r.hops % 1024) ++ leBytes 4 r.serial
          | none => leBytes 8 0
      (m, some { status := 0, buf := ((upto 512).map entry).flatten }))

/-! ### Sessions -/

/-- SESSION_OPEN (R441): it completes when the peer accepts. (Assumption 105 DEDUCED) -/
def execSessionOpen (h : Hdr) (peer : Nat) (s : State) : Out :=
  s.ring h (descSessionOpen peer) Mode.comm (fun m =>
    if m.fab.addr.isNone || (m.route peer).isNone then (m, some (refuse 0x2801))
    else match (upto 64).find? (fun k => !(m.session k).used) with
      | none => (m, some (refuse 0x2802))
      | some k =>
        let m := m.onSess k (fun _ => { Sess.reset with
          used := true, peer := peer, opening := some h, tx := [⟨0, [], m.raw, 0, none⟩], nextSeq := 1,
          rto := m.pn P.sessionRto 0, retryMax := m.pn P.sessionRetries 0 })
        (m.sendSess peer 1 k 0 [], none))

/-- A session in use, its opening accepted. -/
def Mod.sessUp (m : Mod) (k : Nat) : Bool := (m.session k).used && (m.session k).opening.isNone

/-- SESSION_SEND (R441): at most 8 unacknowledged messages; others wait. -/
def execSessionSend (h : Hdr) (sess : Nat) (data : List Byte) (s : State) : Out :=
  s.ring h (descSessionSend sess data) Mode.comm (fun m =>
    if 64 ≤ sess then (m, some (refuse 0x1004))
    else if !m.sessUp sess then (m, some (refuse 0x2803))
    else if data.isEmpty ∨ 4096 < data.length then (m, some (refuse 0x1803))
    else
      let x := m.session sess
      if x.tx.length < 8 ∧ x.wait.isEmpty then
        let m := m.onSess sess (fun q => { q with
          tx := q.tx ++ [⟨q.nextSeq, data, m.raw, 0, some h⟩], nextSeq := q.nextSeq + 1 })
        (m.sendSess x.peer 0 sess x.nextSeq data, none)
      else (m.onSess sess (fun q => { q with wait := q.wait ++ [(data, h)] }), none))

/-- SESSION_RECV (R454). -/
def execSessionRecv (h : Hdr) (sess len : Nat) (s : State) : Out :=
  s.ring h (descSessionRecv sess len) Mode.reads (fun m =>
    if 64 ≤ sess then (m, some (refuse 0x1004))
    else if !m.sessUp sess then (m, some (refuse 0x2803))
    else match (m.session sess).rx with
      | [] => (m, some (refuse 0x2804))
      | b :: r =>
        if len < 4096 then (m, some (refuse 0x1006))
        else (m.onSess sess (fun q => { q with rx := r }), some { status := 0, res := b.length, buf := b }))

/-- SESSION_CLOSE (R441). -/
def execSessionClose (h : Hdr) (sess : Nat) (s : State) : Out :=
  s.ring h (descSessionClose sess) Mode.comm (fun m =>
    if 64 ≤ sess then (m, some (refuse 0x1004))
    else if !(m.session sess).used then (m, some (refuse 0x2803))
    else ((m.sendSess (m.session sess).peer 2 sess 0 []).closeSess sess 1, some okReply))

/-- SESSION_DATA_RX (R441): 0 data, 1 open request, 2 close, 3 open refused. (Assumption 105 DEDUCED) -/
def execSessionDataRx (peer kind sess seq : Nat) (data : List Byte) (s : State) : Out :=
  s.work 4 (fun m =>
    let m := m.unbuf 1
    let x := m.session sess
    if kind = 1 then
      match (upto 64).find? (fun k => !(m.session k).used) with
      | some k =>
        let m := m.onSess k (fun _ => { Sess.reset with
          used := true, peer := peer, nextSeq := 1, rxSeq := 1,
          rto := m.pn P.sessionRto 0, retryMax := m.pn P.sessionRetries 0 })
        (m.sendFrame 0x21 peer false [(sess : Int), 0]).raise 0x700C k [peer]
      | none => m.sendSess peer 3 sess 0 []
    else if !x.used || decide (x.peer ≠ peer) then m
    else if kind = 2 then m.closeSess sess 1
    else if kind = 3 then
      match x.opening with
      | some h => (m.onSess sess (fun _ => Sess.reset)).complete h (refuse 0x2802)
      | none => m
    else if seq = x.rxSeq then
      (if x.rx.length < 16 then
        let m := m.onSess sess (fun q => { q with rx := q.rx ++ [data], rxSeq := q.rxSeq + 1 })
        (m.sendFrame 0x21 peer false [(sess : Int), (seq : Int)]).raise 0x700D sess [data.length]
      else m)
    else if seq < x.rxSeq then m.sendFrame 0x21 peer false [(sess : Int), (seq : Int)]
    else m)

/-- Send messages that wait while fewer than 8 are unacknowledged; `k` bounds them. -/
def Mod.sessPump (m : Mod) (sess : Nat) : Nat → Mod
  | 0 => m
  | k + 1 =>
    let x := m.session sess
    match x.wait with
    | (d, h) :: r =>
      if x.tx.length < 8 then
        let m := m.onSess sess (fun q => { q with
          wait := r, tx := q.tx ++ [⟨q.nextSeq, d, m.raw, 0, some h⟩], nextSeq := q.nextSeq + 1 })
        (m.sendSess x.peer 0 sess x.nextSeq d).sessPump sess k
      else m
    | [] => m

/-- SESSION_ACK_RX (R441): the open request, or a message. -/
def execSessionAckRx (sess seq : Nat) (s : State) : Out :=
  s.work 4 (fun m =>
    let m := m.unbuf 1
    let x := m.session sess
    if !x.used then m
    else match x.opening with
      | some h =>
        (m.onSess sess (fun q => { q with opening := none, tx := [], rxSeq := 1 })).complete h
          { status := 0, res := sess }
      | none => (match x.tx.find? (fun t => t.seq == seq) with
        | some t =>
          let m := m.onSess sess (fun q => { q with tx := q.tx.filter (fun y => y.seq != seq) })
          (m.completeTo t.hdr okReply).sessPump sess 8
        | none => m))

/-- SESSION_RTO_EXPIRY (R441): the oldest message is sent again, or the session is lost. -/
def execSessionRtoExpiry (sess : Nat) (s : State) : Out :=
  s.work 4 (fun m =>
    let x := m.session sess
    match x.tx with
    | t :: r =>
      let m := m.advance (t.sentAt + x.rto * MS)
      if t.retries < x.retryMax then
        let m := m.onSess sess (fun q => { q with tx := { t with sentAt := m.raw, retries := t.retries + 1 } :: r })
        m.sendSess x.peer (if x.opening.isSome then 1 else 0) sess t.seq t.data
      else m.closeSess sess 2
    | [] => m)

/-! ### Fabric commands (R442) -/

/-- FABRIC_COMMAND: 1 DORMANT, 2 WAKE. (Assumption 102 DEDUCED) -/
def execFabricCommand (h : Hdr) (dest cmd : Nat) (s : State) : Out :=
  s.ring h (descFabricCommand dest cmd) Mode.comm (fun m =>
    if cmd = 0 ∨ 2 < cmd then (m, some (refuse 0x1003))
    else if 512 ≤ dest ∧ dest ≠ 0xFFFF then (m, some (refuse 0x1003))
    else if m.fab.addr.isNone || (decide (dest ≠ 0xFFFF) && decide (m.fab.addr ≠ some dest) && (m.route dest).isNone) then
      (m, some (refuse 0x2801))
    else (m.sendFrame 0x03 dest true [cmd], some okReply))

/-- FABRIC_COMMAND_RX: DORMANT is a trigger judged once at the next period boundary, WAKE a wake of R103.
 (Assumption 102 DEDUCED) -/
def execFabricCommandRx (f : Frame) (cmd : Nat) (s : State) : Out :=
  s.work 2 (fun m =>
    let m := m.unbuf 3
    let (m, ok) := m.firstCopy f
    if !ok || decide (f.type ≠ 3) || !isSafe f then m
    else
      let (m, good) := m.bcTake f (m.p P.safeAgeMargin 0 * 1000000)
      if !good then m
      else if cmd = 1 then m.onFab (fun x => { x with dormantCmd := true })
      else if cmd = 2 ∧ m.md = .dormant ∧ m.mode.wake.isNone then
        { m with mode := { m.mode with wake := some .fabric } }
      else m)

/-! ### Fabric time (R443 to R448) -/

/-- The synchronisation interval as a power of two: T_S = 2^-k s. -/
def Mod.syncLog (m : Mod) : Nat := (-(m.p P.syncIntervalLog 0)).toNat

/-- A gain times an offset in ns over T_S, in 2^-32. (Assumption 104 DEDUCED) -/
def Mod.servoTerm (m : Mod) (k : Int) (o : Int) : Int :=
  roundDiv (k * o * 65536 * (2 ^ m.syncLog : Nat)) 1000000000

/-- (Assumption 104 DEDUCED) -/
def Mod.rateClamp (m : Mod) (x : Int) : Int :=
  let l := m.p P.rateLimit 0 * 4294967296 / 1000000
  clampI (-l) l x

/-- PTP_SYNC_RX (R444 to R447): `o` is local time minus master time in ns. (Assumption 104 DEDUCED) -/
def execPtpSyncRx (o : Int) (s : State) : Out :=
  s.live (fun m =>
    if m.time.profile = 0 ∨ m.time.self then m
    else
      let m := m.onTime (fun t => { t with lastMsg := m.raw, lastMeas := o })
      let before := m.now
      let m := if m.p P.stepThreshold 0 * 1000 < o.natAbs then
          let m := m.onTime (fun t => { t with offset := t.offset - o, jumps := t.jumps + 1 })
          (m.raise 0x700F 0 [o, before, m.now]).markCycles 4 none
        else
          let i := m.time.integral - m.servoTerm (m.p P.servoKi 0) o
          let m := m.onTime (fun t => { t with integral := i })
          m.setRate (m.rateClamp (i - m.servoTerm (m.p P.servoKp 0) o))
      let m := m.retime
      let m := m.onTime (fun t => { t with
        good := if o.natAbs < 200 then t.good + 1 else 0,
        bad := if 1000 < o.natAbs then t.bad + 1 else 0 })
      if m.time.sync = .locked ∧ 3 ≤ m.time.bad then m.setSync .acquiring
      else if m.time.sync = .acquiring ∧ 8 ≤ m.time.good then m.setSync .locked
      else m)

/-- GM_LOSS_TIMEOUT (R447): three intervals without a message. -/
def execGmLossTimeout (s : State) : Out :=
  s.live (fun m =>
    match m.time.gm with
    | some _ =>
      if m.time.self then m
      else
        let m := m.advance (m.time.lastMsg + 3 * SEC / 2 ^ m.syncLog)
        ((m.onTime (fun t => { t with gm := none })).loseGm).raise 0x7011 0 [0]
    | none => m)

/-- GM_SELECTED (R447, R448): a clock identity, of this module or another one, or none; without a profile the module takes part
in no choice. -/
def execGmSelected (id : Nat) (there self : Bool) (s : State) : Out :=
  s.live (fun m =>
    if m.time.profile = 0 then m else
    let gm := if there then some id else none
    let old := m.time.gm
    let was := m.time.sync
    let m := m.onTime (fun t => { t with gm := gm, self := self, lastMsg := m.raw })
    let m :=
      if self then m.setSync .locked
      else match gm with
        | some _ =>
          if was = .locked ∧ old = gm then m.setSync .locked
          else m.setSync .acquiring
        | none => m.loseGm
    if old = gm then m else m.raise 0x7011 0 [(gm.getD 0 % 2 ^ 48 : Nat)])

/-- HOLDOVER_TRUST_EXPIRY (R447). -/
def execHoldoverTrustExpiry (s : State) : Out :=
  s.live (fun m =>
    if m.time.sync = .holdover then (m.advance (m.time.holdSince + 10 * SEC)).setSync .holdover else m)

/-- FABRIC_COUNTER_CLEAR (R452). -/
def Mod.fabricClear (m : Mod) : Mod :=
  m.onFab (fun x => { x with
    ports := x.ports.map (fun q => { q with rxFrames := 0, txFrames := 0, rxErrors := 0, downCount := 0 }),
    drops := List.replicate 8 0, bcReject := 0 })

def execFabricCounterClear (s : State) : Out := s.live Mod.fabricClear

/-- PTP_MESSAGE_SEND (R448): 0 Sync and 1 Announce as master, 2 a delay request; stamped at the PHY. -/
def execPtpMessageSend (kind : Nat) (s : State) : Out :=
  s.live (fun m =>
    if m.time.profile = 0 ∨ (kind ≤ 1 ∧ ¬ m.time.self) then m
    else
      let m := m.advance (nextMul m.raw (SEC / 2 ^ m.syncLog))
      let m := m.onTime (fun t => { t with sent := t.sent.drop (t.sent.length - 15) ++ [(kind, m.now)] })
      m.send 3 (0x88F700 + kind) 0xFFFF [m.pn P.ptpDomain 0, m.now])

/-- PTP_DELAY_MESSAGE_RX (R448): kind 0 a request, answered with its receive time; kind 1 the answer with its four
time stamps, which gives the path delay. -/
def execPtpDelayMessageRx (kind : Nat) (t : List Int) (s : State) : Out :=
  s.live (fun m =>
    if m.time.profile = 0 then m
    else if kind = 0 then
      let m := m.onTime (fun x => { x with reqs := x.reqs.drop (x.reqs.length - 15) ++ [m.now] })
      m.send 3 0x88F703 0xFFFF [m.pn P.ptpDomain 0, m.now]
    else match t with
      | [t1, t2, t3, t4] => m.onTime (fun x => { x with delay := ((t4 - t1) - (t3 - t2)) / 2 })
      | _ => m)

end Sys2Proof.Machine
end

