-- ==== Sys2Proof/Machine/MotionCmd.lean ====
section
/-! DEFINITION. The commands of 06_motion_homing.md, and ENC_INDEX_CAPTURE, which homing uses. -/
namespace Sys2Proof.Machine

/-- Leave an item for the axis's next tick (R203, R223). -/
def Mod.arrive (m : Mod) (i : Nat) (x : Arr) : Mod := m.onAx i (fun a => { a with arr := a.arr ++ [x] })

/-- MOVE (R203, R209, R210, R465): refused at once, or left for the next tick boundary. -/
def Mod.moveCmd (m : Mod) (h : Hdr) (ax : Nat) (a : MoveArgs) : Mod × Option Reply :=
  match m.moveCheck ax false a with
  | some st => (m, some (refuse st))
  | none => (m.arrive ax (.move (.ring h) a none), none)

def execMove (h : Hdr) (ax : Nat) (a : MoveArgs) (s : State) : Out :=
  s.ring h (descMove ax a) Mode.active (onAxisCmd ax (fun m =>
    if m.locked (.axis ax) then m.hold (.move h ax a) else m.moveCmd h ax a))

/-- SET_MOTION_LIMITS (R215). -/
def Mod.limitsCmd (m : Mod) (h : Hdr) (ax : Nat) (l : LimitArgs) : Mod × Option Reply :=
  match m.limArgStatus ax l with
  | some st => (m, some (refuse st))
  | none => (m.arrive ax (.limits (.ring h) l), none)

def execSetMotionLimits (h : Hdr) (ax : Nat) (l : LimitArgs) (s : State) : Out :=
  s.ring h (descSetMotionLimits ax l) Mode.active (onAxisCmd ax (fun m =>
    if m.locked (.axis ax) then m.hold (.setMotionLimits h ax l) else m.limitsCmd h ax l))

/-- STOP (R217). -/
def Mod.stopCmd (m : Mod) (h : Hdr) (ax : Nat) : Mod × Option Reply := (m.arrive ax (.stop (.ring h)), none)

def execStop (h : Hdr) (ax : Nat) (s : State) : Out :=
  s.ring h (descStop ax) Mode.faultClear (onAxisCmd ax (fun m =>
    if m.locked (.axis ax) then m.hold (.stop h ax) else m.stopCmd h ax))

/-- An axis that is moving, or that a homing not yet ended covers (R224). -/
def Mod.homeBusy (m : Mod) (i : Nat) : Bool := m.moving i || (m.axis i).home.isSome || (m.homeOp i).isSome

/-- A homing speed, as the next homing takes it, above the ceiling of R204. -/
def Mod.homeTooFast (m : Mod) (i : Nat) : Bool :=
  let n := m.takeDue (fun d k => decide (d.eff = .homing) && decide (k = i))
  n.tooFast i (n.pn P.homeSpeed i) || n.tooFast i (n.pn P.homeCreepSpeed i)

/-- HOME (R193, R204, R224, R228, R229). -/
def Mod.homeCmd (m : Mod) (h : Hdr) (inst : Nat) (portal : Bool) : Mod × Option Reply :=
  let axes := m.homeAxes inst portal
  if axes.any (fun i => (m.axis i).fault.isSome) then (m, some (refuse 0x2202))
  else if axes.any m.homeBusy then (m, some (refuse 0x2204))
  else if axes.any (fun i => !m.homeFits i (m.nextMethod i)) then (m, some (refuse 0x1208))
  else if axes.any m.homeTooFast then (m, some (refuse 0x1205))
  else
    match m.startLong (some h) (.home inst portal) 0 with
    | (m', some r) => (m', some r)
    | (m', none) =>
      (match axes with
        | i :: _ => (m'.homeBegin i, none)
        | [] => (m'.dropOps (fun o => o.kind == .home inst portal), some okReply))

def execHome (h : Hdr) (inst : Nat) (portal : Bool) (s : State) : Out :=
  s.ring h (descHome inst portal) Mode.maint (fun m =>
    if (if portal then m.portals.contains inst else m.axes.contains inst) then
      (if (m.homeAxes inst portal).any (fun i => m.locked (.axis i)) then m.hold (.home h inst portal)
       else m.homeCmd h inst portal)
    else (m, some (refuse 0x1004)))

/-- A jog waits for the stop of the move it redirects (R232). -/
def Axis.jogWaits (a : Axis) : Bool := a.mv.any (fun x => x.next.any (fun n => n.jog.isSome))

/-- JOG (R232): a repeat refreshes a running jog of the same direction. -/
def Mod.jogCmd (m : Mod) (h : Hdr) (ax : Nat) (pos redirect : Bool) (speed : Nat) : Mod × Option Reply :=
  let a := m.axis ax
  if a.jogDir = some pos ∧ m.moving ax ∧ ((a.mv.map (fun x => x.stop)).join = none ∨ a.jogWaits) then
    (m.onAx ax (fun a => { a with jogAt := m.raw }), some okReply)
  else if m.pn P.jogSpeedMax ax < speed then (m, some (refuse 0x1207))
  else if m.tooFast ax (m.jogSpeed ax speed) then (m, some (refuse 0x1205))
  else match m.axisCheck ax false false with
    | some st => (m, some (refuse st))
    | none =>
      if m.moving ax && !redirect then (m, some (refuse 0x2205))
      else if a.stopping then (m, some (refuse 0x2206))
      else (m.arrive ax (.jog h pos redirect speed), none)

def execJog (h : Hdr) (ax : Nat) (pos redirect : Bool) (speed : Nat) (s : State) : Out :=
  s.ring h (descJog ax pos redirect speed) Mode.maint (onAxisCmd ax (fun m =>
    if m.locked (.axis ax) then m.hold (.jog h ax pos redirect speed) else m.jogCmd h ax pos redirect speed))

/-- POSITION_READ (R205, R234). -/
def execPositionRead (h : Hdr) (ax : Nat) (s : State) : Out :=
  s.ring h (descPositionRead ax) Mode.reads (onAxisCmd ax (fun m =>
    (m, some { status := 0, res := res2 (m.hostPos ax (m.axis ax).pcmd) (m.hostPos ax (m.pEnc ax)) })))

/-- AXIS_IN_POSITION (R211): raised once per move, once the error has stayed within the window. -/
def execAxisInPosition (ax : Nat) (s : State) : Out :=
  s.live (withAxis ax (fun m =>
    match (m.axis ax).inPosSince with
    | some t =>
      if !m.moving ax && !(m.axis ax).inPosRaised then
        let m := m.advance (t + m.pn P.inPosTime ax * MS)
        let m := m.onAx ax (fun a => { a with inPos := true, inPosRaised := true })
        m.raise 0x1022 ax [(m.axis ax).lastTag, m.inPosErr ax]
      else m
    | none => m))

/-- JOG_TIMEOUT (R232): the stop begins at the next tick. -/
def execJogTimeout (ax : Nat) (s : State) : Out :=
  s.live (withAxis ax (fun m =>
    let a := m.axis ax
    if a.jogDir.isSome && decide ((a.mv.map (fun x => x.stop)).join = none) && a.mv.isSome then
      (m.advance (a.jogAt + 500 * MS)).halt ax .jogTimeout false
    else m))

/-- HOME_ALIGN_HOLD_END (R226): Z_REF puts the rest point at address 0; `count` is read there. -/
def execHomeAlignHoldEnd (ax : Nat) (count : Int) (s : State) : Out :=
  s.live (withAxis ax (fun m =>
    match (m.axis ax).home with
    | some h =>
      if h.ph = .align then
        let m := m.advance (h.deadline.getD m.raw)
        let z := m.zRefFor ax count (m.axis ax).homeRef
        let m := m.onAx ax (fun a => { a with
          count := count, quad := { a.quad with n := count }, loopCount := count, zRef := z, align := true })
        let pe := m.pEnc ax
        let m := m.onAx ax (fun a => { a with pcmd := pe, pcmdPrev := pe, pos := pe * 65536 })
        m.onHome ax (fun h => { h with ph := .search, deadline := none, prevEnc := pe })
      else m
    | none => m))

/-- HOME_END_STOP_DETECTED (R225, R228): P_CMD becomes P_ENC, the search ends with reason 8. -/
def execHomeEndStopDetected (ax : Nat) (s : State) : Out :=
  s.live (withAxis ax (fun m =>
    let a := m.axis ax
    match a.home with
    | some h =>
      if a.endStopPhase && decide (m.pn P.homeStopTime ax ≤ h.stopTicks) then
        let pe := m.pEnc ax
        let m := m.onAx ax (fun a => { a with
          mv := none, pcmd := pe, pcmdPrev := pe, pos := pe * 65536, vel := 0, restAt := some m.raw })
        let m := m.moveEnd ax 0 8
        if h.method = 1 then m.homeTake ax h pe
        else
          let m := m.onHome ax (fun h => { h with
            ph := .confirm, ref := some pe, deadline := some (m.raw + m.pn P.homeConfirmTime ax * MS) })
          if m.homePair ax h.method then m.homeTake ax h pe else m
      else m
    | none => m))

/-- HOME_CONFIRM_TIMEOUT (R229, cause 2). -/
def execHomeConfirmTimeout (ax : Nat) (s : State) : Out :=
  s.live (withAxis ax (fun m =>
    match (m.axis ax).home with
    | some h =>
      if h.ph = .confirm then (m.advance (h.deadline.getD m.raw)).homeEnd ax (some 2) else m
    | none => m))

/-- HOME_TIMEOUT (R229, cause 4). -/
def execHomeTimeout (ax : Nat) (s : State) : Out :=
  s.live (withAxis ax (fun m =>
    match (m.axis ax).home with
    | some h => (m.advance (h.begun + m.pn P.homeTimeout ax * SEC)).homeEnd ax (some 4)
    | none => m))

/-- Whole revolutions within 4 counts (R183). -/
def wholeRevs (d : Int) (rev : Nat) : Bool := decide (rev = 0) || decide ((offRev d rev).natAbs ≤ 4)

/-- ENC_INDEX_CAPTURE (R183, R228): the check against the last capture of the same direction, and the
reference of method 3. -/
def execEncIndexCapture (ax : Nat) (count : Int) (revCounts : Nat) (s : State) : Out :=
  s.live (withAxis ax (fun m =>
    let a := m.axis ax
    let dir : Int := sgn a.vel
    let bad := match a.idxCap with
      | some (c, _) => decide (dir ≠ 0) && decide (dir = a.idxDir) && !wholeRevs (count - c) revCounts
      | none => false
    let m := m.onAx ax (fun a => { a with
      idxCap := some (count, m.raw), idxDir := dir,
      idxBad := if bad then a.idxBad + 1 else a.idxBad,
      idxBadAt := if bad then some m.raw else a.idxBadAt })
    let m := if bad then
        m.raise 0x100B ax [match a.idxCap with | some (c, _) => offRev (count - c) revCounts | none => 0]
      else m
    match (m.axis ax).home with
    | some h => if h.ph = .creepIndex then m.homeTake ax h (m.posOf ax count) else m
    | none => m))

end Sys2Proof.Machine
end

