-- ==== Sys2Proof/Machine/PortalCmd.lean ====
section
/-! DEFINITION. The commands of 07_portal_sequencing.md. -/
namespace Sys2Proof.Machine

/-- A row about a portal does nothing when the part has no such portal. (Assumption 128 DEDUCED) -/
def withPortal (p : Nat) (f : Mod → Mod) (m : Mod) : Mod := if m.portals.contains p then f m else m

/-- PORTAL_TIMER_EXPIRY (R247). -/
def execPortalTimerExpiry (p t : Nat) (s : State) : Out :=
  s.live (withPortal p (fun m =>
    match (m.portal p).timers.getD t .idle with
    | .running u => (m.advance u).setTimer p t .expired
    | _ => m))

/-- LOCK_CONFIRM_TIMEOUT (R252 rule 5). -/
def execLockConfirmTimeout (p : Nat) (s : State) : Out :=
  s.live (withPortal p (fun m =>
    match (m.portal p).lockWatch with
    | some (k, t) =>
      let m := m.advance (t + m.pn P.lockConfirmTime p * MS)
      if m.md.tables && !(decide (8 ≤ (m.portal p).state)) then
        ((m.onPo p (fun q => { q with lockWatch := none })).raise 0x2006 p [k]).portalFault p 4
      else m
    | none => m))

/-- STEP_CONFIRM_TIMEOUT (R254). -/
def execStepConfirmTimeout (p : Nat) (s : State) : Out :=
  s.live (withPortal p (fun m =>
    match (m.portal p).stepWatch, m.roleAxis p 2 with
    | some (k, t), some i =>
      let m := m.advance (t + m.pn P.stepConfirmTime p * MS)
      let m := m.onPo p (fun q => { q with stepBlocked := true, stepWatch := none })
      if k = 0 ∧ (m.axis i).inPos ∧ ¬ m.stepSw false p then m.raise 0x2008 p [m.hostPos i (m.pEnc i)] else m
    | _, _ => m))

/-- Put a table in place as written; it comes into force at once on a portal at rest (R248, R261). -/
def Mod.tableTake (m : Mod) (p : Nat) (t : List (List Nat)) : Mod :=
  let m := m.onPo p (fun q => { q with
    table := t, held := none, armed := List.replicate 64 true, prev := none })
  m.raise 0x200D p [((crc32 (rowBytes t)).toNat : Nat)]

/-- A table as written waits for its instant. -/
def Mod.tableHeld (m : Mod) (p : Nat) (t : List (List Nat)) : Mod := m.onPo p (fun q => { q with held := some t })

def Mod.tablePut (m : Mod) (p : Nat) (t : List (List Nat)) : Mod := (m.tableHeld p t).canonChanged.cfgSave

/-- LOAD_TEMPLATE (R260). -/
def Mod.loadTemplate (p n : Nat) (st : PStore) (m : Mod) : PStore × Mod × Option Reply :=
  if !m.portals.contains p then (st, m, some (refuse 0x1004))
  else if n = 0 ∨ 4 < n then (st, m, some (refuse 0x1303))
  else if !m.portalRest p then (st, m, some (refuse 0x2301))
  else
    let t := template n p (st.get P.portalLsMap p).toNat
    match tableFaultAt (st.tabCtx m.id.part p) 0 t with
    | some d => (st, m, some { status := 0x1301, detail := d })
    | none =>
      let st := st.set P.portalType p n
      let m := { m with live := m.live.set P.portalType p n }
      let m := m.tablePut p t
      let ok : Reply := { status := 0, res := (crc32 (rowBytes t)).toNat }
      if n = 4 then (st.set P.portalAutoOpen p 1, m.schedule P.portalAutoOpen p 1, some ok) else (st, m, some ok)

def execLoadTemplate (h : Hdr) (p n : Nat) (s : State) : Out :=
  s.ringPar h (descLoadTemplate p n) (fun md => decide (md = .commission)) (Mod.loadTemplate p n)

/-- PORTAL_RESET (R253, R255): in a portal in no state it may leave, the cause counts as present.
 (Assumption 74 DEDUCED) -/
def Mod.portalReset (m : Mod) (p : Nat) : Mod × Option Reply :=
  let st := (m.portal p).state
  let ok (m : Mod) : Mod × Option Reply :=
    let m := m.fromSensors p
    (m, some { status := 0, res := (m.portal p).state })
  if st = 9 then
    (if m.emergency false p ∨ m.md = .egress then (m, some (refuse 0x2302)) else ok m)
  else if st = 10 then
    (if (m.roleFault p).isSome || !m.portalRest p then (m, some (refuse 0x2302)) else ok m)
  else (m, some (refuse 0x2302))

/-- (Assumption 74 DEDUCED) -/
def execPortalReset (h : Hdr) (p : Nat) (s : State) : Out :=
  s.ring h (descPortalReset p) (fun md => md.faultClear || decide (md = .egress)) (onPortalCmd p (fun m =>
    if m.locked (.portal p) then m.hold (.portalReset h p) else m.portalReset p))

/-- PORTAL_REQUEST (R259): 0 open, 1 close. -/
def Mod.portalRequest (m : Mod) (p close : Nat) : Mod × Option Reply :=
  if 1 < close then (m, some (refuse 0x1003))
  else if close = 0 ∧ ¬ m.released p then (m, some (refuse 0x3301))
  else (m.press p (decide (close = 1)) 2 m.now, some okReply)

def execPortalRequest (h : Hdr) (p close : Nat) (s : State) : Out :=
  s.ring h (descPortalRequest p close) Mode.active (onPortalCmd p (fun m =>
    if m.locked (.portal p) then m.hold (.portalRequest h p close) else m.portalRequest p close))

/-- The sides of a mask: L bit 0, R bit 1. -/
def maskSides (mask : Nat) : List Side := (if bit mask 0 then [.L] else []) ++ (if bit mask 1 then [.R] else [])

/-- SIDE_RELEASE from a ring: only a withdrawal (R256, R258). -/
def Mod.sideWithdraw (m : Mod) (mask : Nat) (grant : Bool) : Mod × Option Reply :=
  if grant then (m, some (refuse 0x2303))
  else ((maskSides mask).foldl (fun m s => m.withdraw s 3) m, some okReply)

def execSideRelease (h : Hdr) (mask : Nat) (grant : Bool) (s : State) : Out :=
  s.ring h (descSideRelease mask grant) Mode.active (fun m =>
    if !grant && (maskSides mask).any (fun x => m.locked (.side x)) then m.hold (.sideRelease h mask grant)
    else m.sideWithdraw mask grant)

end Sys2Proof.Machine
end

