-- ==== Sys2Proof/Machine/Txn.lean ====
section
/-! DEFINITION. Hardware transactions (13_transactions.md): staging, commits, votes and decisions, the check at
K, the effect at C, outcomes. -/
namespace Sys2Proof.Machine

/-! ### The check of an action (R80, R210, R214, R215, R257, R259, R376, R464) -/

/-- Release pair and zero speed active in ACTIVE-CLOSED or ACTIVE-RELEASED (R257). (Assumption 106 DEDUCED) -/
def Mod.grantOk (m : Mod) (s : Side) : Bool :=
  m.relPair false s && m.zeroSpeed false && (decide (m.md = .activeClosed) || decide (m.md = .activeReleased))

/-- The modes that accept an action directly (R80). (Assumption 58 DEDUCED) -/
def actMode (md : Mode) : Action → Bool
  | .move _ _ => md.active
  | .setLimits _ _ => md.active
  | .stop _ => md.faultClear
  | .portalRequest _ _ => md.active
  | .sideRelease _ _ => md.active
  | .lsSet _ _ => md.faultClear
  | .pointWrite _ _ => md.comm
  | .other _ => false

/-- The first failure of an action checked as if it executed now; `table` is the portal whose sequence table
committed it. (Assumptions 58 DEDUCED, 106 DEDUCED) -/
def Mod.actFault (m : Mod) (table : Option Nat) (a : Action) : Option Nat :=
  let ax (i : Nat) (x : Option Nat) : Option Nat := if m.axes.contains i then x else some 0x1004
  match a with
  | .sideRelease mask true => if (maskSides mask).all m.grantOk then none else some 0x3301
  | _ =>
    if !actMode m.md a then some 0x2101
    else match a with
      | .move i x => ax i (m.moveCheck i (table.isSome && decide ((m.roleOf i).map (fun y => y.1) = table)) x)
      | .setLimits i l => ax i (if m.moving i then m.limArgStatus i l else some 0x2209)
      | .stop i => ax i none
      | .portalRequest p close =>
        if !m.portals.contains p then some 0x1004
        else if 1 < close then some 0x1003
        else if close = 0 ∧ ¬ m.released p then some 0x3301 else none
      | .sideRelease _ _ => none
      | .lsSet n st =>
        if 24 ≤ n then some 0x1004 else if 3 ≤ st then some 0x1003 else if m.lsOwned n then some 0x2601 else none
      | .pointWrite pt _ => if isHostPoint pt then none else some 0x1802
      | .other _ => some 0x2003

/-- The state a later check sees: what an action will have done to the axis or the side (R464). -/
def Mod.simAct (m : Mod) (craw : Nat) (a : Action) : Mod :=
  match a with
  | .move i x =>
    let n : Pend := ⟨m.moveTarget i x, m.qLim i (m.moveLim i x), .self, 0, false, false⟩
    m.onAx i (fun b => { b with mv := match b.mv with
      | none => some (startMove (craw * 65536) (b.pcmd * 65536) n)
      | some mv => some { mv with next := some n } })
  | .stop i => m.onAx i (fun b => { b with mv := b.mv.map (fun mv => { mv with next := none }) })
  | .sideRelease mask g =>
    (maskSides mask).foldl (fun m s => m.onSide s (fun x => { x with grant := g, released := g && m.grantOk s })) m
  | _ => m

/-- Plans that end by C are at rest there. -/
def Mod.restBy (m : Mod) (craw : Nat) : Mod :=
  { m with ax := m.ax.map (fun a => match a.mv with
    | some mv => if mv.ended craw then { a with mv := none, pcmd := roundDiv mv.rest 65536 } else a
    | none => a) }

/-- Index and status of the first failing action of a list. (Assumption 58 DEDUCED) -/
def Mod.actsFault (m : Mod) (craw : Nat) (table : Option Nat) : Nat → List Action → Option (Nat × Nat)
  | _, [] => none
  | k, a :: r =>
    match m.actFault table a with
    | some st => some (k, st)
    | none => (m.simAct craw a).actsFault craw table (k + 1) r

/-- The actions a fabric action stands for at this module (R461). -/
def Mod.fabActs (m : Mod) (f : FabAct) : List Action :=
  if f.kind = 1 then [.sideRelease (f.w7 % 4) (bit f.w7 8)]
  else if f.kind = 2 then [.pointWrite f.w7 f.w8]
  else
    let sides := maskSides f.w7
    (m.portals.filter (fun p => m.enabled p && sides.contains (m.sideOf p))).map (fun p => .portalRequest p (b2n (bit f.w7 8)))

def fabGrants (f : FabAct) : Bool := decide (f.kind = 1) && bit f.w7 8

/-- Everything a context applies here, with its index: the local actions, then the fabric actions. -/
def Mod.ctxItems (m : Mod) (x : Ctx) : List (Nat × List Action) :=
  (upto x.acts.length).zip (x.acts.map (fun a => [a]))
    ++ ((upto x.fab.length).map (· + x.acts.length)).zip (x.fab.map m.fabActs)

/-- The effects of every bundle already final for the same instant. -/
def Mod.simFinals (m : Mod) (c : Nat) (t : Int) (craw : Nat) : Mod :=
  let others := (upto 256).filter (fun k => decide (k ≠ c) && (m.ctx k).final && decide ((m.ctx k).c = t))
  others.foldl (fun m k => ((m.ctxItems (m.ctx k)).map (fun x => x.2)).flatten.foldl (fun m a => m.simAct craw a) m) (m.restBy craw)

/-! ### Outcomes (R459, R469) -/

/-- (Assumption 106 DEDUCED) -/
def ctxSerial (x : Ctx) : Int := match x.key with
  | some k => k.serial
  | none => 0
/-- (Assumption 106 DEDUCED) -/
def ctxCoord (x : Ctx) : Int := match x.key with
  | some k => k.coord
  | none => 0

def outcomePoint (st : Nat) : Nat := if st = 0 ∨ st = 0x41 then 1 else if st = 0x40 then 3 else 2

/-- Fix the outcome of a context. (Assumption 107 DEDUCED) -/
def Mod.txnOut (m : Mod) (c : Nat) (o : TxnOut) : Mod :=
  let x := m.ctx c
  let m := m.onCtx c (fun y => { y with
    st := if y.reusable then 1 else 7, out := some o, final := false, ackBy := none, lateAt := none, table := none })
  let m := match x.table with
    | some p => m.onPo p (fun q => { q with txnOutcome := outcomePoint o.status })
    | none => m
  m.raise 0x8001 c [ctxSerial x, ctxCoord x, o.status, min (o.late / 1000) 0xFFFF]

/-! ### Taking effect (R460, R465, R475, R477) -/

/-- Grant a side's release from an instant (R256, R257, R477). -/
def Mod.grant (m : Mod) (s : Side) (c : Nat) (x : Ctx) (t late : Int) : Mod :=
  if m.grantOk s then
    let m := m.onSide s (fun y => { y with
      grant := true, ctx := c, coord := match x.key with | some k => k.coord | none => 0xFFFF,
      serial := match x.key with | some k => k.serial | none => 0, late := (min (late / 1000) 0xFFFFFFFF).toNat })
    let m := m.evalSide s
    if (m.side.get s).released then m.raise 0x2003 (sideNum s) [t, c] else m
  else m.raise 0x2004 (sideNum s) [6]

/-- One action takes effect at R_RAW `craw`; a grant carries the commit instant (R264). -/
def Mod.actApply (m : Mod) (c : Nat) (x : Ctx) (tag craw : Nat) (late : Int) (a : Action) : Mod :=
  let src (i : Nat) : MSrc := .txn c (x.table.isSome && decide ((m.roleOf i).map (fun y => y.1) = x.table)) tag
  match a with
  | .move i v => m.arrive i (.move (src i) v (some craw))
  | .setLimits i l => m.arrive i (.limits (src i) l)
  | .stop i => m.arrive i (.stop (src i))
  | .portalRequest p close => m.press p (decide (close = 1)) 2 m.now
  | .sideRelease mask g =>
    (maskSides mask).foldl (fun m s => if g then m.grant s c x x.c late else m.withdraw s 3) m
  | .lsSet n st =>
    (m.onLs n (fun l => { l with cmd := st, dieCmd := if l.timed.isSome then st else l.dieCmd, timed := none })).lsDrive n
  | .pointWrite pt v => m.onFab (fun f => { f with host := upd f.host (pt - 0x180) (fun _ => v) })
  | .other _ => m

/-- A ring command that waited on a locked resource executes (R465). -/
def runHeld (i : Instr) (m : Mod) : Mod :=
  match i with
  | .move h ax a => m.cmdNow h Mode.active (onAxisCmd ax (fun m => m.moveCmd h ax a))
  | .setMotionLimits h ax l => m.cmdNow h Mode.active (onAxisCmd ax (fun m => m.limitsCmd h ax l))
  | .stop h ax => m.cmdNow h Mode.faultClear (onAxisCmd ax (fun m => m.stopCmd h ax))
  | .home h inst portal => m.cmdNow h Mode.maint (fun m => m.homeCmd h inst portal)
  | .jog h ax pos red sp => m.cmdNow h Mode.maint (onAxisCmd ax (fun m => m.jogCmd h ax pos red sp))
  | .phaseTest h ax => m.cmdNow h Mode.maint (onAxisCmd ax (fun m => m.phaseTest h ax))
  | .axisFaultClear h ax ok => m.cmdNow h Mode.faultClear (onAxisCmd ax (fun m => m.axisFaultClear ax ok))
  | .portalReset h p => m.cmdNow h (fun md => md.faultClear || decide (md = .egress)) (onPortalCmd p (fun m => m.portalReset p))
  | .portalRequest h p close => m.cmdNow h Mode.active (onPortalCmd p (fun m => m.portalRequest p close))
  | .sideRelease h mask g => m.cmdNow h Mode.active (fun m => m.sideWithdraw mask g)
  | .lsSet h n st => m.cmdNow h Mode.faultClear (fun m => m.lsSet n st)
  | .lsClear h n => m.cmdNow h Mode.faultClear (fun m => m.lsClear n)
  | .pointWrite h pt v => m.cmdNow h Mode.comm (fun m => m.pointWrite pt v)
  | _ => m

/-- What a waiting command locks on. -/
def Mod.heldRes (m : Mod) (i : Instr) : List Res :=
  match i with
  | .move _ ax _ => [.axis ax]
  | .setMotionLimits _ ax _ => [.axis ax]
  | .stop _ ax => [.axis ax]
  | .home _ inst portal => (m.homeAxes inst portal).map Res.axis
  | .jog _ ax _ _ _ => [.axis ax]
  | .phaseTest _ ax => [.axis ax]
  | .axisFaultClear _ ax _ => [.axis ax]
  | .portalReset _ p => [.portal p]
  | .portalRequest _ p _ => [.portal p]
  | .sideRelease _ mask _ => (maskSides mask).map Res.side
  | .lsSet _ n _ => [.ls n]
  | .lsClear _ n => [.ls n]
  | .pointWrite _ pt _ => [.point pt]
  | _ => []

/-- Commands and table actions whose resources no bundle locks any more execute in their order. -/
def Mod.freeHeld (m : Mod) : Mod :=
  let free (i : Instr) : Bool := (m.heldRes i).all (fun r => !m.locked r)
  let go := m.txn.held.filter free
  let m1 := m.onTxn (fun t => { t with held := t.held.filter (fun i => !free i) })
  let m2 := go.foldl (fun m i => runHeld i m) m1
  let word (m : Mod) (x : Nat × Nat × Nat) : Nat := ((rowActs ((m.tableOf x.1).getD x.2.1 [])).find? (fun y => y.1 == x.2.2)).elim 0 (fun y => y.2)
  let freeA (x : Nat × Nat × Nat) : Bool := (m.actRes x.1 (word m x)).all (fun r => !m.locked r)
  let acts := m2.txn.heldActs.filter freeA
  let m3 := m2.onTxn (fun t => { t with heldActs := t.heldActs.filter (fun x => !freeA x) })
  acts.foldl (fun m x => m.doAct x.1 x.2.1 x.2.2 (word m x)) m3

/-- The first grant of a local bundle whose conditions do not hold at the commit instant (R257). -/
def Mod.grantLost (m : Mod) (x : Ctx) : Option Nat :=
  if decide (x.st = 2) && x.key.isNone then
    ((upto x.acts.length).zip x.acts).findSome? (fun y => match y.2 with
      | .sideRelease mask true => if (maskSides mask).all m.grantOk then none else some y.1
      | _ => none)
  else none

/-- A local bundle fails at the commit instant: its timed commands are taken back, and nothing of it applies. -/
def Mod.ctxFail (m : Mod) (c k st : Nat) : Mod :=
  let m := (m.ctx c).acts.foldl (fun m a => match a with
    | .lsSet n _ => m.onLs n (fun l => { l with timed := none })
    | _ => m) m
  (m.txnOut c ⟨0x2909, k, st, 0⟩).freeHeld

/-- A final bundle takes effect: every action but the skipped ones, then the outcome, then what waited. -/
def Mod.ctxApply (m : Mod) (c : Nat) : Mod :=
  let x := m.ctx c
  match m.grantLost x with
  | some k => m.ctxFail c k 0x3301
  | none =>
  let late : Int := if x.lateAt.isSome then max 0 (m.now - x.c) else 0
  let items := (m.ctxItems x).filter (fun y => !(x.skips.any (fun z => z.1 == y.1)))
  let m := (items.map (fun y => y.2.map (fun a => (x.tags.getD y.1 0, a)))).flatten.foldl
    (fun m (y : Nat × Action) => m.actApply c x y.1 m.raw late y.2) m
  let st := if x.lateAt.isSome then 0x40 else if x.skips.isEmpty then 0 else 0x41
  let m := m.txnOut c ⟨st, x.skips.length, match x.skips with | y :: _ => y.2 | [] => 0, late⟩
  m.freeHeld

/-- Timed load-switch commands are sent at K (R375, R464). -/
def Mod.sendTimed (m : Mod) (c : Nat) (at_ : Nat) : Mod :=
  (m.ctx c).acts.foldl (fun m a => match a with
    | .lsSet n st =>
      let m := m.onLs n (fun l => { l with timed := some (st, at_) })
      if m.twinActive then m.sendTwin 9 n [st, at_] else m
    | _ => m) m

def Mod.nextOrder (m : Mod) : Mod := m.onTxn (fun t => { t with order := t.order + 1 })

/-- The check of one context: a local bundle becomes final or fails; under a commit decision failing actions
are skipped, but never a grant (R464, R477). -/
def Mod.ctxCheck (m : Mod) (c : Nat) (at_ : Nat) : Mod :=
  let x := m.ctx c
  let sim := m.simFinals c x.c at_
  if x.st = 2 then
    match sim.actsFault at_ x.table 0 x.acts with
    | some (k, st) => m.txnOut c ⟨0x2909, k, st, 0⟩
    | none =>
      let m := m.nextOrder
      (m.onCtx c (fun y => { y with final := true, order := m.txn.order })).sendTimed c at_
  else
    let bad (y : Nat × List Action) : Option (Nat × Nat) :=
      match (if y.2.any Action.isGrant then none else sim.actsFault at_ x.table 0 y.2) with
      | some (_, st) => some (y.1, st)
      | none => none
    let skips := (sim.ctxItems x).filterMap bad
    let m := m.onCtx c (fun y => { y with final := true, skips := skips })
    let m := skips.foldl (fun m y => m.raise 0x8004 c [ctxSerial x, ctxCoord x, y.1, y.2]) m
    m.sendTimed c at_

/-- Contexts in an order of R467. -/
def insertBy (x : Nat × Nat) : List (Nat × Nat) → List (Nat × Nat)
  | [] => [x]
  | y :: r => if x.1 < y.1 then x :: y :: r else y :: insertBy x r

def byOrder (l : List (Nat × Nat)) : List Nat := (l.foldl (fun r x => insertBy x r) []).map (fun x => x.2)

/-- Check a context and, before it, those of the same instant that were committed earlier. -/
def Mod.checkDue (m : Mod) (c : Nat) : Mod :=
  let x := m.ctx c
  let same := (upto 256).filter (fun k => let y := m.ctx k
    (decide (y.st = 2) || decide (y.st = 5)) && !y.final && decide (y.c = x.c) && decide (y.order ≤ x.order))
  (byOrder (same.map (fun k => ((m.ctx k).order, k)))).foldl (fun m k => m.ctxCheck k (rawAt m.time (m.ctx k).c)) m

/-- TXN_CHECK_INSTANT (R464, R467, R474). -/
def execTxnCheckInstant (c : Nat) (s : State) : Out :=
  s.live (fun m =>
    let x := m.ctx c
    if (x.st = 2 ∨ x.st = 5) ∧ ¬ x.final then (m.advance (rawAt m.time (x.c - 50000))).checkDue c else m)

/-! ### Messages (R471) -/

def keyBody (k : TxnKey) : List Int := [(k.coord : Int), (k.epoch : Int), (k.serial : Int)]

def Mod.sendVote (m : Mod) (k : TxnKey) (voter : Nat) (yes : Bool) (reason : Nat) : Mod :=
  m.sendFrame 0x31 k.coord true (keyBody k ++ [(voter : Int), (b2n yes : Int), (reason : Int)])

def Mod.sendDecision (m : Mod) (k : TxnKey) (commit : Bool) : Mod :=
  m.sendFrame 0x32 0xFFFF true (keyBody k ++ [(b2n commit : Int)])

def Mod.sendPrepare (m : Mod) (c : Nat) : Mod :=
  let x := m.ctx c
  match x.key with
  | some k => m.sendFrame 0x30 0xFFFF true (keyBody k ++ [x.c, x.v, x.q] ++ x.parts.map Int.ofNat
      ++ (x.fab.map (fun f => [(f.kind : Int), (f.w7 : Int), f.w8])).flatten)
  | none => m

def Mod.sendQuery (m : Mod) (c : Nat) : Mod :=
  let x := m.ctx c
  match x.key with
  | some k => (m.sendFrame 0x33 0xFFFF true (keyBody k ++ [(x.addr : Int)])).onCtx c (fun y => { y with queries := y.queries + 1 })
  | none => m

/-! ### TXN_COMMIT_INSTANT -/

/-- The instant C of one context: final actions take effect; without a decision querying begins (R462, R476). -/
def Mod.ctxInstant (m : Mod) (c : Nat) : Mod :=
  let x := m.ctx c
  if x.st = 4 then (m.onCtx c (fun y => { y with st := 6 })).sendQuery c
  else if x.st = 2 ∨ x.st = 5 then
    let m := if x.final then m else m.checkDue c
    let y := m.ctx c
    if !y.final || y.lateAt.isSome then m
    else
      let same := (upto 256).filter (fun k => let z := m.ctx k
        z.final && z.lateAt.isNone && decide (z.c = y.c) && decide (z.order ≤ y.order))
      (byOrder (same.map (fun k => ((m.ctx k).order, k)))).foldl (fun m k => if (m.ctx k).final then m.ctxApply k else m) m
  else m

/-- TXN_COMMIT_INSTANT (R460, R462, R465, R467, R477). -/
def execTxnCommitInstant (c : Nat) (s : State) : Out :=
  s.live (fun m =>
    let x := m.ctx c
    if x.st = 2 ∨ x.st = 4 ∨ x.st = 5 then (m.advance (rawAt m.time x.c)).ctxInstant c else m)

/-- TXN_LATE_APPLY (R475, R481). -/
def execTxnLateApply (c : Nat) (s : State) : Out :=
  s.live (fun m =>
    match (m.ctx c).lateAt with
    | some t => if (m.ctx c).final then (m.advance t).ctxApply c else m
    | none => m)

/-! ### The decision (R473 to R476) -/

def ctxNeg (detail : Nat) (result : Int) (status : Nat) : TxnOut := ⟨status, detail, result, 0⟩

/-- The coordinator decides abort. -/
def Mod.decideAbort (m : Mod) (c : Nat) (o : TxnOut) : Mod :=
  let x := m.ctx c
  match x.key with
  | some k =>
    let m := (m.onCtx c (fun y => { y with decision := some false })).sendDecision k false
    (m.raise 0x8003 c [ctxSerial x, ctxCoord x, 0, x.votes.length]).txnOut c o
  | none => m

/-- The commit decision is fixed and sent. -/
def Mod.decidedCommit (m : Mod) (c : Nat) : Mod :=
  let x := m.ctx c
  match x.key with
  | some k =>
    let m := m.nextOrder
    let m := m.onCtx c (fun y => { y with st := 5, decision := some true, ackBy := none, order := m.txn.order })
    (m.sendDecision k true).raise 0x8003 c [ctxSerial x, ctxCoord x, 1, x.votes.length]
  | none => m

/-- Every vote is yes: the decision is written to a configured twin first (R473). -/
def Mod.decideCommit (m : Mod) (c : Nat) : Mod :=
  if m.twinConf then
    match (m.ctx c).key with
    | some k => (m.onCtx c (fun y => { y with ackBy := some (m.raw + 100 * US) })).sendTwin 0x32 0 (keyBody k ++ [1])
    | none => m
  else m.decidedCommit c

/-- The coordinator looks at its votes. -/
def Mod.judgeVotes (m : Mod) (c : Nat) : Mod :=
  let x := m.ctx c
  match x.votes.find? (fun v => !v.2.1) with
  | some (a, _, r) => m.decideAbort c (ctxNeg a r 0x3901)
  | none => if x.parts.all (fun a => x.votes.any (fun v => v.1 == a)) then m.decideCommit c else m

/-- The first reason of R472 for a no. -/
def Mod.voteFault (m : Mod) (c : Int) (fab : List FabAct) (free : Bool) : Option Nat :=
  if !free then some 1
  else if !m.trusted then some 2
  else if m.md = .assembly ∨ m.md = .starting ∨ m.md = .dormant ∨ m.md = .safeHold ∨ m.md = .updatePause then some 3
  else if fab.any (fun f => fabGrants f && !((maskSides f.w7).all m.grantOk)) then some 4
  else if fab.any (fun f => decide (f.kind = 2) && !isHostPoint f.w7) then some 5
  else if c - m.now < 1000000 then some 6
  else none

/-- A participant learns the decision. -/
def Mod.learnDecision (m : Mod) (c : Nat) (commit : Bool) : Mod :=
  let x := m.ctx c
  if commit then
    let m := m.nextOrder
    let m := m.onCtx c (fun y => { y with st := 5, decision := some true, order := m.txn.order })
    let m := m.raise 0x8003 c [ctxSerial x, ctxCoord x, 1, x.votes.length]
    if m.now ≤ x.c - 50000 then m
    else (m.ctxCheck c (m.raw + 50 * US)).onCtx c (fun y => { y with lateAt := some (m.raw + 50 * US) })
  else
    let m := m.onCtx c (fun y => { y with decision := some false, acts := [], tags := [], fab := [] })
    (m.raise 0x8003 c [ctxSerial x, ctxCoord x, 0, x.votes.length]).txnOut c (ctxNeg 0 0 0x2906)

def Mod.ctxByKey (m : Mod) (k : TxnKey) (f : Ctx → Bool) : Option Nat :=
  (upto 256).find? (fun c => decide ((m.ctx c).key = some k) && f (m.ctx c))

/-! ### Commands (R458 to R470) -/

/-- TXN_OPEN (R459). -/
def execTxnOpen (h : Hdr) (reusable : Bool) (s : State) : Out :=
  s.ring h (descTxnOpen reusable) Mode.comm (fun m =>
    match (upto 256).find? (fun c => decide ((m.ctx c).st = 0)) with
    | some c => (m.onCtx c (fun _ => { Ctx.reset with st := 1, reusable := reusable }), some { status := 0, res := c })
    | none => (m, some (refuse 0x2901)))

/-- TXN_STAGE_ACTION (R81, R130, R458, R460). -/
def execTxnStageAction (h : Hdr) (c : Nat) (a : Action) (buf : Bool) (s : State) : Out :=
  s.ring h (descTxnStageAction c a buf) Mode.comm (fun m =>
    let can := match a with
      | .other _ => false
      | _ => true
    if (m.ctx c).st ≠ 1 ∨ can = false then (m, some (refuse 0x2003))
    else if buf then (m, some (refuse 0x1006))
    else if 64 ≤ (m.ctx c).acts.length then (m, some (refuse 0x2902))
    else (m.onCtx c (fun x => { x with acts := x.acts ++ [a], tags := x.tags ++ [h.tag] }), some okReply))

/-- A context command: an absent context is refused with INSTANCE_ABSENT. -/
def onCtxCmd (c : Nat) (f : Mod → Mod × Option Reply) (m : Mod) : Mod × Option Reply :=
  if c < 256 then f m else (m, some (refuse 0x1004))

/-- TXN_FABRIC_ACTION (R461). -/
def execTxnFabricAction (h : Hdr) (c : Nat) (a : FabAct) (s : State) : Out :=
  s.ring h (descTxnFabricAction c a) Mode.comm (onCtxCmd c (fun m =>
    if (m.ctx c).st ≠ 1 then (m, some (refuse 0x2903))
    else if a.kind = 0 ∨ 3 < a.kind ∨ 8 ≤ (m.ctx c).fab.length then (m, some (refuse 0x1903))
    else
      let m := m.onCtx c (fun x => { x with fab := x.fab ++ [a] })
      (m, some { status := 0, res := (m.ctx c).fab.length })))

def cReply (c : Int) : Reply := { status := 0, res := res2 (c % 1000000000) (c / 1000000000 % 4294967296) }

/-- TXN_COMMIT with FABRIC set (R470). (Assumption 106 DEDUCED) -/
def Mod.commitFabric (m : Mod) (c : Nat) (at? : Option Int) (parts : List Nat) : Mod × Option Reply :=
  let x := m.ctx c
  let lead := m.p P.txnFabricLead 0 * 1000000
  let t := at?.getD (m.now + lead)
  if x.st ≠ 1 then (m, some (refuse 0x2903))
  else if x.acts.isEmpty && x.fab.isEmpty then (m, some (refuse 0x1904))
  else match m.fab.addr with
    | none => (m, some (refuse 0x2801))
    | some own =>
      if !parts.contains own || parts.any (fun a => decide (a ≠ own) && (m.route a).isNone) then (m, some (refuse 0x1901))
      else if !m.trusted then (m, some (refuse 0x290B))
      else if t < m.now + lead ∨ m.now + m.p P.txnMaxLead 0 * SECns < t then (m, some (refuse 0x1902))
      else
        let key : TxnKey := ⟨own, m.fab.epoch, m.txn.serial⟩
        let fault := match m.voteFault t x.fab true with
          | some r => some r
          | none => if ((m.restBy (rawAt m.time t)).actsFault (rawAt m.time t) none 0 x.acts).isSome then some 7 else none
        let m := m.onTxn (fun z => { z with serial := (z.serial + 1) % 65536 })
        let m := m.onCtx c (fun y => { y with
          st := 3, c := t, v := t - m.p P.txnDecideMargin 0 * 1000000, q := m.p P.txnQueryTimeout 0 * 1000000,
          coord := true, key := some key, addr := own, parts := parts, votes := [(own, fault.isNone, fault.getD 0)],
          decision := none, ackBy := none, final := false, table := none, lateAt := none, skips := [], queries := 0, out := none })
        let m := m.sendPrepare c
        let m := m.raise 0x8002 c [key.serial, key.coord, b2n fault.isNone, fault.getD 0]
        (m.judgeVotes c, some (cReply t))

/-- TXN_COMMIT (R462, R463, R470). (Assumption 106 DEDUCED) -/
def execTxnCommit (h : Hdr) (c : Nat) (fabric : Bool) (at? : Option Int) (parts : List Nat) (s : State) : Out :=
  s.ring h (descTxnCommit c fabric at?) Mode.comm (onCtxCmd c (fun m =>
    if fabric then m.commitFabric c at? parts
    else match m.commitLocal c at? none with
      | (m', some st) => (m', some (refuse st))
      | (m', none) => (m', some (cReply (m'.ctx c).c))))

/-- TXN_ABORT (R468). (Assumption 107 DEDUCED) -/
def execTxnAbort (h : Hdr) (c : Nat) (s : State) : Out :=
  s.ring h (descTxnAbort c) Mode.comm (onCtxCmd c (fun m =>
    let x := m.ctx c
    let ab : TxnOut := ⟨0x2906, 0, 0, 0⟩
    if x.st = 1 then ((m.onCtx c (fun y => { y with acts := [], tags := [], fab := [] })).txnOut c ab, some okReply)
    else if x.st = 2 ∧ ¬ x.final ∧ m.now < x.c - 50000 then (m.txnOut c ab, some okReply)
    else if x.st = 3 ∧ x.coord ∧ x.ackBy.isNone then (m.decideAbort c ab, some okReply)
    else if x.st = 2 ∨ x.st = 3 ∨ x.st = 5 ∨ x.st = 7 then (m, some (refuse 0x2904))
    else (m, some (refuse 0x2903))))

/-- TXN_RESULT (R469). -/
def execTxnResult (h : Hdr) (c : Nat) (s : State) : Out :=
  s.ring h (descTxnResult c) Mode.reads (onCtxCmd c (fun m =>
    let x := m.ctx c
    match x.out with
    | some o =>
      if x.st = 7 ∨ (x.st = 1 ∧ x.reusable) then
        (m, some { status := o.status, res := res2 o.result 0, detail := o.detail, extra := toBits 32 (min o.late 0xFFFFFFFF) })
      else (m, some (refuse 0x2905))
    | none => (m, some (refuse 0x2905))))

/-- TXN_CLOSE (R468). (Assumption 106 DEDUCED) -/
def execTxnClose (h : Hdr) (c : Nat) (s : State) : Out :=
  s.ring h (descTxnClose c) Mode.comm (onCtxCmd c (fun m =>
    if (m.ctx c).st = 1 ∨ (m.ctx c).st = 7 then (m.onCtx c (fun _ => Ctx.reset), some okReply)
    else (m, some (refuse 0x2903))))

/-- TXN_STATUS (R484). -/
def execTxnStatus (h : Hdr) (c : Nat) (s : State) : Out :=
  s.ring h (descTxnStatus c) Mode.reads (onCtxCmd c (fun m =>
    let x := m.ctx c
    let w : Nat := x.st + x.acts.length * 256 + x.fab.length * 65536
    (m, some { status := 0, res := res2 w (x.c / 1000000000) })))

/-! ### Messages received -/

/-- The peer's fabric address, by its serial number (R482, R502). -/
def Mod.peerAddr (m : Mod) : Option Nat :=
  let sn := if m.tw.peerSerial = 0 then m.pn P.twinPeerSerial 0 else m.tw.peerSerial
  if sn = 0 then none
  else (m.fab.routes.find? (fun r => decide (r.serial % 2 ^ 32 = sn))).map (fun r => r.addr)

/-- A transaction frame, delivered under class 2, that passes the black channel (R27, R471). -/
def Mod.txnFrame (m : Mod) (f : Frame) (type : Nat) : Mod × Bool :=
  let m := m.unbuf 6
  let (m, ok) := m.firstCopy f
  if !ok || decide (f.type ≠ type) || !isSafe f then (m, false) else m.bcTake f 2000000

/-- A PREPARE that names this module, or its twin in SHADOW (R472, R482). -/
def Mod.prepare (m : Mod) (k : TxnKey) (c v q : Int) (parts : List Nat) (fab : List FabAct) : Mod :=
  let named := parts.filter (fun a => decide (m.fab.addr = some a) || (m.tw.pairFormed && decide (m.peerAddr = some a)))
  if named.isEmpty then m
  else if m.md = .shadow then
    m.sendTwin 0x30 0 (keyBody k ++ [c, v, q] ++ parts.map Int.ofNat
      ++ (fab.map (fun f => [(f.kind : Int), (f.w7 : Int), f.w8])).flatten)
  else if (m.ctxByKey k (fun _ => true)).isSome then m
  else match m.txn.noVotes.find? (fun x => decide (x.1 = k)) with
    | some (_, r) => named.foldl (fun m a => m.sendVote k a false r) m
    | none =>
      let free := (upto 256).find? (fun i => decide ((m.ctx i).st = 0))
      match m.voteFault c fab free.isSome, free with
      | none, some i =>
        let new : Ctx := { Ctx.reset with
          st := 4, fab := fab, c := c, v := v, q := q, key := some k, addr := named.headD 0, parts := named }
        let m := m.onCtx i (fun _ => new)
        let m := m.raise 0x8002 i [k.serial, k.coord, 1, 0]
        named.foldl (fun m a => m.sendVote k a true 0) m
      | r, _ =>
        let m := m.onTxn (fun t => { t with noVotes := t.noVotes ++ [(k, r.getD 1)] })
        let m := m.raise 0x8002 0 [k.serial, k.coord, 0, r.getD 1]
        named.foldl (fun m a => m.sendVote k a false (r.getD 1)) m

/-- TXN_PREPARE_RX (R472, R482). -/
def execTxnPrepareRx (f : Frame) (x : TxnMsg) (s : State) : Out :=
  s.work 2 (fun m => match m.txnFrame f 0x30, x with
    | (m, true), .prepare k c v q parts acts => m.prepare k c v q parts acts
    | (m, _), _ => m)

/-- TXN_VOTE_RX (R473). -/
def execTxnVoteRx (f : Frame) (x : TxnMsg) (s : State) : Out :=
  s.work 2 (fun m => match m.txnFrame f 0x31, x with
    | (m, true), .vote k voter yes reason =>
      (match m.ctxByKey k (fun y => y.coord && decide (y.st = 3) && y.ackBy.isNone) with
        | some c =>
          let y := m.ctx c
          if y.parts.contains voter && !(y.votes.any (fun z => z.1 == voter)) && decide (m.now < y.v) then
            (m.onCtx c (fun y => { y with votes := y.votes ++ [(voter, yes, reason)] })).judgeVotes c
          else m
        | none => m)
    | (m, _), _ => m)

/-- TXN_VOTE_DEADLINE (R473): at V with a vote missing. -/
def execTxnVoteDeadline (c : Nat) (s : State) : Out :=
  s.live (fun m =>
    let x := m.ctx c
    if x.st = 3 ∧ x.coord ∧ x.ackBy.isNone then
      let m := m.advance (rawAt m.time x.v)
      match (x.parts.filter (fun a => !(x.votes.any (fun v => v.1 == a)))).min? with
      | some a => m.decideAbort c (ctxNeg a 0 0x2908)
      | none => m
    else m)

/-- TXN_TWIN_ACK_RX (R473). -/
def execTxnTwinAckRx (c : Nat) (s : State) : Out :=
  s.live (fun m =>
    match (m.ctx c).ackBy with
    | some t => if m.raw < t then m.decidedCommit c else m
    | none => m)

/-- TXN_TWIN_ACK_TIMEOUT (R473): 100 us without the acknowledgement. -/
def execTxnTwinAckTimeout (c : Nat) (s : State) : Out :=
  s.live (fun m =>
    match (m.ctx c).ackBy with
    | some t => (m.advance t).decideAbort c ⟨0x290A, 0, 0, 0⟩
    | none => m)

/-- TXN_DECISION_RX (R474, R475). -/
def execTxnDecisionRx (f : Frame) (x : TxnMsg) (s : State) : Out :=
  s.work 2 (fun m => match m.txnFrame f 0x32, x with
    | (m, true), .decision k commit =>
      (match m.ctxByKey k (fun y => !y.coord && (decide (y.st = 4) || decide (y.st = 6))) with
        | some c => m.learnDecision c commit
        | none => m)
    | (m, _), _ => m)

/-- TXN_RESEND_TIMER (R472, R474, R476): each millisecond. (Assumption 109 DEDUCED) -/
def execTxnResendTimer (c : Nat) (s : State) : Out :=
  s.live (fun m =>
    let x := m.ctx c
    match x.key with
    | none => m
    | some k =>
      if x.coord then
        (match x.decision with
          | some d => if m.now < x.c then m.sendDecision k d else m
          | none => if x.st = 3 ∧ x.ackBy.isNone then m.sendPrepare c else m)
      else if x.st = 4 ∧ m.now < x.v then x.parts.foldl (fun m a => m.sendVote k a true 0) m
      else if x.st = 6 then m.sendQuery c
      else m)

/-- The decision this module holds on a key: its own context's, its no, or the one its twin wrote; a context of the key shows
the end of answering, C + 2 Q (R476). -/
def Mod.heldDecision (m : Mod) (k : TxnKey) : Option Bool :=
  let over_ := (m.ctxByKey k (fun y => decide (y.c + 2 * y.q ≤ m.now))).isSome
  match m.ctxByKey k (fun y => y.decision.isSome && decide (m.now < y.c + 2 * y.q)) with
  | some c => (m.ctx c).decision
  | none =>
    if m.txn.noVotes.any (fun x => decide (x.1 = k)) then some false
    else if over_ then none
    else (m.tw.decisions.find? (fun x => decide (x.1 = k))).map (fun x => x.2)

/-- TXN_QUERY_RX (R476). -/
def execTxnQueryRx (f : Frame) (x : TxnMsg) (s : State) : Out :=
  s.work 2 (fun m => match m.txnFrame f 0x33, x with
    | (m, true), .query k querier =>
      (match m.heldDecision k with
        | some d => m.sendFrame 0x34 querier true (keyBody k ++ [(b2n d : Int)])
        | none => m)
    | (m, _), _ => m)

/-- TXN_ANSWER_RX (R476). -/
def execTxnAnswerRx (f : Frame) (x : TxnMsg) (s : State) : Out :=
  s.work 2 (fun m => match m.txnFrame f 0x34, x with
    | (m, true), .answer k commit =>
      (match m.ctxByKey k (fun y => !y.coord && decide (y.st = 6)) with
        | some c => m.learnDecision c commit
        | none => m)
    | (m, _), _ => m)

/-- TXN_QUERY_TIMEOUT (R476). -/
def execTxnQueryTimeout (c : Nat) (s : State) : Out :=
  s.live (fun m =>
    let x := m.ctx c
    if x.st = 6 then
      let m := m.advance (rawAt m.time (x.c + x.q))
      let m := m.raise 0x8005 c [ctxSerial x, ctxCoord x, x.queries]
      (m.onCtx c (fun y => { y with acts := [], tags := [], fab := [] })).txnOut c ⟨0x2907, 0, 0, 0⟩
    else m)

/-- TXN_CONTEXT_EXPIRY (R476): at C + 2 Q a participant's context is freed. -/
def execTxnContextExpiry (c : Nat) (s : State) : Out :=
  s.live (fun m =>
    let x := m.ctx c
    if x.st = 7 ∧ x.key.isSome ∧ ¬ x.coord then
      (m.advance (rawAt m.time (x.c + 2 * x.q))).onCtx c (fun _ => Ctx.reset)
    else m)

/-! ### Torn, lost, taken over (R466, R480, R481) -/

/-- The actions of a broken bundle that still take effect: timed load-switch commands the dies hold.
 (Assumptions 94 DEDUCED, 110 DEDUCED) -/
def tornMask (x : Ctx) (f : Nat → Bool) : Nat :=
  mask 32 (fun k => match x.acts[k]? with
    | some (.lsSet n _) => f n
    | _ => false)

/-- Break every bundle between K and C. (Assumptions 94 DEDUCED, 110 DEDUCED) -/
def Mod.tear (m : Mod) (f : Nat → Bool) : Mod :=
  (upto 256).foldl (fun m c =>
    let x := m.ctx c
    if x.final then
      (m.txnOut c ⟨0x4901, 0, 0, 0⟩).raise 0x8006 c [ctxSerial x, ctxCoord x, tornMask x f]
    else m) m

/-- Every open context is closed with TXN_LOST_AT_RESET, to be reported (R37, R480). -/
def Mod.txnLost (m : Mod) : Mod :=
  let lost := (upto 256).filterMap (fun c => let x := m.ctx c
    if 1 ≤ x.st ∧ x.st ≤ 6 then some (c, x.st) else none)
  m.onTxn (fun t => { t with
    ctx := t.ctx.map (fun x =>
      if 1 ≤ x.st ∧ x.st ≤ 6 then { Ctx.reset with st := 7, out := some ⟨0x4902, 0, 0, 0⟩ }
      else { x with key := none, decision := none }),
    lost := t.lost ++ lost })

/-- A control-die reset (R466, R480): a timed command survives when it fires before the die's watchdog acts.
 (Assumptions 108 DEDUCED, 110 DEDUCED) -/
def Mod.txnReset (m : Mod) : Mod :=
  let m := m.tear (fun n => match (m.ls n).timed with
    | some (_, t) => decide (t < (m.die (lsDie n)).lastDown + 60 * US)
    | none => false)
  m.txnLost.onTxn (fun t => { t with noVotes := [], held := [], heldActs := [] })

/-- TXN_LOST_AT_RESET_EVT after the start. (Assumption 108 DEDUCED) -/
def Mod.reportLost (m : Mod) : Mod :=
  (m.txn.lost.foldl (fun m x => m.raise 0x8007 x.1 [0, 0, x.2]) m).onTxn (fun t => { t with lost := [] })

/-- What a new ACTIVE does with one mirrored context (R481). -/
def Mod.ctxTakeover (m : Mod) (c : Nat) : Mod :=
  let x := m.ctx c
  if x.st = 0 ∨ x.st = 1 ∨ x.st = 7 then m
  else
    let m := m.raise 0x8008 c [ctxSerial x, ctxCoord x, x.st]
    let late (m : Mod) : Mod :=
      let m := m.ctxCheck c (m.raw + 50 * US)
      if (m.ctx c).final then m.onCtx c (fun y => { y with lateAt := some (m.raw + 50 * US) }) else m
    if x.final then
      (if x.c ≤ m.now then (m.onCtx c (fun y => { y with lateAt := some m.raw })).ctxApply c else m)
    else if x.st = 2 then (if x.c - 50000 ≤ m.now then late m else m)
    else if x.st = 3 then
      let written := match x.key with
        | some k => m.tw.decisions.any (fun d => decide (d = (k, true)))
        | none => false
      if written then (let m := m.decidedCommit c; if x.c - 50000 ≤ m.now then late m else m) else m.decideAbort c ⟨0x2906, 0, 0, 0⟩
    else if x.st = 5 then
      let m := match x.coord, x.key with
        | true, some k => m.sendDecision k true
        | _, _ => m
      if x.c - 50000 ≤ m.now then late m else m
    else if x.st = 4 ∧ x.c ≤ m.now then (m.onCtx c (fun y => { y with st := 6 })).sendQuery c
    else m

/-- (Assumption 107 DEDUCED) -/
def Mod.txnTakeover (m : Mod) : Mod := (upto 256).foldl Mod.ctxTakeover m

end Sys2Proof.Machine
end

