-- ==== Sys2Proof/Machine/HostRing.lean ====
section
/-! DEFINITION. The host link, its rings, doorbells and interrupts: the commands of
04_host_interface.md from HOST_LINK_RESET to MSIX_VECTOR_UNMASK. -/
namespace Sys2Proof.Machine

def Mod.onHost (m : Mod) (f : HostSt → HostSt) : Mod := { m with host := f m.host }

/-- A descriptor is fetched in no mode that accepts no commands (R80). -/
def Mode.fetches : Mode → Bool
  | .starting => false
  | .updatePause => false
  | _ => true

/-- Register a cancel of the running long operations that satisfy a test, with its DETAIL (R142, R151). -/
def Mod.cancelOps (m : Mod) (detail : Nat) (f : LongOp → Bool) : Mod :=
  m.onHost (fun x => { x with ops := x.ops.map (fun o =>
    if f o && o.cancel.isNone then { o with cancel := some detail } else o) })

/-- The fetched descriptors whose completions a host-link reset discards, with their rings (R113). -/
def HostSt.left (x : HostSt) : List (Nat × Fetched) :=
  (x.rings.zip (upto 32)).flatMap (fun (y : Ring × Nat) =>
    (y.1.fetched.filter (fun f => f.done.isNone)).map (fun f => (y.2, f)))

/-- The blocks of R117 that a host-link reset clears; the rings stop at once, and what they fetched runs on without its
completions. (Assumption 49 DEDUCED) -/
def HostSt.linkReset (x : HostSt) : HostSt :=
  { x with
    linkUp := false, d3 := false, verReq := (0, 0), rings := List.replicate 32 Ring.reset,
    msix := List.replicate 32 Msix.reset, rr := [0, 0, 0, 0], gone := x.gone ++ x.left, heartbeat := 0, wdogMs := 0, silentDone := false,
    irqEn := false, irqVec := 0 }

/-- A host-link reset (R113): long operations of the rings end at their next step with DETAIL 3.
 (Assumptions 20 DEDUCED, 49 DEDUCED) -/
def Mod.linkReset (m : Mod) (cause : Nat) : Mod :=
  let m := (m.cancelOps 3 (fun o => o.hdr.isSome)).onHost HostSt.linkReset
  ((m.setNeg 0 none).closeAllSess 5).raise 0x4E41 0 [cause]

/-- HOST_LINK_RESET (R113): 1 PERST_N, 2 hot reset, 3 function-level reset, 4 out of L0. (Assumption 49 DEDUCED) -/
def execHostLinkReset (cause : Nat) (s : State) : Out := s.live (fun m => m.linkReset cause)

/-- HOST_LINK_UP (R111, R114, R152): the speed in 0.1 GT/s. (Assumption 50 DEDUCED) -/
def execHostLinkUp (width speed : Nat) (s : State) : Out :=
  s.live (fun m =>
    let m := (m.onHost (fun x => { x with linkUp := true, width := width, speed := speed })).raise 0x4E40 0 [width, speed]
    if width < 2 ∨ speed < 80 then m.raise 0x4E46 0 [width, speed] else m)

/-- HOST_VER_REQ (R121, R122): ignored while a ring is active. (Assumption 50 DEDUCED) -/
def Mod.verReq (m : Mod) (v : Nat) : Mod :=
  if m.host.rings.any (fun r => r.active) then m
  else
    let mj := field v 8 8
    let mn := field v 0 8
    let m := m.onHost (fun x => { x with verReq := (mj, mn) })
    match negotiate (ownVer 0) ⟨mj, mn, none⟩ with
    | some n => (m.setNeg 0 (some n)).raise 0x4E44 0 [n.1, n.2]
    | none => (m.setNeg 0 none).raise 0x4E45 0 [mj, mn]

/-- (Assumption 50 DEDUCED) -/
def execHostVerReq (value : Nat) (s : State) : Out := s.live (fun m => m.verReq value)

/-- Halt a ring (R128). (Assumption 48 DEDUCED) -/
def Mod.haltRing (m : Mod) (i cause : Nat) : Mod :=
  let m := m.onRing i (fun r => { r with halted := true, haltCause := cause })
  (m.faultBit 5).raise 0x4E42 i [i, cause]

/-- The fields of RING_CFG but ENABLE. -/
def Ring.setCfg (r : Ring) (cfg : Nat) : Ring :=
  { r with
    eventKind := bit cfg 30, prio := field cfg 28 2, coalCount := field cfg 16 8, vector := field cfg 8 5,
    log2 := field cfg 0 4 }

/-- The first failing check of an enable (R126), 0 for none. -/
def Mod.ringFault (m : Mod) (r : Ring) : Nat :=
  if r.base = 0 ∨ r.base % 4096 ≠ 0 ∨ (!r.eventKind ∧ (r.cplBase = 0 ∨ r.cplBase % 4096 ≠ 0)) then 1
  else if r.log2 < 4 ∨ 12 < r.log2 then 2
  else if (m.host.neg.getD 0 none).isNone then 6
  else 0

/-- ENABLE written 1: from 0, every index returns to 0 and the ring becomes active or halts. While ACTIVE is 1 the other
fields are ignored; what a draining ring has fetched runs to its end. (Assumption 48 DEDUCED) -/
def Mod.ringEnable (m : Mod) (i cfg : Nat) : Mod :=
  let r := m.ring i
  if 32 ≤ i then m
  else
    let m := m.onRing i (fun r => { (if r.active then r else r.setCfg cfg) with enable := true })
    if r.enable then m
    else
      let m := m.onRing i (fun r => { r with
        modIdx := 0, cplIdx := 0, hostIdx := 0, cplCons := 0, count := 0, since := none, ringSeq := 0,
        lost := false, fetched := if r.active then r.fetched else [] })
      match m.ringFault (m.ring i) with
      | 0 => m.onRing i (fun r => { r with active := true })
      | c => m.haltRing i c

/-- RING_ENABLE (R125, R126). -/
def execRingEnable (ring cfg : Nat) (s : State) : Out := s.live (fun m => m.ringEnable ring cfg)

/-- ENABLE written 0: fetching stops, HALTED clears, the ring's long operations end with DETAIL 2.
 (Assumption 48 DEDUCED) -/
def Mod.ringDisable (m : Mod) (i cfg : Nat) : Mod :=
  if (m.ring i).active then
    (m.onRing i (fun r => { r with enable := false, halted := false, haltCause := 0 })).cancelOps 2
      (fun o => (o.hdr.map (fun h => h.ring)) == some i)
  else m.onRing i (fun r => { (r.setCfg cfg) with enable := false, halted := false, haltCause := 0 })

/-- RING_DISABLE (R126). -/
def execRingDisable (ring cfg : Nat) (s : State) : Out := s.live (fun m => m.ringDisable ring cfg)

/-- RING_DRAINED (R126): nothing fetched is left on a disabled or halted ring. (Assumption 48 DEDUCED) -/
def execRingDrained (ring : Nat) (s : State) : Out :=
  s.live (fun m =>
    let r := m.ring ring
    if r.active && (!r.enable || r.halted) && r.fetched.isEmpty then
      m.onRing ring (fun r => { r with active := false })
    else m)

/-- HOST_INDEX: an overrun halts the ring with cause 3 (R127, R128). -/
def Mod.bellHost (m : Mod) (i idx : Nat) : Mod :=
  let idx := idx % 65536
  let m := m.onRing i (fun r => { r with hostIdx := idx })
  let r := m.ring i
  let d := if r.eventKind then sub16 r.modIdx idx else sub16 idx r.modIdx
  if r.active && !r.halted && decide (r.size < d) then m.haltRing i 3 else m

/-- DOORBELL_HOST_INDEX. -/
def execDoorbellHostIndex (ring idx : Nat) (s : State) : Out := s.live (fun m => m.bellHost ring idx)

/-- CPL_CONSUMED: unused on an event ring. -/
def Mod.bellCpl (m : Mod) (i idx : Nat) : Mod :=
  let idx := idx % 65536
  let m := m.onRing i (fun r => { r with cplCons := idx })
  let r := m.ring i
  if r.active && !r.halted && !r.eventKind && decide (r.size < sub16 r.cplIdx idx) then m.haltRing i 3 else m

/-- DOORBELL_CPL_CONSUMED. -/
def execDoorbellCplConsumed (ring idx : Nat) (s : State) : Out := s.live (fun m => m.bellCpl ring idx)

/-- Completion slots free beyond the reservations (R134). -/
def Ring.free (r : Ring) : Nat := r.size - sub16 r.cplIdx r.cplCons - r.fetched.length

/-- The ring has a descriptor that may be fetched (R126, R128, R134). -/
def Ring.canFetch (r : Ring) : Bool :=
  r.active && r.enable && !r.halted && !r.eventKind && decide (r.modIdx ≠ r.hostIdx) && decide (0 < r.free)

/-- Service order (R137): highest PRIO first, round-robin by ring number within a priority. -/
def Mod.nextRing (m : Mod) : Option Nat :=
  let cand := (upto 32).filter (fun i => (m.ring i).canFetch)
  let key (i : Nat) : Nat := (3 - (m.ring i).prio) * 32 + (i + 32 - m.host.rr.getD (m.ring i).prio 0) % 32
  cand.foldl (fun b i => match b with
    | some j => if key i < key j then some i else some j
    | none => some i) none

/-- The opcodes the chapters define (R8, R138). -/
def knownOpcode (op : Nat) : Bool :=
  let hh := op / 256
  let lo := op % 256
  let own (a b : Nat) : Bool := decide (a ≤ lo) && decide (lo ≤ b)
  (([0x01, 0x10, 0x20, 0x30, 0x40, 0x50, 0x60, 0x70, 0x80, 0x90, 0xA0, 0xB0].contains hh) && own 1 4)
    || (match hh with
      | 0x01 => own 0x40 0x43 || own 0x50 0x52
      | 0x10 => own 0x10 0x12 || own 0x20 0x25
      | 0x20 => own 0x10 0x13
      | 0x30 => own 0x10 0x11
      | 0x40 => own 0x10 0x12
      | 0x50 => own 0x10 0x12
      | 0x60 => own 0x10 0x13
      | 0x70 => own 0x10 0x18
      | 0x80 => own 0x10 0x16
      | 0xA0 => own 0x10 0x17
      | 0xB0 => own 0x10 0x11
      | _ => false)

/-- A reserved bit of the argument words of MOVE (R209) or JOG (R232) is set. -/
def argReserved (op : Nat) (w : List Nat) : Bool :=
  if op = 0x1020 then w.getD 11 0 / 4 != 0 || w.getD 12 0 + w.getD 13 0 + w.getD 14 0 + w.getD 15 0 != 0
  else if op = 0x1024 then w.getD 6 0 / 4 != 0
  else false

/-- The status of a descriptor that its words alone refuse (R8, R129, R130, R573): the service-port opcodes first, then an
unknown opcode, then reserved bits, then the buffer's alignment. (Assumption 145 DESIGN CHOICE) -/
def descFault (w : List Nat) : Option Nat :=
  let w1 := w.getD 1 0
  let op := w.getD 0 0 / 65536
  if 0xB020 ≤ op ∧ op ≤ 0xB02A then some 0x2C05
  else if !knownOpcode op then some 0x1001
  else if field w1 24 5 ≠ 0 ∨ field w1 0 16 ≠ 0 ∨ argReserved op w then some 0x1005
  else if w.getD 2 0 % 8 ≠ 0 ∨ w.getD 4 0 % 8 ≠ 0 then some 0x1006
  else none

/-- Fetch one descriptor: it holds a completion slot until its final completion is written. -/
def Mod.fetchOne (m : Mod) (i : Nat) (w : List Nat) : Mod :=
  let r := m.ring i
  if r.canFetch then
    let w0 := w.getD 0 0
    let w1 := w.getD 1 0
    let st := descFault w
    let f : Fetched := ⟨r.modIdx, w, st.isSome, none⟩
    let m := m.onRing i (fun r => { r with modIdx := (r.modIdx + 1) % 65536, fetched := r.fetched ++ [f] })
    match st with
    | some st => m.complete ⟨i, r.modIdx, w0 % 65536, bit w1 31, bit w1 29⟩ (refuse st)
    | none => m
  else m

/-- Descriptors of 16 words each, at most `k` of them. -/
def Mod.fetchAll (m : Mod) (i : Nat) : Nat → List Nat → Mod
  | 0, _ => m
  | k + 1, w => if w.isEmpty then m else (m.fetchOne i (w.take 16)).fetchAll i k (w.drop 16)

/-- DESCRIPTOR_FETCH (R128 to R130, R134, R137): a turn of the ring that is next, up to 8 descriptors,
while class 5 is not suspended. -/
def execDescriptorFetch (ring : Nat) (words : List Nat) (s : State) : Out :=
  s.live (fun m =>
    if m.md.fetches && m.host.linkUp && !m.host.d3 && !(m.gov.suspended.getD 4 false)
        && decide (m.nextRing = some ring) then
      (m.onHost (fun x => { x with rr := upd x.rr (m.ring ring).prio (fun _ => (ring + 1) % 32) })).fetchAll ring 8 words
    else m)

/-- The header a fetched descriptor gives its command (R129). -/
def Fetched.hdr (f : Fetched) (ring : Nat) : Hdr :=
  ⟨ring, f.idx, field (f.words.getD 0 0) 0 16, bit (f.words.getD 1 0) 31, bit (f.words.getD 1 0) 29⟩

/-- A buffer transfer of a fetched command failed: it ends with HOST_DMA_ERROR (R151), a command that waits without any
effect, a long operation at once. (Assumption 51 DEDUCED) -/
def Mod.dmaFailed (m : Mod) (ring idx : Nat) : Mod :=
  match (m.ring ring).fetched.find? (fun f => f.idx == idx && f.done.isNone) with
  | some f =>
    let h := f.hdr ring
    let m := m.dropOps (fun o => o.hdr == some h)
    let m := m.onRing ring (fun r => { r with
      fetched := r.fetched.map (fun g => if g.takes h then { g with begun := true } else g) })
    m.complete h (refuse 0x4001)
  | none => m

/-- The transfer was a write of the module. -/
def dmaWrites : DmaXfer → Bool
  | .ringRead => false
  | .ringWrite => true
  | .bufRead _ => false
  | .bufWrite _ => true

/-- The index of the fetched descriptor whose buffer was transferred, none for a transfer of a ring's own. -/
def dmaOf : DmaXfer → Option Nat
  | .ringRead => none
  | .ringWrite => none
  | .bufRead i => some i
  | .bufWrite i => some i

/-- HOST_DMA_ERROR (R128, R151): cause 4 on a read, 5 on a write. (Assumption 51 DEDUCED) -/
def execHostDmaError (ring : Nat) (what : DmaXfer) (s : State) : Out :=
  s.live (fun m =>
    if (m.ring ring).active then
      let m := m.haltRing ring (if dmaWrites what then 5 else 4)
      match dmaOf what with
      | some i => m.dmaFailed ring i
      | none => m
    else m)

/-- INTERRUPT_COALESCE_TIMEOUT (R144). -/
def execInterruptCoalesceTimeout (ring : Nat) (s : State) : Out :=
  s.live (fun m =>
    let r := m.ring ring
    match r.since with
    | some t => if r.coalUs = 0 then m else (m.advance (t + r.coalUs * US)).ringVec ring
    | none => m)

/-- MASK of a vector written 0: a pending message is sent (R143). -/
def Mod.unmask (m : Mod) (k : Nat) : Mod :=
  let p := (m.host.msix.getD k Msix.reset).pending
  let m := m.onHost (fun x => { x with msix := upd x.msix k (fun e => { e with mask := false, pending := false }) })
  if p then m.raiseVec k else m

/-- MSIX_VECTOR_UNMASK. -/
def execMsixVectorUnmask (k : Nat) (s : State) : Out := s.live (fun m => m.unmask k)

/-- NOP (R138). -/
def execNop (h : Hdr) (s : State) : Out := s.ring h descNop Mode.reads (fun m => (m, some okReply))

/-! ### Long operations named by ring and index (R142) -/

def Mod.opOf (m : Mod) (ring idx : Nat) : Option LongOp :=
  m.host.ops.find? (fun o => match o.hdr with
    | some h => h.ring == ring && h.idx == idx
    | none => false)

/-- Fetched recently, on an active command ring. -/
def Mod.recent (m : Mod) (ring idx : Nat) : Bool :=
  let r := m.ring ring
  let d := sub16 r.modIdx idx
  decide (ring < 32) && r.active && !r.eventKind && decide (1 ≤ d) && decide (d ≤ r.size)

/-- LONG_OP_CANCEL: registered, for the operation's next step boundary. -/
def execLongOpCancel (h : Hdr) (ring idx : Nat) (s : State) : Out :=
  s.ring h (descLongOpCancel ring idx) Mode.reads (fun m =>
    match m.opOf ring idx with
    | some _ => (m.cancelOps 1 (fun o => match o.hdr with
        | some h => h.ring == ring && h.idx == idx
        | none => false), some okReply)
    | none => (m, some (refuse (if m.recent ring idx then 0x0001 else 0x1007))))

/-- LONG_OP_QUERY. -/
def execLongOpQuery (h : Hdr) (ring idx : Nat) (s : State) : Out :=
  s.ring h (descLongOpQuery ring idx) Mode.reads (fun m =>
    match m.opOf ring idx with
    | some o => (m, some { status := 0, res := res2 o.steps o.est })
    | none => (m, some (refuse (if m.recent ring idx then 0x0001 else 0x1007))))

/-! ### Time registers (R146, R147) -/

def Mod.latchSec (m : Mod) : Mod := m.onHost (fun x => { x with timeSec := (m.now / 1000000000).toNat })
def Mod.latchRaw (m : Mod) : Mod := m.onHost (fun x => { x with rawHi := m.raw / 4294967296 })
def Mod.latchOffset (m : Mod) : Mod := m.onHost (fun x => { x with offHi := toBits 64 m.time.offset / 4294967296 })

/-- TIME_NS_READ latches the seconds. -/
def execTimeNsRead (s : State) : Out := s.live Mod.latchSec

/-- RAW_LO_READ latches RAW_HI. -/
def execRawLoRead (s : State) : Out := s.live Mod.latchRaw

/-- OFFSET_LO_READ latches OFFSET_HI. -/
def execOffsetLoRead (s : State) : Out := s.live Mod.latchOffset

def Mod.capture (m : Mod) : Mod := m.onHost (fun x => { x with cap := m.now })

/-- TIME_CAPTURE: any write captures the fabric time of its arrival. -/
def execTimeCapture (s : State) : Out := s.live Mod.capture

/-! ### Health summary (R148, R150) -/

/-- A write of 1 to a fault bit clears it. -/
def Mod.clearFaults (m : Mod) (mask : Nat) : Mod :=
  m.onHost (fun x => { x with faultBits := x.faultBits &&& (2047 ^^^ (mask &&& 2047)) })

/-- HEALTH_FAULT_BITS_CLEAR. -/
def execHealthFaultBitsClear (mask : Nat) (s : State) : Out := s.live (fun m => m.clearFaults mask)

def Mod.clearRegLocked (m : Mod) : Mod := m.onHost (fun x => { x with regLocked := 0 })

/-- CLEAR_REG_LOCKED. -/
def execClearRegLocked (s : State) : Out := s.live Mod.clearRegLocked

def Mod.clearSramCe (m : Mod) : Mod := { m with clk := { m.clk with ceCount := 0 } }

/-- CLEAR_SRAM_CE. -/
def execClearSramCe (s : State) : Out := s.live Mod.clearSramCe

/-- HOST_WATCHDOG_EXPIRY (R150): once, until the next change of HOST_HEARTBEAT. -/
def execHostWatchdogExpiry (s : State) : Out :=
  s.live (fun m =>
    if m.host.wdogMs ≠ 0 ∧ !m.host.silentDone then
      let m := m.advance (m.host.wdogSince + m.host.wdogMs * MS)
      ((m.onHost (fun x => { x with silentDone := true })).faultBit 10).raise 0x4E43 0 []
    else m)

/-- POWER_STATE_CHANGE (R111): D3hot halts every ring; door operation continues. (Assumption 49 DEDUCED) -/
def execPowerStateChange (d3 : Bool) (s : State) : Out :=
  s.live (fun m => m.onHost (fun x => { x with
    d3 := d3,
    rings := if d3 then x.rings.map (fun r => if r.active then { r with halted := true } else r) else x.rings }))

end Sys2Proof.Machine
end

