-- ==== Sys2Proof/Machine/ObstCmd.lean ====
section
/-! DEFINITION. The commands of 08_obstacle_detection.md, with the learn run (R270). -/
namespace Sys2Proof.Machine

def Mod.setLearn (m : Mod) (l : List Learn) : Mod := { m with ob := { m.ob with learn := l } }

def Mod.onLearn (m : Mod) (p : Nat) (f : Learn → Learn) : Mod :=
  m.setLearn (m.ob.learn.map (fun l => if l.p = p then f l else l))

/-! ### Detections -/

/-- A count reached its confirmation on this tick and was not declared before. (Assumption 19 DESIGN CHOICE) -/
def due (c n : Nat) : Bool := decide (n ≤ c) && decide (c < declared)

/-- OBSTACLE_FORCE_DETECT (R276, R287, R288): a leaf declares FORCE, ABS_LIMIT, OPEN_DIR or POCKET by its
counts; a step is blocked. -/
def execObstacleForceDetect (ax : Nat) (s : State) : Out :=
  s.live (withAxis ax (fun m =>
    match m.roleOf ax with
    | none => m
    | some (p, r) =>
      let o := m.obst ax
      let n := m.pn P.forceConfirm p
      if r = 2 then
        (if due o.forceCnt n then (m.onOb ax (fun x => { x with forceCnt := declared })).stepBlock ax else m)
      else
        let v := m.binVals ax (m.binNow ax)
        let m := if due o.forceCnt n then
            (m.onOb ax (fun x => { x with forceCnt := declared })).detect ax 0 true (v.getD 0 0 + m.theta p v)
          else m
        let m := if due o.absCnt n then
            (m.onOb ax (fun x => { x with absCnt := declared })).detect ax 3 true (m.forceLimit ax)
          else m
        if due o.openCnt n then
          (m.onOb ax (fun x => { x with openCnt := declared })).detect ax (if m.inPocket ax then 6 else 5) false 0
        else m))

/-- OBSTACLE_ERR_GROWTH (R277, R288): two consecutive ticks. -/
def execObstacleErrGrowth (ax : Nat) (s : State) : Out :=
  s.live (withAxis ax (fun m =>
    match m.roleOf ax with
    | none => m
    | some (_, r) =>
      if due (m.obst ax).growCnt 2 then
        let m := m.onOb ax (fun x => { x with growCnt := declared })
        if r = 2 then m.stepBlock ax else m.detect ax 1 (m.closingDir ax) (m.forceLimit ax)
      else m))

/-- The detection work that class 3 reserves for every tick: leaf and step axes that move, or rest in CLOSING (R289). -/
def Mod.workDue (m : Mod) (i : Nat) : Bool :=
  match m.roleOf i with
  | some (p, r) => decide (r < 3) && m.md.torque && (m.moving i || decide ((m.portal p).state = 5))
  | none => false

/-- OBSTACLE_SUPERVISION_LATE (R289): SUPERVISION with OBST_REACT 0. -/
def execObstacleSupervisionLate (ax : Nat) (s : State) : Out :=
  s.live (withAxis ax (fun m =>
    if m.workDue ax then
      let m := m.raise 0x3008 ax [ax]
      if m.supervised ax then m.detect ax 7 (m.closingDir ax) (m.forceLimit ax) else m
    else m))

/-! ### Edges -/

/-- The up/down filter of R279: the count moves toward the reading, and a decision falls at its ends. -/
def edgeFilt (x : Edge) (on : Bool) (n : Nat) : Edge × Bool :=
  let c := if on then min n (x.filt + 1) else x.filt - 1
  let st := if c = n then true else if c = 0 then false else x.pressed
  ({ x with filt := c, pressed := st }, decide (st ≠ x.pressed))

/-- A cause of an edge fault is absent now (R280). -/
def Edge.clean (x : Edge) : Nat → Bool
  | 1 => decide (x.openCnt = 0)
  | 2 => !x.pressed
  | 3 => x.passed
  | 4 => x.passed
  | _ => false

/-- Every cause of a standing edge fault is absent now. -/
def Mod.edgeClean (m : Mod) (e : Nat) : Bool :=
  let x := m.edge e
  !x.causes.isEmpty && x.causes.all x.clean

/-- Follow since when the cause of a fault has been absent. -/
def Mod.edgeClearing (m : Mod) (e : Nat) : Mod :=
  let c := m.edgeClean e
  m.onEdge e (fun x => { x with clearAt := if c then some (x.clearAt.getD m.raw) else none })

/-- What a reading shows of a running pressure-wave test: the pulse lasts 50 ms (R280). -/
def Edge.inTest (x : Edge) (raw : Nat) : Edge :=
  match x.test with
  | none => x
  | some t =>
    if x.pressed then { x with testPress := some (x.testPress.getD raw) }
    else if x.testPress.isSome ∧ t + 50 * MS ≤ raw then { x with testFree := some (x.testFree.getD raw) }
    else x

/-- EDGE_MEASUREMENT (R279, R280). -/
def execEdgeMeasurement (e ohm : Nat) (s : State) : Out :=
  s.live (fun m =>
    let n := m.pn P.edgeFilter e
    let on := decide (ohm < m.pn P.edgePressR e)
    let open_ := decide (m.pn P.edgeOpenR e < ohm)
    let (x, ch) := edgeFilt (m.edge e) on n
    let m := m.onEdge e (fun _ => { x.inTest m.raw with
      ohm := ohm, openCnt := if open_ then x.openCnt + 1 else 0,
      pressedAt := if x.pressed then some (x.pressedAt.getD m.raw) else none,
      newPress := x.newPress || (ch && x.pressed) })
    m.edgeClearing e)

/-- A pressure-wave test passes (R280): pressed within EDGE_PW_RESPONSE of the pulse's start, released within 100 ms after
its end. (Assumption 153 DEDUCED) -/
def Mod.pwPassed (m : Mod) (e t : Nat) : Bool :=
  let x := m.edge e
  x.testPress.any (fun u => decide (u ≤ t + m.pn P.edgePwResponse e * MS)) && x.testFree.any (fun u => decide (u ≤ t + 150 * MS))

/-- EDGE_FAULT (R278, R280): 1 open, 2 short, 3 test failed, 4 test overdue, 5 unassigned. -/
def execEdgeFault (e cause : Nat) (s : State) : Out :=
  s.live (fun m =>
    let x := m.edge e
    let used := decide (m.p P.edgeType e ≠ 0)
    if cause = 1 then (if used && decide (m.pn P.edgeFilter e ≤ x.openCnt) then m.edgeFail e 1 else m)
    else if cause = 2 then
      (match x.pressedAt with
        | some t => if used then (m.advance (t + m.pn P.edgeShortTime e * SEC)).edgeFail e 2 else m
        | none => m)
    else if cause = 3 then
      (match x.test with
        | some t =>
          let m := m.advance (t + 150 * MS)
          if m.pwPassed e t then m else (m.onEdge e (fun x => { x with test := none })).edgeFail e 3
        | none => m)
    else if cause = 4 then (if decide (m.p P.edgeType e = 2) && decide (10 ≤ x.sincePass) then m.edgeFail e 4 else m)
    else if used && (m.edgeLeaf e).isNone then m.edgeFail e 5 else m)

/-- EDGE_PW_TEST_END (R280): at the release, or 100 ms after the pulse. The readings decide; a row of the other result is none
of this test. (Assumption 153 DEDUCED) -/
def execEdgePwTestEnd (e : Nat) (pass : Bool) (s : State) : Out :=
  s.live (fun m =>
    match (m.edge e).test with
    | some t =>
      if pass ≠ m.pwPassed e t then m else
      let m := m.advance ((m.edge e).testFree.getD (t + 150 * MS))
      let m := m.onEdge e (fun x => { x with test := none, newPress := false })
      if pass then (m.onEdge e (fun x => { x with sincePass := 0, passed := true })).edgeClearing e
      else m.edgeFail e 3
    | none => m)

/-- EDGE_FAULT_CLEARED (R280): the cause absent for 1 s, and a passed test of a pressure-wave edge. -/
def execEdgeFaultCleared (e : Nat) (s : State) : Out :=
  s.live (fun m =>
    match (m.edge e).fault, (m.edge e).clearAt with
    | some _, some t =>
      if decide (m.p P.edgeType e = 2) && !(m.edge e).passed then m
      else ((m.advance (t + SEC)).onEdge e (fun x => { x with fault := none, more := [], clearAt := none })).raise 0x3004 e []
    | _, _ => m)

/-! ### Probe -/

/-- The onset of R291 from the dither periods in the zone, each with its distance from POS0 in um and its stiffness: where the
stiffness first exceeds twice the value measured over the first two periods. -/
def onsetOf (l : List (Int × Nat)) : Option Int :=
  match l with
  | a :: b :: r => (r.find? (fun x => decide (a.2 + b.2 < x.2))).map (fun x => x.1)
  | _ => none

/-- R292: the three ways a leaf's probe decides trapped. -/
def Mod.trapped (m : Mod) (i c : Nat) (onset : Option Int) : Bool :=
  let p := i / 4
  let f := (m.obst i).prof
  let tol := m.pn P.probeComplianceTol p
  decide (100 * c < f.compliance * (100 - tol)) || decide (f.compliance * (100 + tol) < 100 * c)
    || onset.any (fun o => decide (f.onset + m.p P.probeOnsetMargin p < o))
    || decide (m.p P.probePosTol p < ((m.um i (m.err i)).natAbs : Int))

/-- C / CLOSED_COMPLIANCE in 0.1 %; a free value without a reference. (Assumption 13 DESIGN CHOICE) -/
def Mod.probeRatio (m : Mod) (i c : Nat) : Nat :=
  let f := (m.obst i).prof.compliance
  if f = 0 then Config.probeRatio c else c * 1000 / f

/-- PROBE_DECISION (R291 to R293): at the first tick boundary at or after the dwell's end, from the closed-gap compliance in
0.001 um/N and the zone's dither periods. In a learn run the dwell measures only. (Assumption 13 DESIGN CHOICE) -/
def execProbeDecision (ax compliance : Nat) (periods : List (Int × Nat)) (s : State) : Out :=
  s.live (withAxis ax (fun m =>
    match (m.obst ax).probe, m.roleOf ax with
    | .dwell t, some (p, r) =>
      let m := m.advance ((t + 19999) / 20000 * 20000)
      let found := onsetOf periods
      let onset := found.getD (Config.onsetUnseen m.freeCtr)
      let m : Mod := if found.isNone then { m with freeCtr := m.freeCtr + 1 } else m
      let m := m.onOb ax (fun o => { o with compliance := compliance, onset := onset, ditherAt := none })
      if m.learning p then
        let m := m.onLearn p (fun l => { l with dwells := l.dwells ++ [(r, compliance, onset)] })
        (m.onOb ax (fun o => { o with probe := .clear })).probeCombine p
      else
        let bad := m.trapped ax compliance found
        let ratio := m.probeRatio ax compliance
        let shift := onset - (m.obst ax).prof.onset
        let m := (m.onOb ax (fun o => { o with probe := if bad then .trapped else .clear })).probeCombine p
        let m := m.onCyc p (fun c => { c with
          probe := if bad then 3 else if (m.portal p).probe = 2 then 2 else c.probe, probeRatio := ratio,
          onsetShift := shift })
        let m := if bad then (m.life (lifePortal p 3) 1).onCyc p (fun c => c.fail 4 true) else m
        m.raise 0x3002 ax [if bad then 3 else 2, ratio, shift]
    | _, _ => m))

/-! ### Profiles -/

/-- Save the profiles and probe references of all leaf axes (R274). -/
def Mod.saveNow (m : Mod) (src : Nat) : Mod :=
  let m := m.calSave
  let n := max m.nv.calibSeq.1 m.nv.calibSeq.2
  let copy : List Prof := (m.ob.ax.zip (m.ob.saved.zip (upto 16))).map (fun (x : Obst × Prof × Nat) =>
    if m.isLeaf x.2.2 then x.1.prof else x.2.1)
  let keep : List Obst := m.ob.ax.map (fun o => { o with changed := false })
  let m : Mod := { m with ob := { m.ob with saved := copy, ax := keep, savedSeq := n, savedAt := m.raw } }
  m.raise 0x300C src [n]

/-- A save and the command it completes. -/
def Mod.saveFor (m : Mod) (x : Nat × Option Hdr) : Mod :=
  let m := m.saveNow x.1
  m.completeTo x.2 { status := 0, res := m.ob.savedSeq }

/-- A save is work of class 8: it waits while that class is suspended (R29, R274). -/
def Mod.saveWith (m : Mod) (src : Nat) (h : Option Hdr) : Mod :=
  if m.runs 8 then m.saveFor (src, h) else { m with ob := { m.ob with saves := m.ob.saves ++ [(src, h)] } }

def Mod.saveProfiles (m : Mod) (src : Nat) : Mod := m.saveWith src none

/-- The saves that waited are made. -/
def Mod.saveWaiting (m : Mod) : Mod :=
  m.ob.saves.foldl Mod.saveFor { m with ob := { m.ob with saves := [] } }

/-- PROFILE_SAVE_INTERVAL (R274): with a changed profile, once SAVE_INTERVAL has passed since the last save. -/
def execProfileSaveInterval (s : State) : Out :=
  s.work 8 (fun m =>
    if m.ob.ax.any (fun o => o.changed) then
      (m.advance (m.ob.savedAt + m.pn P.saveInterval 0 * 60 * SEC)).saveProfiles 0
    else m)

/-- PROFILE_RELOAD_DONE (R274, R302). (Assumption 82 DEDUCED) -/
def execProfileReloadDone (ax : Nat) (ok : Bool) (s : State) : Out :=
  s.live (withAxis ax (fun m =>
    if (m.obst ax).loading then
      if ok then
        let f := m.ob.saved.getD ax Prof.reset
        m.onOb ax (fun o => { o with prof := f, loading := false })
      else (m.onOb ax (fun o => { o with loading := false })).profileInvalid ax 3
    else m))

/-- PROFILE_SAVE (R300); it completes when class 8 makes the save. -/
def execProfileSave (h : Hdr) (s : State) : Out :=
  s.ring h descProfileSave Mode.reads (fun m =>
    if m.runs 8 then
      let m := m.saveNow 0
      (m, some { status := 0, res := m.ob.savedSeq })
    else (m.saveWith 0 (some h), none))

/-! ### Learn run (R270) -/

/-- R270's conditions, the mode among them. (Assumption 79 DEDUCED) -/
def Mod.learnReady (m : Mod) (p : Nat) : Bool :=
  decide (m.md = .commission) && !m.learning p && !(m.leaves p).isEmpty
    && (m.roleAxes p).all (fun i => (m.axis i).referenced && !m.moving i)
    && [0, 1, 3].all (fun r => (m.roleAxis p r).isNone || ((m.posUm p r 0).isSome && (m.posUm p r 1).isSome))
    && [0, 1].all (fun r => (m.roleAxis p r).isNone || m.atPosK p r 0)

/-- A move of one role to POSk with a profile set, at the next tick; a refusal is the run's failure. -/
def Mod.learnMove (m : Mod) (p r k set : Nat) : Mod :=
  match m.roleAxis p r, m.posUm p r k with
  | some i, some x =>
    let a := m.tableMove p (2 ^ 13 * set) x
    (match m.moveCheck i false a with
      | some st => m.onLearn p (fun l => { l with failed := some (l.failed.getD (st % 256)) })
      | none => m.onAx i (fun b => { b with arr := b.arr ++ [.move .self a none] }))
  | _, _ => m

/-- Chime and warning lamp of a portal (R270). (Assumption 79 DEDUCED) -/
def Mod.learnWarn (m : Mod) (p : Nat) (on : Bool) : Mod :=
  let m := match m.portalLs p 2 with
    | some n => m.lsCommand n (b2n on)
    | none => m
  match m.portalLs p 1 with
  | some n => m.lsCommand n (if on then 2 else 0)
  | none => m

def Mod.learnOpen (m : Mod) (p : Nat) : Mod :=
  ((m.learnMove p 0 1 0).learnMove p 1 1 0).onLearn p (fun l => { l with ph := .opening })

/-- LEARN_RUN. (Assumption 79 DEDUCED) -/
def execLearnRun (h : Hdr) (p : Nat) (s : State) : Out :=
  s.ring h (descLearnRun p) Mode.reads (onPortalCmd p (fun m =>
    let m := m.takeDue (fun d i => d.id == P.learnCycles.id && decide (i = p))
    if !m.learnReady p then (m, some (refuse 0x2401))
    else match m.startLong (some h) (.learn p) 0 with
      | (m, some r) => (m, some r)
      | (m, none) =>
        let m := m.setLearn (m.ob.learn ++ [⟨p, some h, .unlock, 0, [], [], [], none⟩])
        (m.learnMove p 3 1 2, none)))

/-- The run ends: its axes stop, the warning ends, the profile is unchanged. -/
def Mod.learnStop (m : Mod) (p : Nat) : Mod :=
  let m := (m.roleAxes p).foldl (fun m i =>
    if m.moving i then m.onAx i (fun a => { a with arr := .stop .self :: a.arr }) else m) m
  let m := m.setLearn (m.ob.learn.filter (fun l => l.p != p))
  m.learnWarn p false

/-- (Assumption 79 DEDUCED) -/
def Mod.learnOp (m : Mod) (p : Nat) : Option LongOp := m.host.ops.find? (fun o => o.kind == .learn p)

/-- LEARN_RUN_FAILED with its DETAIL. -/
def Mod.learnFailed (m : Mod) (p detail : Nat) : Mod :=
  let op := m.learnOp p
  let m := (m.learnStop p).dropOps (fun o => o.kind == .learn p)
  m.completeTo (op.bind (fun o => o.hdr)) { status := 0x4401, detail := detail }

/-- A fault of a role axis: the low byte of its event. -/
def Mod.learnFault (m : Mod) (p : Nat) : Option Nat :=
  (m.roleAxes p).findSome? (fun i =>
    let a := m.axis i
    match a.fault with
    | some 1 => some 0x03
    | some 2 => some 0x04
    | some 3 => some 0x0D
    | some 4 => some 0x12
    | some _ => some 0x07
    | none =>
      if a.encBad then some 0x12
      else if !a.torque then some 0x07
      else
        let why : Option StopWhy := (a.mv.map (fun x => x.stop)).join
        (match why with
          | some (.fault _) => some 0x01
          | some .safeStop => some 0x0A
          | _ => none))

/-- The role's plan has ended at POSk; none while it runs. -/
def Mod.learnAt (m : Mod) (p r k : Nat) : Option Bool :=
  match m.roleAxis p r, m.posUm p r k with
  | some i, some x => if m.moving i ∨ ¬ (m.axis i).arr.isEmpty then none else some (decide ((m.axis i).pcmd = m.stepPos i x))
  | _, _ => some true

/-- All roles: still running (none), all there, or one stopped elsewhere. -/
def Mod.learnAll (m : Mod) (p : Nat) (roles : List Nat) (k : Nat) : Option Bool :=
  let l := roles.map (fun r => m.learnAt p r k)
  if l.contains none then none else some (l.all (fun x => decide (x = some true)))

/-- Bin samples of one tick of the run. -/
def Mod.learnSample (m : Mod) (p : Nat) : Mod :=
  (upto 2).foldl (fun m r => match m.roleAxis p r with
    | some i =>
      let cl := m.toward0 i
      (match (m.obst i).fEst with
        | some f => if (cl || m.toward1 i) && m.sampling i then
            m.onLearn p (fun l => { l with cur := addBin l.cur r cl (m.binNow i) f }) else m
        | none => m)
    | none => m) m

/-- Add one cycle's sample of a bin to the run's samples. -/
def addSample (l : List (Nat × Bool × Nat × List Int)) (x : Nat × Bool × Nat × Int × Nat) :
    List (Nat × Bool × Nat × List Int) :=
  let (r, cl, b, sum, n) := x
  let v := roundDiv sum n
  match l with
  | [] => [(r, cl, b, [v])]
  | (r', cl', b', vs) :: rest =>
    if r' = r ∧ cl' = cl ∧ b' = b then (r', cl', b', vs ++ [v]) :: rest else (r', cl', b', vs) :: addSample rest x

/-- A cycle of the run is complete. -/
def Learn.cycleDone (l : Learn) : Learn :=
  { l with cycle := l.cycle + 1, samples := l.cur.foldl addSample l.samples, cur := [] }

/-- One tick of a learn run. (Assumption 79 DEDUCED) -/
def Mod.learnTick (m : Mod) (l : Learn) : Mod :=
  let p := l.p
  match l.failed, m.learnFault p with
  | some d, _ => m.learnFailed p d
  | none, some d => m.learnFailed p d
  | none, none =>
    let m := m.learnSample p
    match l.ph with
    | .unlock => (match m.learnAll p [3] 1 with
      | some true => m.learnOpen p
      | some false => m.learnFailed p 0
      | none => m)
    | .opening => (match m.learnAll p [0, 1] 1 with
      | some true => (m.learnWarn p true).onLearn p (fun l => { l with ph := .warning (m.raw + m.pn P.warningTime p * MS) })
      | some false => m.learnFailed p 0
      | none => m)
    | .warning u =>
      if u ≤ m.raw then
        (((m.learnWarn p false).learnMove p 0 0 1).learnMove p 1 0 1).onLearn p (fun l => { l with ph := .closing })
      else m
    | .closing => (match m.learnAll p [0, 1] 0 with
      | some true => m.onLearn p (fun l => { l with ph := .dwell })
      | some false => m.learnFailed p 0
      | none => m)
    | .dwell =>
      if (m.leaves p).all (fun i => decide ((m.obst i).probe = .clear)) then
        let m := m.onLearn p Learn.cycleDone
        if l.cycle + 1 < m.pn P.learnCycles p then m.learnOpen p
        else (m.learnMove p 3 0 2).onLearn p (fun l => { l with ph := .locking })
      else m
    | .locking => (match m.learnAll p [3] 0 with
      | some true => m.onLearn p (fun l => { l with ph := .confirm (m.raw + m.pn P.lockConfirmTime p * MS) })
      | some false => m.learnFailed p 0
      | none => m)
    | .confirm d =>
      if m.lockSw false p then m.onLearn p (fun l => { l with ph := .write })
      else if d ≤ m.raw then m.learnFailed p 0x06 else m
    | .write => m

/-- Mean and mean absolute deviation of a bin's samples, the spread at least 1.0 N. -/
def binStat (vs : List Int) : Int × Int :=
  let n : Int := vs.length
  let mean := roundDiv (vs.foldl (· + ·) 0) (max 1 n)
  (mean, max 10 (roundDiv (vs.foldl (fun a x => a + ((x - mean).natAbs : Int)) 0) (max 1 n)))

/-- The value of bin `b` from the visited bins: its own, or the mean of its nearest visited neighbours. -/
def binFill (l : List (Nat × Int × Int)) (b : Nat) : Int × Int :=
  match l.find? (fun x => x.1 == b) with
  | some x => x.2
  | none =>
    let lo := l.foldl (fun (o : Option (Nat × Int × Int)) x =>
      if x.1 < b then (match o with | some y => if y.1 < x.1 then some x else o | none => some x) else o) none
    let hi := l.foldl (fun (o : Option (Nat × Int × Int)) x =>
      if b < x.1 then (match o with | some y => if x.1 < y.1 then some x else o | none => some x) else o) none
    match lo, hi with
    | some x, some y => (roundDiv (x.2.1 + y.2.1) 2, roundDiv (x.2.2 + y.2.2) 2)
    | some x, none => x.2
    | none, some y => y.2
    | none, none => (0, 10)

/-- Step 4 of R270 for one leaf. -/
def Learn.prof (l : Learn) (r : Nat) : Prof :=
  let side (cl : Bool) : List (Nat × Int × Int) :=
    (l.samples.filter (fun x => x.1 == r && x.2.1 == cl)).map (fun x => (x.2.2.1, binStat x.2.2.2))
  let c := side true
  let o := side false
  let dw := l.dwells.filter (fun x => x.1 == r)
  let n : Int := max 1 dw.length
  { valid := true,
    bins := (upto 4096).map (fun b =>
      let x := binFill c b
      let y := binFill o b
      (b, [x.1, x.2, y.1, y.2])),
    compliance := (roundDiv (dw.foldl (fun a x => a + (x.2.1 : Int)) 0) n).toNat,
    onset := roundDiv (dw.foldl (fun a x => a + x.2.2) 0) n,
    cycles := 0 }

/-- The last step of the run: write, save, complete. -/
def Mod.learnWrite (m : Mod) (l : Learn) : Mod :=
  let p := l.p
  let op := m.learnOp p
  let m := (upto 2).foldl (fun m r => match m.roleAxis p r with
    | some i => m.onOb i (fun o => { o with prof := l.prof r, changed := false })
    | none => m) m
  let big : Int := (m.leaves p).foldl (fun b i =>
    (m.obst i).prof.bins.foldl (fun b x => max b (max (x.2.getD 1 0) (x.2.getD 3 0))) b) 0
  let m := m.setLearn (m.ob.learn.filter (fun x => x.p != p))
  let m := (m.saveProfiles p).raise 0x300E p [l.cycle, big]
  (m.dropOps (fun o => o.kind == .learn p)).completeTo (op.bind (fun o => o.hdr)) { status := 0, res := l.cycle }

end Sys2Proof.Machine
end

