-- ==== Sys2Proof/Machine/Can.lean ====
section
/-! DEFINITION. The CAN FD ports and their commands (11_can_fd.md). -/
namespace Sys2Proof.Machine

def Mod.canPort (m : Mod) (p : Nat) : CanPort := m.can.getD p CanPort.reset
def Mod.onCan (m : Mod) (p : Nat) (f : CanPort → CanPort) : Mod := { m with can := upd m.can p f }

def CanPort.en (c : CanPort) : Bool := bit c.cfg 31
def CanPort.fdEn (c : CanPort) : Bool := bit c.cfg 30
def CanPort.brsEn (c : CanPort) : Bool := bit c.cfg 29
def CanPort.op (c : CanPort) : Nat := field c.cfg 27 2
def CanPort.byNumber (c : CanPort) : Bool := bit c.cfg 26
def CanPort.offAuto (c : CanPort) : Bool := bit c.cfg 25
def CanPort.collStop (c : CanPort) : Bool := bit c.cfg 24

/-- The first rule of R399 that fails, from 1. -/
def CanPort.timingFault (c : CanPort) : Option Nat :=
  let nclk := (field c.nbtp 0 8 + 1) * (1 + (field c.nbtp 16 9 + 1) + (field c.nbtp 8 7 + 1))
  let dclk := (field c.dbtp 16 5 + 1) * (1 + (field c.dbtp 8 5 + 1) + (field c.dbtp 4 4 + 1))
  if nclk < 40 ∨ 320 < nclk then some 1
  else if dclk < 8 ∨ nclk < dclk then some 2
  else if field c.nbtp 8 7 < field c.nbtp 25 7 ∨ field c.dbtp 4 4 < field c.dbtp 0 4 then some 3
  else if bit c.dbtp 23 ∧ 2 < field c.dbtp 16 5 + 1 then some 4
  else none

/-- The arbitration field as a number; the lower wins (R405). -/
def CanTx.prio (f : CanTx) : Nat :=
  if f.ide then
    (f.ident / 262144) * 2097152 + 1572864 + (f.ident % 262144) * 2 + b2n f.rtr
  else f.ident * 2097152 + b2n f.rtr * 1048576

/-- An object of the table, word 0 to 2 (R411). -/
def canObjOf (w0 w1 w2 : Nat) : CanObj :=
  { CanObj.reset with
    valid := bit w0 31, send := bit w0 30, ide := bit w0 29, ident := field w0 0 29, fdf := bit w1 31,
    brs := bit w1 30, addrEmbed := bit w1 29, mask := field w1 0 29, period := field w2 16 16,
    dlc := field w2 0 4 }

def canObjs (tab : List Nat) : List CanObj :=
  (upto 128).map (fun n => canObjOf (tab.getD (4 * n) 0) (tab.getD (4 * n + 1) 0) (tab.getD (4 * n + 2) 0))

/-- A send object that breaks R404, FD_EN as it stands, or an object that sets a reserved bit (R411); a bit that R411 gives to
one direction alone counts as reserved in the other. -/
def canObjBad (fdEn : Bool) (w0 w1 w2 w3 : Nat) : Bool :=
  let o := canObjOf w0 w1 w2
  decide (field w2 4 12 ≠ 0) || decide (w3 ≠ 0)
    || (o.send && ((o.fdf && !fdEn) || (o.brs && !o.fdf) || (o.addrEmbed && !o.ide) || decide (o.mask ≠ 0)
        || (!o.ide && decide (2048 ≤ o.ident))
        || (decide (o.period ≠ 0) && (decide (o.period < 10) || decide (60000 < o.period)))))
    || (!o.send && (o.brs || o.addrEmbed))

/-! ### Sources -/

/-- The pending frame of a source (R403, R405). -/
def CanPort.src (c : CanPort) (s : Nat) : Option CanTx :=
  if s < 3 then c.txb.getD s none
  else if 0x80 ≤ s ∧ s < 0x100 then (c.objs.getD (s - 0x80) CanObj.reset).pend
  else if s = 0x100 then c.status else none

def CanPort.setSrc (c : CanPort) (s : Nat) (f : Option CanTx) : CanPort :=
  if s < 3 then { c with txb := upd c.txb s (fun _ => f) }
  else if 0x80 ≤ s ∧ s < 0x100 then { c with objs := upd c.objs (s - 0x80) (fun o => { o with pend := f }) }
  else if s = 0x100 then { c with status := f } else c

/-- The pending sources in the order of TX_ORDER = 1. -/
def CanPort.pending (c : CanPort) : List (Nat × CanTx) :=
  ([0, 1, 2] ++ (upto 128).map (· + 0x80) ++ [0x100]).filterMap (fun s => (c.src s).map (fun f => (s, f)))

/-- The source with the lowest arbitration field; the first one on a tie. -/
def bestSrc : List (Nat × CanTx) → Option (Nat × CanTx)
  | [] => none
  | x :: r => match bestSrc r with
    | some y => if y.2.prio < x.2.prio then some y else some x
    | none => some x

def CanPort.offer (c : CanPort) : Option (Nat × CanTx) :=
  if c.byNumber then c.pending.head? else bestSrc c.pending

/-! ### Error states (R407) -/

/-- (Assumption 99 PRESUMED) -/
def CanPort.level (c : CanPort) : Nat :=
  if 256 ≤ c.tec then 2 else if 128 ≤ c.tec ∨ 128 ≤ c.recErr then 1 else 0

/-- Follow the error counters; each change raises CAN_ERROR_STATE. (Assumption 99 PRESUMED) -/
def Mod.canState (m : Mod) (p : Nat) : Mod :=
  let c := m.canPort p
  let l := c.level
  if c.errState = l ∨ 2 ≤ c.errState then m
  else
    let m := m.onCan p (fun c => { c with
      errState := l,
      busOffs := if l = 2 then min (c.busOffs + 1) 0xFFFF else c.busOffs,
      busOffAt := if l = 2 then m.raw else c.busOffAt,
      recovering := decide (l = 2) && c.offAuto })
    m.raise 0x6006 p [l, c.tec, c.recErr]

/-- Abort every pending frame with a reason. -/
def Mod.canAbortAll (m : Mod) (p reason : Nat) : Mod :=
  (m.canPort p).pending.foldl (fun m x =>
    (m.onCan p (fun c => c.setSrc x.1 none)).raise 0x6003 p [x.1, reason]) m

/-- What a failed attempt leaves: a late cancel removes the frame (R410). (Assumption 98 DEDUCED) -/
def Mod.canLate (m : Mod) (p src : Nat) (late : Option Hdr) : Mod :=
  match late, (m.canPort p).src src with
  | some h, some f => ((m.onCan p (fun c => c.setSrc src none)).raise 0x6002 p [src, f.ident]).complete h okReply
  | some h, none => m.complete h okReply
  | none, _ => m

/-- Leave the bus and abort the pending frames; an attempt cut short answers its late cancel.
 (Assumption 98 DEDUCED) -/
def Mod.canDisableNow (m : Mod) (p reason : Nat) : Mod :=
  let m := match (m.canPort p).attempt with
    | some (src, _, late) => m.canLate p src late
    | none => m
  let m := m.onCan p (fun c => { c with
    errState := 3, recovering := false, attempt := none, disabling := false, cfg := c.cfg % 2 ^ 31 })
  m.canAbortAll p reason

/-- The pending frames of a module that hands over are lost (R396): no event is defined for them. -/
def Mod.canLost (m : Mod) : Mod :=
  (upto 2).foldl (fun m p =>
    let m := match (m.canPort p).attempt with
      | some (src, _, late) => m.canLate p src late
      | none => m
    m.onCan p (fun c => { c.pending.foldl (fun c x => c.setSrc x.1 none) c with attempt := none })) m

/-- Both ports at a control-die reset (R397): frames, contents and counters are lost, the registers take
their reset values, the object table stays. -/
def Mod.canReset (m : Mod) : Mod :=
  (upto 2).foldl (fun m p =>
    (m.canAbortAll p 3).onCan p (fun c => { CanPort.reset with tab := c.tab })) m

/-! ### Set-up commands (R399, R401) -/

/-- Fields of a write to +0x0C while the port is enabled: FD_EN and OP_MODE keep their values. -/
def canCfgKeep (old new : Nat) : Nat :=
  old &&& 0x58000000 ||| new &&& 0x27000000

/-- PORT_EN written 1: the check of R399, or on a port that has joined the bus the fields it may still change. -/
def Mod.canEnable (m : Mod) (p cfg : Nat) : Mod :=
  if p < 2 then
    let c := m.canPort p
    if c.en then m.onCan p (fun c => { c with cfg := 2 ^ 31 + canCfgKeep c.cfg cfg })
    else match c.timingFault with
      | some k => (m.onCan p (fun c => { c with cfg := cfg &&& 0x7F000000, cfgRejected := true })).raise 0x6009 p [k]
      | none => m.onCan p (fun c => { c with
          cfg := 2 ^ 31 + (cfg &&& 0x7F000000), cfgRejected := false, errState := 0, recovering := false,
          recErr := 0, tec := 0, objs := canObjs c.tab, statusAt := m.raw })
  else m

/-- CAN_PORT_ENABLE (R399, R401, R411). -/
def execCanPortEnable (p cfg : Nat) (s : State) : Out := s.live (fun m => m.canEnable p cfg)

/-- PORT_EN written 0: the bus is released at the end of the frame in progress. (Assumption 98 DEDUCED) -/
def Mod.canDisable (m : Mod) (p cfg : Nat) : Mod :=
  if p < 2 then
    let c := m.canPort p
    if c.en then
      let m := m.onCan p (fun c => { c with cfg := 2 ^ 31 + canCfgKeep c.cfg cfg })
      if c.attempt.isSome then m.onCan p (fun c => { c with disabling := true }) else m.canDisableNow p 2
    else m.onCan p (fun c => { c with cfg := cfg &&& 0x7F000000 })
  else m

/-- CAN_PORT_DISABLE (R401). -/
def execCanPortDisable (p cfg : Nat) (s : State) : Out := s.live (fun m => m.canDisable p cfg)

/-- BUS_OFF_RECOVER written 1 (R401, R407): the sequence starts. A bus-off entered with BUSOFF_AUTO 1 has started it, and a
change of BUSOFF_AUTO takes effect at the next bus-off. -/
def Mod.canRecover (m : Mod) (p : Nat) : Mod :=
  m.onCan p (fun c => if c.errState = 2 then { c with recovering := true } else c)

/-- CAN_BUS_OFF_RECOVER (R407). -/
def execCanBusOffRecover (p : Nat) (s : State) : Out := s.live (fun m => m.canRecover p)

/-- COUNTER_CLEAR written 1 (R401). -/
def Mod.canClear (m : Mod) (p : Nat) : Mod :=
  m.onCan p (fun c => { c with
    txOk := 0, rxOk := 0, errors := 0, rxDropped := 0, collisions := 0, busOffs := 0 })

/-- CAN_COUNTER_CLEAR (R401). -/
def execCanCounterClear (p : Nat) (s : State) : Out := s.live (fun m => m.canClear p)

/-! ### Transmit commands (R403, R404, R410, R414, R417) -/

/-- The frame of R404, or its refusal. -/
def Mod.canFrame (m : Mod) (p : Nat) (a : CanArgs) : CanTx ⊕ Nat :=
  let c := m.canPort p
  if (a.fdf && !c.fdEn) || (a.brs && !a.fdf) || (a.rtr && a.fdf) || a.reserved
      || decide ((if a.ide then 2 ^ 29 else 2048) ≤ a.ident) || (a.addrEmbed && !a.ide) then .inr 0x1701
  else if a.addrEmbed && m.fab.addr.isNone then .inr 0x2703
  else
    let id := if a.addrEmbed then a.ident / 512 * 512 + m.fab.addr.getD 0 else a.ident
    .inl ⟨a.ide, a.fdf, a.brs, a.rtr, id, a.dlc, fitData a.fdf a.dlc a.data, 0, 0⟩

/-- CAN_TX (R403, R404). -/
def execCanTx (h : Hdr) (p buf : Nat) (a : CanArgs) (s : State) : Out :=
  s.ring h (descCanTx p buf a) Mode.comm (fun m =>
    if 2 ≤ p then (m, some (refuse 0x1004))
    else if 3 ≤ buf then (m, some (refuse 0x1003))
    else if !(m.canPort p).en then (m, some (refuse 0x2701))
    else match m.canFrame p a with
      | .inr st => (m, some (refuse st))
      | .inl f =>
        if ((m.canPort p).src buf).isSome then (m, some (refuse 0x2702))
        else (m.onCan p (fun c => c.setSrc buf (some f)), some okReply))

/-- CAN_TX_CANCEL (R410): late while an attempt of the source runs. (Assumption 98 DEDUCED) -/
def execCanTxCancel (h : Hdr) (p src : Nat) (s : State) : Out :=
  s.ring h (descCanTxCancel p src) Mode.comm (fun m =>
    if 2 ≤ p then (m, some (refuse 0x1004))
    else if ¬ (src < 3 ∨ (0x80 ≤ src ∧ src < 0x100)) then (m, some (refuse 0x1003))
    else match (m.canPort p).src src with
      | none => (m, some (refuse 0x2705))
      | some f =>
        match (m.canPort p).attempt with
        | some (r, t, _) =>
          if r = src then (m.onCan p (fun c => { c with attempt := some (r, t, some h) }), none)
          else ((m.onCan p (fun c => c.setSrc src none)).raise 0x6002 p [src, f.ident], some okReply)
        | none => ((m.onCan p (fun c => c.setSrc src none)).raise 0x6002 p [src, f.ident], some okReply))

/-- The frame a send object makes of its data. -/
def Mod.objFrame (m : Mod) (o : CanObj) (d : List Byte) : CanTx :=
  let id := if o.addrEmbed then o.ident / 512 * 512 + m.fab.addr.getD 0 else o.ident
  ⟨o.ide, o.fdf, o.brs, false, id, o.dlc, fitData o.fdf o.dlc d, 0, 0⟩

/-- CAN_OBJ_WRITE (R414). -/
def execCanObjWrite (h : Hdr) (p obj : Nat) (sendNow : Bool) (data : List Byte) (s : State) : Out :=
  s.ring h (descCanObjWrite p obj sendNow data) Mode.comm (fun m =>
    let o := (m.canPort p).objs.getD obj CanObj.reset
    if 2 ≤ p then (m, some (refuse 0x1004))
    else if 128 ≤ obj then (m, some (refuse 0x1003))
    else if !(m.canPort p).en then (m, some (refuse 0x2701))
    else if !(o.valid && o.send) then (m, some (refuse 0x1702))
    else if o.addrEmbed && m.fab.addr.isNone then (m, some (refuse 0x2703))
    else
      let due := if o.period = 0 then none else some (o.due.getD (m.raw + o.period * MS))
      (m.onCan p (fun c => { c with objs := upd c.objs obj (fun o => { o with
        data := some data, due := due,
        pend := if sendNow then some (m.objFrame o data) else o.pend }) }), some okReply))

/-- CAN_OBJ_READ (R413). -/
def execCanObjRead (h : Hdr) (p obj len : Nat) (s : State) : Out :=
  s.ring h (descCanObjRead p obj len) Mode.reads (fun m =>
    let o := (m.canPort p).objs.getD obj CanObj.reset
    if 2 ≤ p then (m, some (refuse 0x1004))
    else if 128 ≤ obj then (m, some (refuse 0x1003))
    else if len < 80 then (m, some (refuse 0x1006))
    else if !o.valid || o.send then (m, some (refuse 0x1702))
    else
      let (f, t) := o.rx.getD (⟨o.ide, false, false, false, false, 0, 0, []⟩, 0)
      let w1 : Nat := b2n o.new * 2 ^ 31 + b2n o.overrun * 2 ^ 30 + b2n f.fdf * 2 ^ 29 + b2n f.brs * 2 ^ 28
        + b2n f.esi * 2 ^ 27 + f.dlc % 16
      let buf := le4 (f.ident : Nat) ++ le4 (w1 : Nat) ++ le4 (t % 1000000000) ++ le4 (t / 1000000000)
        ++ (f.data ++ List.replicate 64 (0 : Byte)).take 64
      (m.onCan p (fun c => { c with objs := upd c.objs obj (fun o => { o with new := false, overrun := false }) }),
        some { status := 0, buf := buf }))

/-! ### The bus -/

/-- Modes and operations in which the port sends nothing (R402). -/
def Mod.canSilent (m : Mod) (p : Nat) : Bool :=
  let c := m.canPort p
  decide (m.md = .dormant) || decide (m.md = .safeHold) || decide (c.op = 1) || decide (c.op = 2)

/-- CAN_ARBITRATION (R400, R402, R405): an attempt begins at its SOF sample point. -/
def execCanArbitration (p tdc : Nat) (s : State) : Out :=
  s.live (fun m =>
    let c := m.canPort p
    if c.en && decide (c.errState < 2) && c.attempt.isNone && !m.canSilent p then
      match c.offer with
      | some (src, f) =>
        let tdcr := if bit c.dbtp 23 && f.fdf && f.brs && c.brsEn && decide (field c.tdcr 8 7 ≤ tdc)
          then c.tdcr % 2 ^ 16 + tdc % 128 * 2 ^ 16 else c.tdcr
        m.onCan p (fun c => { (c.setSrc src (some { f with attempts := min (f.attempts + 1) 65535 })) with
          attempt := some (src, m.now / 25 * 25, none), tdcr := tdcr })
      | none => m
    else m)

/-- Store a received frame (R412). -/
def Mod.canStore (m : Mod) (p : Nat) (f : CanFrame) (t : Int) : Mod :=
  let c := m.canPort p
  let hit (o : CanObj) : Bool := o.valid && !o.send && (o.ide == f.ide)
    && decide (f.ident &&& o.mask = o.ident &&& o.mask) && (!f.fdf || o.fdf)
  match (upto 128).find? (fun n => hit (c.objs.getD n CanObj.reset)) with
  | none => m.onCan p (fun c => { c with rxDropped := min (c.rxDropped + 1) 0xFFFFFFFF })
  | some n =>
    let was := (c.objs.getD n CanObj.reset).new
    let m := m.onCan p (fun c => { c with objs := upd c.objs n (fun o => { o with
      rx := some (f, t), new := true, overrun := o.overrun || was }) })
    let m := m.raiseT t 0x6004 p [n, f.dlc, f.ident]
    if was then m.raiseT t 0x6005 p [n] else m

/-- A bit error in the data field (R408, R409). -/
def Mod.canCollide (m : Mod) (p src : Nat) (f : CanTx) : Mod :=
  if 16 ≤ f.coll + 1 then
    let m := m.onCan p (fun c => { (c.setSrc src (some { f with coll := 0 })) with
      collisions := min (c.collisions + 1) 0xFFFF })
    let m := m.raise 0x6008 p [src, f.ident]
    if (m.canPort p).collStop then (m.onCan p (fun c => c.setSrc src none)).raise 0x6003 p [src, 1] else m
  else m.onCan p (fun c => c.setSrc src (some { f with coll := f.coll + 1 }))

/-- CAN_TX_ATTEMPT_END (R403, R406 to R410). (Assumption 99 PRESUMED) -/
def execCanTxAttemptEnd (p : Nat) (r : Attempt) (s : State) : Out :=
  s.live (fun m =>
    match (m.canPort p).attempt with
    | some (src, t, late) =>
      let m := m.onCan p (fun c => { c with attempt := none })
      let f := ((m.canPort p).src src).getD ⟨false, false, false, false, 0, 0, [], 0, 0⟩
      let m := match r with
        | .success =>
          let m := m.onCan p (fun c => { (c.setSrc src none) with tec := c.tec - 1, txOk := min (c.txOk + 1) 0xFFFFFFFF })
          let m := m.raiseT t 0x6001 p [src, f.ident, f.attempts, b2n late.isSome]
          let m := if (m.canPort p).op = 3 then
            m.canStore p ⟨f.ide, f.fdf, f.brs, false, f.rtr, f.ident, f.dlc, f.data⟩ t else m
          (match late with
            | some h => m.complete h { status := 0x0030 }
            | none => m)
        | .lost => (m.onCan p (fun c => c.setSrc src (some { f with coll := 0 }))).canLate p src late
        | .dataBit =>
          let m := m.onCan p (fun c => { c with tec := c.tec + 8, lec := 4, errors := min (c.errors + 1) 0xFFFFFFFF })
          (m.canCollide p src f).canLate p src late
        | .error lec =>
          let m := m.onCan p (fun c => { (c.setSrc src (some { f with coll := 0 })) with
            tec := if lec = 3 ∧ c.errState = 1 then c.tec else c.tec + 8, lec := lec % 8,
            errors := min (c.errors + 1) 0xFFFFFFFF })
          m.canLate p src late
      let m := m.canState p
      if (m.canPort p).disabling then m.canDisableNow p 2 else m
    | none => m)

/-- CAN_RX_FRAME (R402, R407, R412). (Assumptions 11 DESIGN CHOICE, 99 PRESUMED) -/
def execCanRxFrame (p : Nat) (f : CanFrame) (s : State) : Out :=
  s.live (fun m =>
    let c := m.canPort p
    if c.en && decide (c.errState < 2) && (!f.fdf || c.fdEn) then
      let pick := 119 + Config.recPick m.freeCtr % 9
      let m := if 128 ≤ c.recErr then { m with freeCtr := m.freeCtr + 1 } else m
      let m := m.onCan p (fun c => { c with
        rxOk := min (c.rxOk + 1) 0xFFFFFFFF,
        recErr := if 128 ≤ c.recErr then pick else c.recErr - 1 })
      (m.canState p).canStore p f m.now
    else m)

/-- CAN_RECEIVE_ERROR (R407). (Assumption 99 PRESUMED) -/
def execCanReceiveError (p : Nat) (e : RxErr) (s : State) : Out :=
  s.live (fun m =>
    let c := m.canPort p
    if c.en && decide (c.errState < 2) then
      let (n, lec) := match e with
        | .plus1 l => (1, l)
        | .plus8 l => (8, l)
      (m.onCan p (fun c => { c with
        recErr := min (c.recErr + n) 255, lec := lec % 8, errors := min (c.errors + 1) 0xFFFFFFFF })).canState p
    else m)

/-- CAN_BUS_OFF_RECOVERED (R407). -/
def execCanBusOffRecovered (p : Nat) (s : State) : Out :=
  s.live (fun m =>
    let c := m.canPort p
    if c.errState = 2 ∧ c.recovering then
      let m := m.onCan p (fun c => { c with errState := 0, recovering := false, tec := 0, recErr := 0 })
      (m.raise 0x6006 p [0, 0, 0]).raise 0x6007 p [((m.raw - c.busOffAt) / MS : Nat)]
    else m)

/-- CAN_TXD_TIMEOUT (R395). -/
def execCanTxdTimeout (p : Nat) (s : State) : Out :=
  s.live (fun m => if (m.canPort p).en then (m.raise 0x600B p []).canDisableNow p 2 else m)

/-- The first instant after `t` and after the present on a grid of `per` ticks. -/
def Mod.nextOn (m : Mod) (t per : Nat) : Nat := t + per * ((m.raw - t) / per + 1)

/-- CAN_PERIODIC_SEND (R414): on the grid of PERIOD from the first data load, whether or not sends were suspended meanwhile. -/
def execCanPeriodicSend (p obj : Nat) (s : State) : Out :=
  s.live (fun m =>
    let o := (m.canPort p).objs.getD obj CanObj.reset
    match o.due, o.data with
    | some t, some d =>
      if (m.canPort p).en && decide (m.md ≠ .shadow) then
        let m := m.advance t
        let next (m : Mod) (f : CanObj → CanObj) : Mod :=
          m.onCan p (fun c => { c with objs := upd c.objs obj (fun o => { (f o) with due := some (m.nextOn t (o.period * MS)) }) })
        if o.pend.isSome then (next m id).raise 0x600A p [obj]
        else next m (fun o => { o with pend := some (m.objFrame o d) })
      else m
    | _, _ => m)

/-- The status frame's data (R415). -/
def Mod.canStatusData (m : Mod) : List Byte :=
  let st (p : Nat) : Byte := BitVec.ofNat 8 (m.portal p).state
  [BitVec.ofNat 8 m.md.num, st 0, st 1, st 2, st 3] ++ leBytes 2 m.h500C
    ++ [BitVec.ofNat 8 (b2n m.saf.loops.L.shows + 2 * b2n m.saf.loops.R.shows
      + 4 * b2n (m.saf.reedLost.isSome || m.saf.boreLost.isSome) + 8 * b2n m.twinActive)]

/-- CAN_STATUS_FRAME (R415, R416). -/
def execCanStatusFrame (p : Nat) (s : State) : Out :=
  s.live (fun m =>
    let per := m.pn P.canStatusPeriod p
    match m.fab.addr with
    | some a =>
      if (m.canPort p).en && decide (per ≠ 0) && decide (m.md ≠ .dormant) && decide (m.md ≠ .safeHold) then
        let m := m.advance (m.canPort p).statusAt
        let f : CanTx := ⟨true, false, false, false, m.pn P.canStatusBaseId p / 512 * 512 + a, 8, m.canStatusData, 0, 0⟩
        m.onCan p (fun c => { c with status := some f, statusAt := m.nextOn c.statusAt (per * MS) })
      else m
    | none => m)

end Sys2Proof.Machine
end

