-- ==== Sys2Proof/Machine/ParamCmd.lean ====
section
/-! DEFINITION. The generic commands of R138: parameters with their ranges and the checks of every
chapter, and the tables that are read and written as blocks. -/
namespace Sys2Proof.Machine

/-! ### Checks of a value against the other written values -/

/-- Two DI numbers, or 0x7F for none, in bits 14:8 and 6:0 (R261, R354). -/
def twoDi (x : Nat) : Bool :=
  let ok (n : Nat) : Bool := decide (n < 64) || n == 0x7F
  ok (field x 0 7) && ok (field x 8 7) && !bit x 7 && decide (x < 32768)

/-- R170: eight fields of at most 16 sixteenths, bits 63:40 zero. -/
def embouchureOk (x : Nat) : Bool := decide (x < 2 ^ 40) && (upto 8).all (fun k => decide (field x (5 * k) 5 ≤ 16))

/-- R195: reserved bits and field ranges of SSI_FORMAT. -/
def ssiFormatOk (x : Nat) : Bool :=
  !bit x 30 && decide (field x 21 3 = 0) && decide (field x 18 2 = 0) && decide (field x 6 2 = 0)
    && decide (8 ≤ field x 12 6) && decide (field x 12 6 ≤ 32) && decide (field x 8 4 ≤ 8)
    && decide (10 ≤ field x 0 6) && decide (field x 0 6 ≤ 32)

/-- The values a parameter's table gives beside its range. (Assumption 96 DEDUCED) -/
def valueOk (part : Part) (d : PDef) (x : Int) : Bool :=
  let n := x.toNat
  d.ok part x
    && (if d.id = P.embouchure.id then embouchureOk n
      else if d.id = P.ssiFormat.id then ssiFormatOk n
      else if d.id = P.openButtonDi.id ∨ d.id = P.closeButtonDi.id ∨ d.id = P.safetyPairDi.id then twoDi n
      else if d.id = P.portalLsMap.id then
        (upto 3).all (fun k => decide (field n (8 * k) 8 < 24) || field n (8 * k) 8 == 0xFF)
      else if d.id = P.feedUn.id then [24, 48, 72, 96, 110].contains n
      else if d.id = P.svcIpv4Addr.id then decide (n / 2 ^ 24 ≠ 127)
      else true)

/-- A portal axis map (R237). -/
def axisMapOk (n : Nat) : Bool :=
  let ks := (upto 4).map (fun r => field n (3 * r) 3)
  ks.all (fun k => decide (k < 4) || k == 7)
    && (upto 4).all (fun a => (upto 4).all (fun b =>
      a == b || ks.getD a 7 == 7 || ks.getD a 7 != ks.getD b 7))
    && !(ks.getD 0 7 == 7 && ks.getD 1 7 == 7)

/-- A pair's inputs lie on different dies, and no other pair uses them (R308). -/
def pairMapOk (st : PStore) (i n : Nat) : Bool :=
  let a := field n 0 7
  let b := field n 8 7
  let other := (upto 16).filter (fun p => p != i)
  let uses (d : Nat) : Bool := other.any (fun p =>
    let w := (st.get P.safetyPairDi p).toNat
    field w 0 7 == d || field w 8 7 == d)
  (a == 0x7F && b == 0x7F)
    || (decide (a < 64) && decide (b < 64) && (decide (a < 32) != decide (b < 32)) && !uses a && !uses b)

/-- Inputs of a bank that a test source feeds. -/
def testFed (st : PStore) (bank src : Nat) : List Nat :=
  (upto 16).map (fun k => 16 * bank + k) |>.filter (fun i => decide (st.get P.diTestSource i = (src : Int)))

/-- A value as a reader sees it; the B part's power limits default to its own maxima (R56). -/
def readPar (part : Part) (st : PStore) (d : PDef) (i : Nat) : Int :=
  let x := st.get d i
  if part = .B ∧ d.id = 0x0120 then min x 1200
  else if part = .B ∧ d.id = 0x0121 then min x 300
  else x

/-- The first check that a written value fails against the values written beside it; `st` holds the
value already. -/
def relStatus (part : Part) (serial : Nat) (st : PStore) (d : PDef) (i : Nat) (x : Int) : Option Nat :=
  let g (q : PDef) : Int := st.get q i
  let is (q : PDef) : Bool := d.id == q.id
  if is P.busPeakPowerLimit || is P.busContPowerLimit then
    (if readPar part st P.busPeakPowerLimit 0 < readPar part st P.busContPowerLimit 0 then some 0x1003 else none)
  else if is P.tOff || is P.tBlank || is P.chopFloor then
    (if g P.chopFloor ≠ 0 ∧ 200000000 < (g P.tOff + 2 * g P.tBlank) * g P.chopFloor then some 0x1203 else none)
  else if is P.ssiClock || is P.ssiFormat || is P.ssiPeriod || is P.ssiMonoflop then
    (let f := (g P.ssiFormat).toNat
     let bits := field f 0 6
     if field f 24 6 ≠ 0x3F ∧ bits ≤ field f 24 6 then some 0x1204
     else if bits < field f 8 4 + field f 12 6 then some 0x1204
     else if g P.ssiPeriod * g P.ssiClock < (bits : Int) * 1000 + g P.ssiMonoflop * g P.ssiClock then some 0x1204
     else none)
  else if is P.speedMax || is P.defaultSpeed || is P.accelMax || is P.defaultAccel || is P.decelMax
      || is P.defaultDecel || is P.decelSafeMax || is P.jerkMax || is P.defaultJerk || is P.travelMin
      || is P.travelMax then
    (let sc := (g P.axisScale).toNat
     if g P.decelSafeMax < g P.decelMax ∨ g P.speedMax < g P.defaultSpeed ∨ g P.accelMax < g P.defaultAccel
        ∨ g P.decelMax < g P.defaultDecel ∨ g P.jerkMax < g P.defaultJerk ∨ g P.travelMax ≤ g P.travelMin
        ∨ speedCeil < toQ sc (g P.speedMax).toNat ∨ speedCeil < toQ sc (g P.defaultSpeed).toNat then some 0x1207
     else none)
  else if is P.jogSpeedMax then (if speedCeil < toQ (g P.axisScale).toNat x.toNat then some 0x1207 else none)
  else if is P.homeSpeed || is P.homeCreepSpeed then
    (if speedCeil < toQ (g P.axisScale).toNat x.toNat then some 0x1205 else none)
  else if is P.homeMethod then
    (if (x = 6 ∧ g P.encType = 1) ∨ (x = 3 ∧ g P.encType = 2) then some 0x1208 else none)
  else if is P.portalAxisMap then (if axisMapOk x.toNat then none else some 0x1302)
  else if is P.edgePressR || is P.edgeOpenR then
    (if g P.edgeOpenR ≤ g P.edgePressR then some 0x1401 else none)
  else if is P.edgeAxis then
    (if x = 255 ∨ x < (InstK.axis.count part : Nat) then none else some 0x1004)
  else if is P.safetyPairDi then (if pairMapOk st i x.toNat then none else some 0x1501)
  else if is P.diFilterMax || is P.diOnTh || is P.diOffTh then
    (if 1 ≤ g P.diFilterMax ∧ ¬ (g P.diOffTh < g P.diOnTh ∧ g P.diOnTh ≤ g P.diFilterMax) then some 0x1601
     else if g P.diTestSource ≠ 0 ∧ g P.diFilterMax = 0 then some 0x1602 else none)
  else if is P.diTestSource then
    (if x ≠ 0 ∧ (st.get P.bankClass (i / 16) ≠ 0 ∨ 3 < (testFed st (i / 16) x.toNat).length
        ∨ g P.diFilterMax = 0) then some 0x1602 else none)
  else if is P.bankClass then
    (if x ≠ 0 ∧ !((testFed st i 1).isEmpty && (testFed st i 2).isEmpty) then some 0x1602 else none)
  else if is P.lsOpenLoad then
    (if x = 0 then none
     else if g P.lsMode = 0 then (if x < 10 then some 0x1003 else none)
     else (if x < 20 ∨ 400 < x then some 0x1003 else none))
  else if is P.feedClass || is P.lsNominal then
    (let grp := if is P.feedClass then i else lsGroup i
     let sum := (upto 24).foldl (fun n k => if lsGroup k = grp then n + st.get P.lsNominal k else n) 0
     if st.get P.feedClass grp = 0 ∧ 8000 < sum then some 0x1603 else none)
  else if is P.txnFabricLead || is P.txnDecideMargin then
    (if st.get P.txnFabricLead 0 ≤ st.get P.txnDecideMargin 0 then some 0x1905 else none)
  else if is P.twinRole then
    (let peer := st.get P.twinPeerSerial 0
     if x ≠ 0 ∧ (peer = 0 ∨ peer = ((serial % 4294967296 : Nat) : Int)) then some 0x1A01 else none)
  else none

/-! ### Parameters (R8, R138, R578) -/

/-- The value a 64-bit argument stands for: signed where the range admits negative values. (Assumption 54 DEDUCED) -/
def PDef.arg (d : PDef) (v : Nat) : Int := if d.lo < 0 then ofBits 64 v else (v : Int)

/-- The definition a command names, or its refusal: a reserved domain, an ID not defined in it, an absent
instance. -/
def parName (part : Part) (dom id inst : Nat) : PDef ⊕ Nat :=
  if !([0x01, 0x10, 0x20, 0x30, 0x40, 0x50, 0x60, 0x70, 0x80, 0x90, 0xA0, 0xB0].contains dom) then .inr 0x1001
  else if id / 256 ≠ dom then .inr 0x1002
  else match pFind id with
    | none => .inr 0x1002
    | some d => if d.inst.has part inst then .inl d else .inr 0x1004

/-- PARAM_READ: the last value written. -/
def execParamRead (h : Hdr) (dom id inst : Nat) (s : State) : Out :=
  s.ring h (descParamRead dom id inst) Mode.reads (fun m =>
    match parName m.id.part dom id inst with
    | .inr st => (m, some (refuse st))
    | .inl d => (m, some { status := 0, res := toBits 64 (readPar m.id.part s.par d inst) }))

/-- PARAM_WRITE (R578): PARAM_LOCKED for an RWL parameter outside ASSEMBLY and COMMISSION, and for
PORTAL_TYPE always. (Assumption 54 DEDUCED) -/
def Mod.paramWrite (dom id inst value : Nat) (st : PStore) (m : Mod) : PStore × Mod × Option Reply :=
  match parName m.id.part dom id inst with
  | .inr e => (st, m, some (refuse e))
  | .inl d =>
    let x := d.arg value
    if (d.rwl && !m.md.rwl) || decide (d.eff = .never) then (st, m, some (refuse 0x2001))
    else if !valueOk m.id.part d x then (st, m, some (refuse 0x1003))
    else
      let st' := st.set d inst x
      match relStatus m.id.part m.id.serial st' d inst x with
      | some e => (st, m, some (refuse e))
      | none => (st', m.paramWritten d inst x, some okReply)

/-- (Assumption 54 DEDUCED) -/
def execParamWrite (h : Hdr) (dom id inst value : Nat) (s : State) : Out :=
  s.ringPar h (descParamWrite dom id inst value) Mode.comm (Mod.paramWrite dom id inst value)

/-! ### Tables -/

/-- The tables the chapters define. -/
inductive Tab where
  | fingering (n : Nat)
  | sequence
  | profile
  | probe
  | can
  | publication
  deriving DecidableEq, Repr

/-- Table IDs (R196, R248, R298, R411, R434). -/
def tabFind (tid : Nat) : Option Tab :=
  if 0x1080 ≤ tid ∧ tid ≤ 0x1087 then some (.fingering (tid - 0x1080))
  else if tid = 0x2080 then some .sequence
  else if tid = 0x3080 then some .profile
  else if tid = 0x3081 then some .probe
  else if tid = 0x6080 then some .can
  else if tid = 0x7080 then some .publication
  else none

def Tab.kind : Tab → InstK
  | .fingering _ => .axis
  | .sequence => .portal
  | .profile => .axis
  | .probe => .axis
  | .can => .can
  | .publication => .module

/-- Size in bytes. -/
def Tab.size : Tab → Nat
  | .fingering _ => 4096
  | .sequence => 4096
  | .profile => 32768
  | .probe => 16
  | .can => 2048
  | .publication => 512

def tabName (part : Part) (dom tid inst : Nat) : Tab ⊕ Nat :=
  if !([0x01, 0x10, 0x20, 0x30, 0x40, 0x50, 0x60, 0x70, 0x80, 0x90, 0xA0, 0xB0].contains dom) then .inr 0x1001
  else if tid / 256 ≠ dom then .inr 0x1002
  else match tabFind tid with
    | none => .inr 0x1002
    | some t => if t.kind.has part inst then .inl t else .inr 0x1004

/-- One bin as 8 bytes (R268). -/
def binBytes (v : List Int) : List Byte :=
  leBytes 2 (toBits 16 (v.getD 3 0)) ++ leBytes 2 (toBits 16 (v.getD 2 0))
    ++ leBytes 2 (toBits 16 (v.getD 1 0)) ++ leBytes 2 (toBits 16 (v.getD 0 0))

def binOfBytes (b : List Byte) : List Int :=
  [ofBits 16 (ofLe ((b.drop 6).take 2)), (ofLe ((b.drop 4).take 2) : Int),
   ofBits 16 (ofLe ((b.drop 2).take 2)), (ofLe (b.take 2) : Int)]

/-- Bins of a profile's bytes from bin `k` on. -/
def binsOf : Nat → Nat → List Byte → List (Nat × List Int)
  | 0, _, _ => []
  | n + 1, k, b => (k, binOfBytes (b.take 8)) :: binsOf n (k + 1) (b.drop 8)

/-- The probe reference (R269). (Assumption 81 DEDUCED) -/
def Prof.refBytes (f : Prof) : List Byte :=
  leBytes 4 f.compliance ++ le4 f.onset ++ leBytes 4 f.cycles ++ leBytes 4 (b2n f.valid)

/-- Bytes of a table as written. A user fingering table that was never written reads as zeros.
 (Assumption 55 DEDUCED) -/
def Mod.tabBytes (m : Mod) (t : Tab) (i : Nat) : List Byte :=
  match t with
  | .fingering 0 => (upto 1024).flatMap (fun k => leBytes 4 (wordOf (sineEntry k)))
  | .fingering n =>
    (match (m.axis i).tabs.getD (n - 1) none with
      | some f => f.words.flatMap (leBytes 4)
      | none => List.replicate 4096 0#8)
  | .sequence => rowBytes (m.tableWritten i)
  | .profile => (upto 4096).flatMap (fun b => binBytes ((m.obst i).prof.bin b))
  | .probe => (m.obst i).prof.refBytes
  | .can => (m.canPort i).tab.flatMap (leBytes 4)
  | .publication => m.fab.pubTab.flatMap (leBytes 1)

/-- PARAM_READ_BLOCK: BUF_LEN bytes from an offset; the result is their number. -/
def execParamReadBlock (h : Hdr) (dom tid inst off len : Nat) (s : State) : Out :=
  s.ring h (descParamReadBlock dom tid inst off len) Mode.reads (fun m =>
    match tabName m.id.part dom tid inst with
    | .inr st => (m, some (refuse st))
    | .inl t =>
      if t.size < off + len ∨ ((t = .profile ∨ t = .probe) ∧ off % 8 ≠ 0) then (m, some (refuse 0x1006))
      else (m, some { status := 0, res := len, buf := ((m.tabBytes t inst).drop off).take len }))

/-- A fingering table (R160 to R163, R196): it is in use on an axis with torque from the selection's own execution on. It belongs to the set whose writes R348 allows only in
ASSEMBLY and COMMISSION. (Assumption 55 DEDUCED) -/
def Mod.writeFingering (m : Mod) (n i off : Nat) (b : List Byte) : Mod × Option Reply :=
  let waits := m.due.contains (P.fingeringTable.id * 65536 + i, (n : Int)) && ((m.axis i).userTab n).isSome
  let used := (m.axis i).torque && ((decide (m.sel i = n) && (m.inUse i).isSome) || waits)
  if n = 0 then (m, some (refuse 0x1202))
  else if !m.md.rwl then (m, some (refuse 0x2001))
  else if off ≠ 0 ∨ b.length ≠ 4096 then (m, some (refuse 0x1006))
  else if used then (m, some (refuse 0x2201))
  else match tableFault (toWords 1024 b) with
    | some k => (m, some { status := 0x1201, detail := k })
    | none =>
      let t := mkTab b
      let m := (m.onAx i (fun a => { a with tabs := upd a.tabs (n - 1) (fun _ => some t) })).canonChanged.cfgSave
      (m.raise 0x100F i [n, t.crc.toNat], some okReply)

/-- A sequence table (R248, R249). -/
def Mod.writeSequence (m : Mod) (st : PStore) (p off : Nat) (b : List Byte) : PStore × Mod × Option Reply :=
  if !m.md.rwl then (st, m, some (refuse 0x2001))
  else if off ≠ 0 ∨ b.length ≠ 4096 then (st, m, some (refuse 0x1006))
  else
    let t := rowsOf b
    match tableFaultAt (st.tabCtx m.id.part p) 0 t with
    | some d => (st, m, some { status := 0x1301, detail := d })
    | none =>
      let m := { m with live := m.live.set P.portalType p 0 }
      (st.set P.portalType p 0, m.tablePut p t, some okReply)

/-- A learned profile or probe reference (R271, R298, R299): `t` is the check and the new profile. -/
def Mod.writeProf (m : Mod) (i off size : Nat) (b : List Byte) (ok : Bool) (f : Prof) : Mod × Option Reply :=
  if m.md ≠ .commission then (m, some (refuse 0x2101))
  else if off ≠ 0 ∨ b.length ≠ size then (m, some (refuse 0x1006))
  else if m.moving i then (m, some (refuse 0x2204))
  else if !ok then (m.profileInvalid i 2, some (refuse 0x1402))
  else (m.onOb i (fun o => { o with prof := { f with valid := true }, changed := true }), some okReply)

/-- (Assumption 81 DEDUCED) -/
def Mod.writeProfile (m : Mod) (i off : Nat) (b : List Byte) : Mod × Option Reply :=
  let bins := binsOf 4096 0 b
  let lim := 10 * (m.p P.closeForceLimit (i / 4) - m.p P.forceDevMin (i / 4))
  let ok := bins.all (fun x => decide (10 ≤ x.2.getD 1 0) && decide (10 ≤ x.2.getD 3 0) && decide (x.2.getD 0 0 ≤ lim))
  m.writeProf i off 32768 b ok { (m.obst i).prof with bins := bins }

/-- (Assumption 81 DEDUCED) -/
def Mod.writeProbe (m : Mod) (i off : Nat) (b : List Byte) : Mod × Option Reply :=
  let c := ofLe (b.take 4)
  let fl := ofLe ((b.drop 12).take 4)
  m.writeProf i off 16 b (decide (c ≠ 0) && decide (fl = 1))
    { (m.obst i).prof with
      compliance := c, onset := ofBits 32 (ofLe ((b.drop 4).take 4)), cycles := ofLe ((b.drop 8).take 4) }

/-- Index of the first invalid object of a table. -/
def canBadAt (fdEn : Bool) : Nat → List Nat → Nat → Option Nat
  | 0, _, _ => none
  | n + 1, w, k => if canObjBad fdEn (w.getD 0 0) (w.getD 1 0) (w.getD 2 0) (w.getD 3 0) then some k
    else canBadAt fdEn n (w.drop 4) (k + 1)

/-- An object table (R411): not RWL; it takes effect at the next enable of the port. -/
def Mod.writeCan (m : Mod) (p off : Nat) (b : List Byte) : Mod × Option Reply :=
  if off ≠ 0 ∨ b.length ≠ 2048 then (m, some (refuse 0x1006))
  else if (m.canPort p).en then (m, some (refuse 0x2704))
  else
    let w := toWords 512 b
    match canBadAt (m.canPort p).fdEn 128 w 0 with
    | some k => (m, some { status := 0x1702, detail := k })
    | none => ((m.onCan p (fun c => { c with tab := w })).cfgSave, some okReply)

/-- A point this module can publish (R432; the B part has no points of P2 and P3). -/
def Mod.ownPt (m : Mod) (n : Nat) : Bool :=
  decide (n ≤ 0x00B) || (decide (0x010 ≤ n) && decide (n ≤ 0x015))
    || (decide (0x100 ≤ n) && decide (n < 0x100 + 32 * InstK.portal.count m.id.part))
    || (decide (0x180 ≤ n) && decide (n ≤ 0x1FF))

/-- R434. -/
def Mod.pubOk (m : Mod) (t : List Nat) : Bool :=
  (upto 512).all (fun n =>
    let b := t.getD n 0
    decide (b < 8) && (decide (b % 4 ≠ 0) || decide (b = 0)) && (decide (b = 0) || m.ownPt n))
    && decide ((t.filter (fun b => b % 4 == 1)).length ≤ 32)
    && decide ((t.filter (fun b => b % 4 == 2)).length ≤ 192)
    && decide ((t.filter (fun b => b % 4 != 0)).length ≤ 512)

/-- The publication table (R434): in force from the next start. -/
def Mod.writePub (m : Mod) (off : Nat) (b : List Byte) : Mod × Option Reply :=
  let t := b.map (fun x => x.toNat)
  if !m.md.rwl then (m, some (refuse 0x2001))
  else if off ≠ 0 ∨ b.length ≠ 512 then (m, some (refuse 0x1006))
  else if !m.pubOk t then (m, some (refuse 0x1801))
  else ((m.onFab (fun x => { x with pubTab := t })).cfgSave, some okReply)

/-- PARAM_WRITE_BLOCK (R138, R578). -/
def Mod.blockWrite (dom tid inst off : Nat) (b : List Byte) (st : PStore) (m : Mod) : PStore × Mod × Option Reply :=
  match tabName m.id.part dom tid inst with
  | .inr e => (st, m, some (refuse e))
  | .inl t =>
    match t with
    | .fingering n => (st, m.writeFingering n inst off b)
    | .sequence => m.writeSequence st inst off b
    | .profile => (st, m.writeProfile inst off b)
    | .probe => (st, m.writeProbe inst off b)
    | .can => (st, m.writeCan inst off b)
    | .publication => (st, m.writePub off b)

def execParamWriteBlock (h : Hdr) (dom tid inst off : Nat) (data : List Byte) (s : State) : Out :=
  s.ringPar h (descParamWriteBlock dom tid inst off data) Mode.comm (Mod.blockWrite dom tid inst off data)

end Sys2Proof.Machine
end

