-- ==== Sys2Proof/Machine/SafetyCmd.lean ====
section
/-! DEFINITION. The commands of 09_safety_functions.md. -/
namespace Sys2Proof.Machine

def Mod.onSaf (m : Mod) (f : Safety → Safety) : Mod := { m with saf := f m.saf }

/-! ### Exchange and pairs (R307, R310, R341) -/

/-- The pair's active reading is its less safe one: every pair but an emergency or the evacuation pair. -/
def Mod.activeUnsafe (m : Mod) (p : Nat) : Bool :=
  !(m.portals.any (fun q => decide (m.pn P.emergencyPair q = p)) || decide (m.pn P.evacuateInputPair 0 = p))

/-- A difference on item k stood on four consecutive exchanges: the channel with the less safe reading loses
its view. Items 0 to 15 are the pairs, 16 and 17 the release enables. (Assumption 83 DEDUCED) -/
def Mod.exchangeLoss (m : Mod) (r b : Evals) (k : Nat) : Mod :=
  if k < 16 then
    let x := decide (r.pairs.getD k 0 = 1)
    let y := decide (b.pairs.getD k 0 = 1)
    if x = y then m
    else
      -- the Bore channel loses when its reading is the less safe one
      m.loseView (if m.activeUnsafe k then y else x) k
  else if k < 18 then m.loseView (b.enables.getD (k - 16) false) (0x60 + (k - 16))
  else m

/-- The items of an exchange that differ: 16 pairs, 2 enables, 2 contributions, 4 STO demands.
 (Assumption 83 DEDUCED) -/
def evalsDiffer (r b : Evals) (k : Nat) : Bool :=
  if k < 16 then r.pairs.getD k 0 != b.pairs.getD k 0
  else if k < 18 then r.enables.getD (k - 16) false != b.enables.getD (k - 16) false
  else if k < 20 then r.contribs.getD (k - 18) false != b.contribs.getD (k - 18) false
  else r.stos.getD (k - 20) false != b.stos.getD (k - 20) false

/-- SAFETY_EXCHANGE (R307, R340, R341): four exchanges in a row make a loss of view. (Assumption 83 DEDUCED) -/
def execSafetyExchange (reed bore : Evals) (s : State) : Out :=
  s.live (fun m =>
    let d := (upto 24).map (fun k => if evalsDiffer reed bore k then m.saf.diff.getD k 0 + 1 else 0)
    let m := m.onSaf (fun f => { f with diff := d })
    (upto 24).foldl (fun m k => if d.getD k 0 = 4 then m.exchangeLoss reed bore k else m) m)

/-- Inputs a and b of a pair; 0x7F names none (R308). -/
def Mod.pairDis (m : Mod) (p : Nat) : Nat × Nat :=
  let w := m.pn P.safetyPairDi p
  (field w 0 7, field w 8 7)

/-- Samples of disagreement after which a pair faults: N + 1 (R310). -/
def Mod.pairLimit (m : Mod) (p : Nat) : Nat := m.pn P.discrepancyTime p * 4 + 1

/-- PAIR_DISCREPANCY (R310): named input, then both filtered states. -/
def execPairDiscrepancy (p : Nat) (s : State) : Out :=
  s.live (fun m =>
    let q := m.saf.pairs.getD p Pair.reset
    if decide (m.pairLimit p ≤ q.cnt) && !q.latched then
      let (a, b) := m.pairDis p
      let x := m.diActive a
      let y := m.diActive b
      let who := match q.agreed with
        | none => 0x7F
        | some (u, v) => if x ≠ u then a else if y ≠ v then b else 0x7F
      let m := m.onSaf (fun f => { f with pairs := upd f.pairs p (fun q => { q with latched := true, reed := 2, bore := 2 }) })
      m.raise 0x4005 p [who, b2n x, b2n y]
    else m)

/-! ### Safe Torque Off and Safe Stop -/

/-- A cause of R315 that latches its group. -/
def isTrip (c : Nat) : Bool := decide (7 ≤ c) && decide (c ≤ 10)

/-- STO_DEMAND (R313, R315). -/
def execStoDemand (g cause : Nat) (chan : Chan) (s : State) : Out :=
  s.pow (fun m =>
    if g < 4 then
      let m := m.demandBy g cause (decide (chan = .reed)) (decide (chan = .bore))
      if isTrip cause then m.trip g cause else m
    else m)

/-- STO_READBACK_TIMEOUT (R314, R339): means 1 the Bore supply switch, 2 the Reed gate enables.
 (Assumption 85 DEDUCED) -/
def execStoReadbackTimeout (g : Nat) (presentWhileCut boreMeans : Bool) (s : State) : Out :=
  s.live (fun m =>
    let t := m.stoOf g
    let ev (m : Mod) : Mod := m.raise 0x4009 g [if boreMeans then 1 else 2]
    if presentWhileCut then
      if t.applied then (if boreMeans then (ev m).loseBore 4 else (ev m).loseReed 5) else m
    else match t.restoring with
      | some r =>
        let m := m.advance (r + 5 * MS)
        let m := m.onSaf (fun f => { f with sto := upd f.sto g (fun t => { t with applied := true, restoring := none }) })
        let m := (upto 4).foldl (fun m k => m.dropTorque (4 * g + k)) m
        ev m
      | none => m)

/-- The group's axes on this part. -/
def Mod.groupAxes (m : Mod) (g : Nat) : List Nat := ((upto 4).map (fun k => 4 * g + k)).filter (fun i => m.axes.contains i)

/-- SAFE_STOP_END (R318): after a Safe Stop STO is demanded; a monitored fault stop ends its monitoring.
 (Assumption 87 DEDUCED) -/
def execSafeStopEnd (g : Nat) (s : State) : Out :=
  s.live (fun m =>
    let l := m.groupAxes g
    if !l.isEmpty && l.all (fun i => (m.safAx i).standAt.isSome) then
      let t := l.foldl (fun t i => max t ((m.safAx i).standAt.getD 0)) 0
      let m := m.advance (t + 10 * MS)
      let was := m.saf.ss.getD g false
      let m := l.foldl (fun m i => m.onSafAx i (fun x => { x with mon := none })) m
      if was then
        let m := m.onSaf (fun f => { f with ss := upd f.ss g (fun _ => false) })
        m.demand g 6
      else m
    else m)

/-! ### Safe Force Limit (R322 to R324) -/

/-- |I| in mA lies above I_SFL. (Assumption 88 DEDUCED) -/
def Mod.aboveSfl (m : Mod) (i ma : Nat) : Bool :=
  let (n, d) := m.kForce i
  let p := i / 4
  decide ((m.pn P.closeForceLimit p + m.pn P.sflMargin p) * 1000 * d < ma * n)

/-- The Bore channel's closing direction: its shadow counter toward POS0, or rest in CLOSING; both directions
while the counter is discontinuous. (Assumption 88 DEDUCED) -/
def Mod.closingBore (m : Mod) (i : Nat) : Bool :=
  (m.axis i).shadowDisc || (match m.roleOf i with
    | some (p, r) => (match m.posUm p r 0, m.posUm p r 1 with
      | some a, some b =>
        let h := (m.safAx i).histB
        let mv := m.posOf i (h.getD 0 0) - m.posOf i (h.getD 10 (h.getLastD 0))
        decide (r < 2) && ((decide (mv ≠ 0) && decide (sgn mv = sgn (a - b)))
          || (decide (mv = 0) && decide ((m.portal p).state = 5)))
      | _, _ => false)
    | none => false)

/-- SFL_TRIP (R322, R323, R315). (Assumption 88 DEDUCED) -/
def execSflTrip (ax : Nat) (chan : Chan) (ma : Nat) (s : State) : Out :=
  s.live (withAxis ax (fun m =>
    let dir := if chan = .reed then m.closingDir ax else m.closingBore ax
    if m.isLeaf ax && dir && m.aboveSfl ax ma then
      (m.raise 0x400C ax [b2n (decide (chan = .bore)), ma]).trip (ax / 4) 8
    else m))

/-- CURRENT_VIEW_LOST (R324): more than 10 % of the Bore reading plus 200 mA. (Assumption 85 DEDUCED) -/
def execCurrentViewLost (ax reedMa boreMa : Nat) (s : State) : Out :=
  s.live (withAxis ax (fun m =>
    let m := m.onSafAx ax (fun x => { x with magR := reedMa, magB := boreMa })
    if 10 * ((reedMa : Int) - boreMa).natAbs > boreMa + 2000 then m.loseView false (0x40 + ax) else m))

/-! ### Loops (R326, R328) -/

/-- LOOP_CLOSE (R326): one channel's switch closes after LOOP_CLOSE_DELAY of contribution. -/
def execLoopClose (side : Side) (chan : Chan) (s : State) : Out :=
  s.live (fun m =>
    let l := m.saf.loops.get side
    let want := if chan = .reed then m.wantReed side else m.sideBore side
    match (if chan = .reed then l.sinceR else l.sinceB) with
    | some t =>
      if want then
        let m := m.advance (t + m.pn P.loopCloseDelay 0 * MS)
        let was := l.closed
        let m := m.onLoop side (fun l => if chan = .reed then { l with reed := true } else { l with bore := true })
        m.loopEvent was side 1
      else m.loopSide side
    | none => m)

/-- Trips of the last 60 s. (Assumption 89 DEDUCED) -/
def recentTrips (raw : Nat) (l : List Nat) : List Nat := l.filter (fun t => decide (raw < t + 60 * SEC))

/-- LOOP_CURRENT_LIMIT_TRIP (R328). (Assumption 89 DEDUCED) -/
def execLoopCurrentLimitTrip (side : Side) (s : State) : Out :=
  s.pow (fun m =>
    let was := (m.saf.loops.get side).closed
    if was then
      let tr := recentTrips m.raw (m.saf.loops.get side).trips ++ [m.raw]
      let hold := m.pn P.loopRetryDelay 0 * SEC
      let m := m.onLoop side (fun l => { l with
        reed := false, bore := false, trips := tr, latched := decide (3 ≤ tr.length), test := none,
        retryAt := if 3 ≤ tr.length then none else some (m.raw + hold) })
      (m.loopEvent was side 4).raise 0x400E (sideNum side) [tr.length]
    else m)

/-- LOOP_RETRY (R328): the loop closes again if the contributions still hold. (Assumption 89 DEDUCED) -/
def execLoopRetry (side : Side) (s : State) : Out :=
  s.live (fun m =>
    match (m.saf.loops.get side).retryAt with
    | some t =>
      let m := m.advance t
      let m := m.onLoop side (fun l => { l with retryAt := none })
      let r := m.wantReed side
      let b := m.sideBore side
      let was := (m.saf.loops.get side).closed
      let m := m.onLoop side (fun l => { l with
        reed := r, bore := b, sinceR := if r then some (l.sinceR.getD m.raw) else none,
        sinceB := if b then some (l.sinceB.getD m.raw) else none })
      m.loopEvent was side 1
    | none => m)

/-- LOOP_RESET (R328, R355, R356). -/
def execLoopReset (h : Hdr) (side : Nat) (s : State) : Out :=
  s.ring h (descLoopReset side) (fun md => decide (md = .service) || md.active) (fun m =>
    if 1 < side then (m, some (refuse 0x1004))
    else
      let sd := sideOfNum side
      if (m.saf.loops.get sd).latched then
        ((m.onLoop sd (fun l => { l with latched := false, trips := [], retryAt := none })).loopSide sd, some okReply)
      else (m, some (refuse 0x2502)))

/-! ### Off-pulses (R330 to R333) -/

def vRbh : Nat := 120
def vRbl : Nat := 50

/-- The pulse period: 250 ms. -/
def pulsePer : Int := 250000000

/-- The pair pulses in turn while the ligature heartbeat is present (R333, R501). -/
def Mod.pulsePair (m : Mod) : Bool := m.twinConf && m.tw.pairFormed && m.tw.heart

/-- The module's own switch in a turn: 0 Reed, 1 Bore; none while the twin pulses (R333). -/
def Mod.ownSwitch (m : Mod) (turn : Nat) : Option Nat :=
  if m.pulsePair then
    (let k := turn % 4
     if m.p P.twinRole 0 = 1 then (if k = 0 then some 0 else if k = 2 then some 1 else none)
     else if k = 1 then some 0 else if k = 3 then some 1 else none)
  else some (turn % 2)

/-- The address that fixes the instant (R330): in a pair the PRIMARY's, which the SECONDARY reads in the map (R333). -/
def Mod.pulseOf (m : Mod) : Option Nat :=
  if m.pulsePair && decide (m.p P.twinRole 0 ≠ 1) then
    (m.fab.routes.find? (fun r => decide (r.serial % 2 ^ 32 = m.tw.peerSerial % 2 ^ 32))).map (fun r => r.addr)
  else m.fab.addr

/-- Without an address, a module alone in its fabric counts as 0 (R331). -/
def Mod.pulseAddr (m : Mod) : Int := ((m.pulseOf.getD 0 % 250 : Nat) : Int)

/-- R_RAW of the first pulse instant after the present. In a control-die reset the Bore channel goes on from the last pulse
by its own clock (R15). (Assumption 135 DEDUCED) -/
def Mod.pulseAt (m : Mod) : Nat :=
  let off := m.pulseAddr * 1000000
  let per := 250 * MS
  if m.start.inReset then m.saf.off.lastAt + ((m.raw - m.saf.off.lastAt) / per + 1) * per
  else if m.pulseOf.isNone ∧ m.time.alone then
    -- from the free-running counter
    (m.raw / per + 1) * per
  else rawAt m.time (((m.now - off) / pulsePer + 1) * pulsePer + off)

/-- The switches a pulse holds open, Reed and Bore: one of the module's own, or both while the twin pulses (R330, R333). -/
def pulsed (sw : Option Nat) : Bool × Bool :=
  match sw with
  | some 0 => (true, false)
  | some _ => (false, true)
  | none => (true, true)

/-- The twin's pulse: the module holds its switches open from 20 us before it until 20 us after it (R333). -/
def Mod.pulseMargin (m : Mod) : Nat := if (m.ownSwitch m.saf.off.next).isNone then 20 * US else 0

/-- OFFPULSE_START (R330, R332, R333): the Bore sequencer, which runs on in a control-die reset (R15). -/
def execOffpulseStart (voltL voltR : Nat) (s : State) : Out :=
  s.pow (fun m =>
    let l := m.saf.loops.L.closed
    let r := m.saf.loops.R.closed
    if m.saf.off.susp.isNone && m.saf.off.running.isNone && (l || r) then
      let at_ := m.pulseAt
      let m := m.advance (at_ - m.pulseMargin)
      let m := { m with saf := { m.saf with loops :=
        ⟨{ m.saf.loops.L with volt := voltL }, { m.saf.loops.R with volt := voltR }⟩ } }
      m.onSaf (fun f => { f with off := { f.off with
        running := some at_, lastAt := at_, opened := pulsed (m.ownSwitch f.off.next),
        judged := (l && decide (vRbh ≤ voltL), r && decide (vRbh ≤ voltR)) } })
    else m)

/-- Judge one side of a pulse (R332). -/
def Mod.judge (m : Mod) (side : Side) (judged : Bool) (sw volt : Nat) : Mod :=
  let k := 2 * sideNum side + sw
  if !judged then m
  else if volt < vRbl then m.onSaf (fun f => { f with off := { f.off with fails := upd f.off.fails k (fun _ => 0) } })
  else
    let n := m.saf.off.fails.getD k 0 + 1
    let m := m.onSaf (fun f => { f with off := { f.off with fails := upd f.off.fails k (fun _ => n) } })
    let m := m.raise 0x400F (sideNum side) [sw, volt]
    if n = 2 then (if sw = 0 then m.loseReed 4 else m.loseBore 3) else m

/-- OFFPULSE_END (R332). -/
def execOffpulseEnd (voltL voltR : Nat) (s : State) : Out :=
  s.pow (fun m =>
    match m.saf.off.running with
    | some t =>
      let m := m.advance (t + m.pn P.loopOffpulse 0 * US + m.pulseMargin)
      let o := m.saf.off
      let m := m.onSaf (fun f => { f with off := { f.off with running := none, opened := (false, false), next := f.off.next + 1 } })
      (match m.ownSwitch o.next with
        | some sw => (m.judge .L o.judged.1 sw voltL).judge .R o.judged.2 sw voltR
        | none => m)
    | none => m)

/-- Why off-pulses stand suspended: 1 no fabric address, 2 not trusted (R331); of a pair the PRIMARY's address counts.
 (Assumption 135 DEDUCED) -/
def Mod.offCause (m : Mod) : Option Nat :=
  if m.time.alone then none
  else if m.pulseOf.isNone then some 1
  else if !m.trusted then some 2 else none

/-- OFFPULSE_SUSPENDED (R331): suspended (1) or resumed (0), with the cause. (Assumption 20 DEDUCED) -/
def execOffpulseSuspended (s : State) : Out :=
  s.live (fun m =>
    let closed := m.saf.loops.L.closed || m.saf.loops.R.closed
    match m.saf.off.susp, m.offCause with
    | none, some c =>
      if closed then
        (m.degCount.onSaf (fun f => { f with off := { f.off with susp := some c, suspAt := m.raw, running := none, opened := (false, false) } })).raise 0x4015 0 [1, c]
      else m
    | some c, none =>
      (m.degCount.onSaf (fun f => { f with off := { f.off with susp := none } })).raise 0x4015 0 [0, c]
    | _, _ => m)

/-! ### Release enables, degraded time -/

/-- RELEASE_ENABLE_MISMATCH (R337, R341). -/
def execReleaseEnableMismatch (side : Side) (s : State) : Out :=
  s.live (fun m =>
    let r := m.saf.rel.get side
    match r.diffAt with
    | some t => (m.advance (t + 2 * MS)).loseView r.bore (0x60 + sideNum side)
    | none => m)

/-- Write the accumulated degraded time (R345). (Assumption 92 DEDUCED) -/
def Mod.degWrite (m : Mod) : Mod :=
  let m := m.degCount
  m.onSaf (fun f => { f with degMram := f.deg / SEC, degMramAt := m.raw })

/-- DEGRADED_TIME_WRITE: at least every 10 s. -/
def execDegradedTimeWrite (s : State) : Out :=
  s.live (fun m => (m.advance (m.saf.degMramAt + 10 * SEC)).degWrite.degNear)

/-- The reaction of R345 at the limit. -/
def Mod.degReached (m : Mod) : Mod :=
  let m := (m.onSaf (fun f => { f with reached := true })).raise 0x4004 0 [(m.saf.deg / SEC : Nat)]
  let m := (m.withdraw .L 3).withdraw .R 3
  m.portals.foldl (fun m p =>
    if m.enabled p && decide ((m.portal p).state = 0) then m.onPo p (fun q => { q with isolDeg := true }) else m) m

/-- DEGRADED_LIMIT_REACHED (R345): at the instant at which the accumulated time reaches the limit. -/
def execDegradedLimitReached (s : State) : Out :=
  s.live (fun m =>
    let m := m.degCount
    let left := m.degLimit - m.saf.deg
    let m := if m.degOn then (m.advance (m.raw + left)).degCount else m
    if decide (m.degLimit ≤ m.saf.deg) && !m.saf.reached then m.degReached else m)

/-! ### Status -/

/-- Two bits per pair from bit 0. (Assumption 84 DEDUCED) -/
def packPairs (l : List Nat) : Nat := (upto 16).foldl (fun w k => w + (l.getD k 0 % 4) * 4 ^ k) 0

/-- PAIR_STATUS (R355). -/
def execPairStatus (h : Hdr) (s : State) : Out :=
  s.ring h descPairStatus Mode.reads (fun m =>
    (m, some { status := 0, res := packPairs (m.saf.pairs.map (fun q => q.reed)) + 2 ^ 32 * packPairs (m.saf.pairs.map (fun q => q.bore)) }))

/-- CHECK_VALUE_COMPUTE (R348): a long operation. -/
def execCheckValueCompute (h : Hdr) (s : State) : Out :=
  s.ring h descCheckValueCompute Mode.reads (fun m => m.startLong (some h) .checkValue 0)

end Sys2Proof.Machine
end

