-- ==== Sys2Proof/Machine/ModeOps.lean ====
section
/-! DEFINITION. Entering a mode, the control-die reset and failed starts (03): what the commands of modes,
starts, clocks, supply, twin and update share. -/
namespace Sys2Proof.Machine

def Mod.onMode (m : Mod) (f : ModeSt → ModeSt) : Mod := { m with mode := f m.mode }
def Mod.onStart (m : Mod) (f : StartSt → StartSt) : Mod := { m with start := f m.start }
def Mod.onSec (m : Mod) (f : SecSt → SecSt) : Mod := { m with sec := f m.sec }
def Mod.onSup (m : Mod) (f : Sup → Sup) : Mod := { m with sup := f m.sup }
def Mod.onClk (m : Mod) (f : Clk → Clk) : Mod := { m with clk := f m.clk }
def Mod.onTw (m : Mod) (f : TwinSt → TwinSt) : Mod := { m with tw := f m.tw }
def Mod.onFw (m : Mod) (f : UpdSt → UpdSt) : Mod := { m with fw := f m.fw }

/-! ### What changes the mode -/

/-- The trigger MODE_CHANGED carries (R109 gives it no numbers): 1 start complete, 2 start failed, 3 reset,
and the triggers of R84 from 4 on; SAFE-HOLD adds its cause. (Assumption 20 DEDUCED) -/
def Trig.num : Trig → Nat
  | .safeHold c => 20 + c
  | .egress => 4
  | .degraded => 5
  | .switchOver => 6
  | .dormantWake _ => 7
  | .request _ _ => 8
  | .released => 9
  | .unreleased => 10
  | .shadow => 11
  | .confirmed => 12
  | .updatePause => 13

/-- The resume mode of R83, kept in MRAM. (Assumption 41 DEDUCED) -/
def resumeOf (old : Mode) (new : Mode) (from_ : Mode) (kept : Mode) : Mode :=
  match new with
  | .activeClosed => .activeClosed
  | .activeReleased => .activeClosed
  | .degraded => .activeClosed
  | .dormant => if from_ = .activeClosed ∨ old = .activeClosed then .activeClosed else .service
  | .egress => .egress
  | .starting => kept
  | .updatePause => kept
  | _ => .service

/-- Modes whose row of R80 holds the load switches at their fail-safe states. -/
def Mode.failsafe : Mode → Bool
  | .assembly => true
  | .dormant => true
  | .starting => true
  | .safeHold => true
  | .updatePause => true
  | _ => false

/-- Modes whose row of R80 demands STO of every group. -/
def Mode.sto : Mode → Bool
  | .assembly => true
  | .dormant => true
  | .safeHold => true
  | .egress => true
  | _ => false

/-- Modes whose row of R80 has the loops open. -/
def Mode.loopsOpen : Mode → Bool
  | .assembly => true
  | .commission => true
  | .dormant => true
  | .safeHold => true
  | .egress => true
  | _ => false

/-- Debug and the observation outputs work (R104, R552). -/
def Mode.debug : Mode → Bool
  | .assembly => true
  | .service => true
  | _ => false

/-- Debug locks (R552): 1 time, 2 DEBUG_LOCK, 3 session end, 4 mode, 5 start. (Assumption 20 DEDUCED) -/
def Mod.debugLock (m : Mod) (cause : Nat) : Mod :=
  match m.sec.debugUntil with
  | none => m
  | some _ =>
    let m := (m.onSec (fun x => { x with debugUntil := none })).raise 0xB00C 0 [0, cause]
    { m with obs := { m.obs with en := List.replicate 4 false } }

/-- The Bore channel takes the loops over as they stand (R92): held while closed, until the limit of
RESET_LOOP_HOLD_MAX, which counts as 0 at the degraded limit (R346). -/
def Mod.holdLoops (m : Mod) : Mod :=
  let ms := if m.degLimit ≤ m.saf.deg then 0 else m.pn P.resetLoopHoldMax 0
  let l := m.saf.loops.L.closed
  let r := m.saf.loops.R.closed
  let m := m.onStart (fun x => { x with loopsHeld := (l, r), holdUntil := some (m.raw + ms * MS) })
  if ms = 0 then
    let m := if l then m.dropHold .L 3 else m
    if r then m.dropHold .R 3 else m
  else m

/-- The values of the Bore configuration image (R349). (Assumption 14 DESIGN CHOICE) -/
def Mod.boreImage (m : Mod) : List Int :=
  (P.all.filter (fun d => decide (d.eff = .bore))).flatMap (fun d =>
    (upto (d.inst.count m.id.part)).map (fun i => m.p d i))

/-- Enter a mode, with everything its row of R80 sets at once. -/
def Mod.setMode (m : Mod) (new : Mode) (trig : Nat) : Mod :=
  let old := m.md
  if new = old then m
  else
    let m := m.onMode (fun x => { x with
      mode := new, prev := old, wake := none,
      resume := resumeOf old new x.dormantFrom x.resume,
      dormantFrom := if new = .dormant then old else x.dormantFrom })
    let m := if old = .starting then m.onStart (fun x => { x with leftAt := some m.raw }) else m
    let m := m.raise 0x4E01 0 [old.num, new.num, trig]
    let m := if old.active && !new.active then (m.withdraw .L 4).withdraw .R 4 else m
    let m := if new.sto then
        (upto 4).foldl (fun m g => if new = .safeHold ∧ trig ≠ 22 ∧ trig ≠ 24 then m.safeStop g 1 1 else m.demand g 1) m
      else if new = .shadow ∨ new = .updatePause then m.axes.foldl (fun m i => (m.dropTorque i).openIso i) m
      else m
    -- a SHADOW sources no test pulse (R76): a running test ends without a result
    let m := if new = .shadow then { m with ob := { m.ob with edges := m.ob.edges.map (fun x => { x with test := none }) } } else m
    let m := if new = .updatePause then m.holdLoops
      else if new.loopsOpen then (m.openLoopOf .L 3).openLoopOf .R 3
      else m.loopEval
    let m := m.lsFailsafeMode new.failsafe
    let m := if old.active && decide (new = .shadow) then m.canLost else m
    let m := if new.debug then m
      else
        let m := m.debugLock 4
        { m with obs := { m.obs with en := List.replicate 4 false } }
    let m := if new = .dormant then (m.takeDue (fun d _ => decide (d.eff = .dormant))).saveProfiles 0 else m
    let m := if old = .commission ∧ new = .service then
        let m := m.takeDue (fun d _ => decide (d.eff = .bore))
        let crc := Config.boreCrc m.boreImage
        m.onSaf (fun f => { f with boreCrc := some crc, boreCrcStored := some crc })
      else m
    let m := if old = .service ∧ new = .commission then m.canonChanged.cfgSave else m
    let m := if new = .degraded ∧ m.degLimit ≤ m.saf.deg ∧ !m.saf.reached then m.degReached else m
    if old = .egress then m.portals.foldl (fun m p => m.fromSensors p) m else m

/-! ### Evacuation (R85) -/

/-- The fabric signal point asserts an evacuation: a fresh non-zero value. (Assumption 34 DEDUCED) -/
def Mod.evacPoint (m : Mod) : Bool :=
  let n := m.pn P.evacuatePoint 0
  if n = 0x3FFFF then false
  else
    let v := m.point (n / 512) (n % 512)
    decide (v.1 ≠ 0) && !v.2

/-- EVACUATE_INPUT_PAIR is active on both channels, or discrepant. (Assumptions 34 DEDUCED, 84 DEDUCED) -/
def Mod.evacPair (m : Mod) : Bool :=
  let n := m.pn P.evacuateInputPair 0
  m.pairAct false n true && m.pairAct true n true

/-- Evaluate the three sources: 1 host, 2 fabric point, 3 input pair. (Assumption 34 DEDUCED) -/
def Mod.evalEvac (m : Mod) : Mod :=
  [(0, m.mode.evacHost), (1, m.evacPoint), (2, m.evacPair)].foldl (fun m (x : Nat × Bool) =>
    if m.mode.evac.getD x.1 false = x.2 then m
    else (m.onMode (fun y => { y with evac := upd y.evac x.1 (fun _ => x.2) })).raise 0x4E11 (x.1 + 1)
      [(x.1 + 1 : Nat), b2n x.2]) m

/-! ### Control-die reset (R90 to R95, R113, R117) -/

/-- The cause START_BEGUN and CONTROLLER_RESET carry; 0 is power-on. (Assumption 20 DEDUCED) -/
def causeNum : ResetCause → Nat
  | .watchdog => 1
  | .srst => 2
  | .startRequest => 3
  | .restoreFactory => 4
  | .clockRatio => 5
  | .updatePause => 6
  | .autoRestart => 7
  | .relinquish => 8
  | .split => 9

/-- Resets that R90 may count as a failed start. (Assumption 37 DEDUCED) -/
def resetCounts : ResetCause → Bool
  | .watchdog => true
  | .clockRatio => true
  | _ => false

/-- The service and update state after a start (R551, R571): the session ends, the download's state stays. -/
def Mod.secReset (m : Mod) : Mod :=
  let m := m.debugLock 5
  let m := m.onSec (fun x => { x with
    svcLink := false, conn := false, ver := none, nonces := [], roles := none, timeUnchecked := false,
    authFails := 0, consecFails := 0, lockUntil := none })
  m.onFw (fun x => { x with
    stage := if x.stage = 4 then 3 else x.stage, offset := x.offsetMram, windowEnd := none, lastStatus := 0, twinAct := 0 })

/-- Every BAR0 register returns to its reset value (R117); what the links held is lost. OFFSET and RATE_ADJ keep theirs through
a warm start: R444 says so of these two, against the Reset column of R146. (Assumptions 38 DEDUCED, 134 DEDUCED) -/
def Mod.regReset (m : Mod) : Mod :=
  let m := m.linkReset 4
  let m := m.onHost (fun x => { HostSt.reset with msgs := x.msgs, cpls := x.cpls, evrecs := x.evrecs })
  let m := m.onFab (fun x => { FabSt.reset with
    pubTab := x.pubTab, pub := x.pub, epoch := x.epoch, seqTx := x.seqTx, sent := x.sent })
  { m with
    gov := { Gov.reset with lastBoundary := m.raw / 50000 * 50000 }
    time := { TimeSt.reset with offset := m.time.offset, rate := m.time.rate }
    tw := { TwinSt.reset with returns := 0 }
    obs := Obs.reset
    clk := { m.clk with ceCount := 0, markerTicks := 200000, ueRegions := [] } }

/-- No SSI frame is clocked in reset: the Bore counters of those axes are marked discontinuous (R16). -/
def Mod.ssiStops (m : Mod) : Mod :=
  m.axes.foldl (fun m i => if m.pn P.encType i = 2 then m.onAx i (fun a => { a with shadowDisc := true }) else m) m

/-- Everything that runs on the control die stops: homing, jogs, tests, learn runs, table timers (R93). -/
def Mod.workReset (m : Mod) : Mod :=
  let m := m.ssiStops
  let ax : List Axis := m.ax.map (fun a => { a with
    home := none, arr := [], fstop := none, jogDir := none, testUntil := none, tempLimit := none, tempIn := none,
    referenced := a.referenced && a.home.isNone })
  let po : List Portal := m.po.map (fun q => { q with
    state := 0xFF, stepState := 0xF, timers := List.replicate 4 .idle, armed := List.replicate 64 true,
    prev := none, openReq := false, reversals := 0, obstacle := 0, obstReact := 0, probe := 0, fresh := [],
    txnOutcome := 0, faultCause := 0, lockWatch := none, stepWatch := none })
  { m with ax := ax, po := po, ob := { m.ob with learn := [] } }

/-- A start fails (R90): the step and the reason; START_FAILED acts on it. (Assumption 20 DEDUCED) -/
def Mod.failNow (m : Mod) (step reason : Nat) : Mod := m.onStart (fun x => { x with failed := some (step, reason) })

/-- A control-die reset (R92 to R95, R113). PREV_MODE reads STARTING after every start (R117, R148), and a set EVACUATE
stays set, since only the host clears it (R85). A counted reset fails the start at its entry: reason 3 during
STARTING, 4 within 60 s after it. (Assumptions 37 DEDUCED, 38 DEDUCED, 132 DEDUCED, 133 DEDUCED) -/
def Mod.dieReset (m : Mod) (cause : ResetCause) : Mod :=
  let fail : Option Nat :=
    if !resetCounts cause then none
    else if m.md = .starting then some 3
    else match m.start.leftAt with
      | some t => if m.raw < t + 60 * SEC then some 4 else none
      | none => none
  let m := m.degCount
  let m := m.holdLoops
  let m := (upto 4).foldl (fun m g => m.demand g 5) m
  let m := m.axes.foldl (fun m i => m.dropTorque i) m
  let m := (m.withdraw .L 5).withdraw .R 5
  let m := m.txnReset.canReset.workReset.secReset.regReset
  let m := m.onSaf (fun f => { f with reedLost := none, boreLost := none, views := [], halted := none, single := false })
  let m := m.onIo (fun x => { x with fsMode := true })
  let m := m.lsDriveAll
  let old := m.md
  let m := m.onMode (fun x => { x with
    mode := .starting, prev := .starting, trigs := [], wake := none,
    resume := if old = .dormant then (if x.dormantFrom = .activeClosed then .activeClosed else .service) else x.resume })
  let m := if old = .starting then m else m.raise 0x4E01 0 [old.num, Mode.starting.num, 3]
  m.onStart (fun x => { x with
    cold := false, step := 1, cause := some cause, failed := fail.map (fun r => (0, r)), enteredAt := m.raw,
    stepAt := m.raw, homes := [], leftAt := none, autoAt := none, inReset := true })

end Sys2Proof.Machine
end

