-- ==== Sys2Proof/Machine/Governor.lean ====
section
/-! DEFINITION. Lockstep, clocks, the breath-budget governor and the SRAM (01, R145): every command of
01_module_architecture.md but BUDGET_PERIOD_BOUNDARY, which Boundary.lean holds. -/
namespace Sys2Proof.Machine

def Mod.onGov (m : Mod) (f : Gov → Gov) : Mod := { m with gov := f m.gov }

/-- The Reed budgets of one pair (R342). (Assumption 24 DEDUCED) -/
def singlePair : List Nat := [60000, 45000, 24000, 6000, 6000, 4000, 2000, 3000]

/-- LOCKSTEP_MISMATCH (R14, R342, R344): pairs 0 and 1. (Assumption 24 DEDUCED) -/
def execLockstepMismatch (pair : Nat) (s : State) : Out :=
  s.live (fun m =>
    match m.saf.halted with
    | some h => if h = pair then m else (m.loseReed 1).bothLost
    | none =>
      let m := m.onSaf (fun f => { f with halted := some pair, single := true })
      let m := m.onGov (fun g => { g with
        active := (g.active.zip singlePair).map (fun (x : (Nat × Nat) × Nat) => (x.1.1, x.2)) })
      m.loseReed 1)

/-! ### Clocks (R20 to R23) -/

/-- A clock fault holds the control die in reset; the fault bit and the clock status show why (R20, R22).
 (Assumption 38 DEDUCED) -/
def Mod.clockFault (m : Mod) (f : Clk → Clk) : Mod := ((m.dieReset .clockRatio).faultBit 2).onClk f

/-- PLL_LOCK_LOSS (R20): the PLL lock detector, or the MEMS reference monitor, whose report alone resets the die too.
 (Assumption 38 DEDUCED) -/
def execPllLockLoss (mems : Bool) (s : State) : Out :=
  s.live (fun m => m.clockFault (fun c =>
    if mems then { c with memsOk := false } else { c with pllLock := false }))

/-- CLOCK_RATIO_WINDOW_END (R21). -/
def execClockRatioWindowEnd (count : Nat) (s : State) : Out :=
  s.live (fun m =>
    if count < 3063 ∨ 3187 < count then m.clockFault (fun c => { c with crosscheckOk := false }) else m)

/-- BORE_WINDOW_MARKER (R23, R146): an interval outside 0.97 to 1.03 ms is a loss of the Bore channel. -/
def execBoreWindowMarker (ticks : Nat) (s : State) : Out :=
  s.live (fun m =>
    let m := m.onClk (fun c => { c with markerTicks := ticks % 262144 })
    if ticks < 194000 ∨ 206000 < ticks then
      ((m.onClk (fun c => { c with boreClockOk := false })).faultBit 2).loseBore 1
    else m)

/-! ### Budgets (R29 to R34, R145) -/

/-- BUDGET_OVERRUN, at most once per second per class (R34). (Assumption 22 DEDUCED) -/
def Mod.reportOverrun (m : Mod) (k : Nat) : Mod :=
  let due := match m.gov.lastReport.getD k none with
    | none => true
    | some t => decide (t + SEC ≤ m.raw)
  if due then
    let n := m.gov.sinceReport.getD k 0
    (m.onGov (fun g => { g with
      lastReport := upd g.lastReport k (fun _ => some m.raw), sinceReport := upd g.sinceReport k (fun _ => 0) })).raise
        0xD001 0 [(k + 1 : Nat), n]
  else m

/-- A class (`k` from 0) has used up a budget: suspended to the next boundary, counted once per period; classes 1 and 2
make the Reed channel lost (R29, R31). -/
def Mod.exhaust (m : Mod) (k : Nat) : Mod :=
  if m.gov.suspended.getD k false then m
  else
    let m := m.onGov (fun g => { g with
      suspended := upd g.suspended k (fun _ => true), overrun := upd g.overrun k (fun n => sat32 (n + 1)),
      sinceReport := upd g.sinceReport k (· + 1) })
    if k ≤ 1 then ((m.raise 0xD010 0 [k + 1]).faultBit 3).loseReed 2 else m.reportOverrun k

/-- CLASS_BUDGET_EXHAUSTED (R29 to R31): suspended to the next boundary, counted once per period; classes
1 and 2 make the Reed channel lost. (Assumptions 22 DEDUCED, 103 DEDUCED) -/
def execClassBudgetExhausted (cls : Nat) (reed : Bool) (ov : Nat) (s : State) : Out :=
  s.live (fun m =>
    if 1 ≤ cls ∧ cls ≤ 8 then
      let k := cls - 1
      let o := if reed then min ov 200 else min ov 8
      let m := m.onGov (fun g => { g with
        overshoot := upd g.overshoot k (fun x => if reed then (x.1, max x.2 o) else (max x.1 o, x.2)),
        left := upd g.left k (fun x => if reed then (x.1, 0) else (0, x.2)) })
      m.exhaust k
    else m)

/-- An APPLY write captures the staged set (R32). -/
def Mod.budgetApply (m : Mod) : Mod := m.onGov (fun g => { g with pendingSet := some g.staged, applyAt := m.raw })

/-- BUDGET_APPLY. -/
def execBudgetApply (s : State) : Out := s.live Mod.budgetApply

def Mod.overrunClear (m : Mod) (mask : Nat) : Mod :=
  m.onGov (fun g => { g with
    overrun := (g.overrun.zip (upto 8)).map (fun (x : Nat × Nat) => if bit mask x.2 then 0 else x.1) })

/-- OVERRUN_CLEAR (R145). -/
def execOverrunClear (mask : Nat) (s : State) : Out := s.live (fun m => m.overrunClear mask)

/-- Leaf axes of enabled portals (R28). -/
def Mod.leafCount (m : Mod) : Nat := (m.axes.filter m.isLeaf).length

/-- R33 on a captured set: the values below the factory minimum of classes 1 and 2 replaced, as (class,
resource), and the result. -/
def minReplaced (l : List (Nat × Nat)) : List (Nat × Nat) × List (Nat × Nat) :=
  let mins : List (Nat × Nat) := [(24000, 48000), (16000, 36000)]
  let hit : List (Nat × Nat) := (upto 2).flatMap (fun k =>
    let x := l.getD k (0, 0)
    let y := mins.getD k (0, 0)
    (if x.1 < y.1 then [(k + 1, 0)] else []) ++ (if x.2 < y.2 then [(k + 1, 1)] else []))
  ((l.zip (upto 8)).map (fun (x : (Nat × Nat) × Nat) =>
    let y := mins.getD x.2 (0, 0)
    (max x.1.1 y.1, max x.1.2 y.2)), hit)

def sumOf (l : List Nat) : Nat := l.foldl (· + ·) 0

/-- The first class at which a running sum exceeds a capacity. -/
def overAt (cap : Nat) : Nat → Nat → List Nat → Nat
  | k, _, [] => k
  | k, acc, x :: r => if cap < acc + x then k else overAt cap (k + 1) (acc + x) r

/-- The first failing check of R33: cause, resource, class. -/
def Mod.setFault (m : Mod) (l : List (Nat × Nat)) : Option (Nat × Nat × Nat) :=
  let sr := l.map (fun x => x.1)
  let re := l.map (fun x => x.2)
  if 225000 < sumOf sr then some (1, 0, overAt 225000 1 0 sr)
  else if 300000 < sumOf re then some (2, 1, overAt 300000 1 0 re)
  else if sr.getD 2 0 < 1000 * m.leafCount then some (3, 0, 3)
  else if re.getD 2 0 < 1500 * m.leafCount then some (4, 1, 3)
  else none

/-- The governor at a period boundary (R29, R30, R32, R33): decide a set captured strictly before it, renew
the budgets less the overshoot, end the suspensions. (Assumption 24 DEDUCED) -/
def Mod.govBoundary (m : Mod) (t : Nat) : Mod :=
  let m := match m.gov.pendingSet with
    | none => m
    | some set =>
      if t ≤ m.gov.applyAt then m
      else if m.saf.single then
        (m.onGov (fun g => { g with pendingSet := none, lastRejected := true })).raise 0xD003 0 [5, 0xFF, 0]
      else
        let x := minReplaced set
        (match m.setFault x.1 with
          | some f => (m.onGov (fun g => { g with pendingSet := none, lastRejected := true })).raise 0xD003 0
              [f.1, f.2.1, f.2.2]
          | none =>
            let m := (m.onGov (fun g => { g with pendingSet := none, lastRejected := false, active := x.1 })).raise
              0xD002 0 [fabAt m.time t]
            x.2.foldl (fun m (r : Nat × Nat) => m.raise 0xD004 0 [r.1, r.2]) m)
  m.onGov (fun g => { g with
    left := (g.active.zip g.overshoot).map (fun (x : (Nat × Nat) × (Nat × Nat)) =>
      (x.1.1 - x.2.1, x.1.2 - x.2.2)),
    overshoot := List.replicate 8 (0, 0), suspended := List.replicate 8 false, lastBoundary := t })

/-! ### SRAM (R37, R38, R274) -/

/-- SRAM_SCRUB: a pass over the SRAM with its corrected single-bit errors. -/
def execSramScrub (corrected : Nat) (s : State) : Out :=
  s.work 8 (fun m => m.onClk (fun c => { c with scrubs := c.scrubs + 1, ceCount := sat32 (c.ceCount + corrected) }))

/-- Regions that the safety functions use. (Assumptions 23 DEDUCED, 119 DEDUCED) -/
def safetyRegion : Region → Bool
  | .firmware => true
  | .workingConfig => true
  | _ => false

/-- An uncorrectable error outside the safety regions is a fault of the function that owns the region (R37), which loses what
the region held: a profile is reloaded, a fingering table becomes invalid; the fabric loses its buffers and its received
points, an active ring halts, the mirror frame and the open contexts are gone, the recorder drops what it had staged. The
reserve is owned by no function. (Assumption 23 DEDUCED) -/
def Mod.regionFault (m : Mod) (region : Region) : Mod :=
  let m := m.onClk (fun c => { c with
    ueRegions := if c.ueRegions.contains region then c.ueRegions else c.ueRegions ++ [region] })
  match region with
  | .profile i => m.onOb i (fun o => { o with loading := true })
  | .fingering i => m.onAx i (fun a => { a with tabs := a.tabs.map (fun t => t.map (fun t => { t with valid := false })) })
  | .fabricBuf => m.onFab (fun x => { x with
      ports := x.ports.map (fun q => { q with buf := [] }), image := x.image.map (fun y => { y with ok := false }) })
  | .ringStaging => (upto 32).foldl (fun m i => if (m.ring i).active then m.haltRing i 4 else m) m
  | .mirrorBuf => m.onTw (fun t => { t with mir := none })
  | .txnContexts => m.txnLost.reportLost
  | .recorderStaging => m.onRec (fun r => { r with
      dropped := r.dropped + r.blk.length, blk := [], staged := [], inc := { r.inc with stage := [] } })
  | .preTrigger => m.onInc (fun c => { c with pre := [] })
  | .firmware => m
  | .workingConfig => m
  | .reserve => m

/-- SRAM_UNCORRECTABLE_ERROR: a loss of the Reed channel in a safety region, else the owning function's fault.
 (Assumptions 23 DEDUCED, 119 DEDUCED) -/
def execSramUncorrectableError (region : Region) (s : State) : Out :=
  s.live (fun m =>
    let m := m.faultBit 4
    if safetyRegion region then m.loseReed 3 else m.regionFault region)

end Sys2Proof.Machine
end

