-- ==== Sys2Proof/Machine/Recorder.lean ====
section
/-! DEFINITION. The cycle journal, the incident recorder, the sentinel area and the lifetime counters: the
commands of 15_recorder.md. -/
namespace Sys2Proof.Machine

/-! ### Records as bytes (R135, R520 to R526, R529, R530, R532, R539) -/

def le2 (x : Int) : List Byte := leBytes 2 (toBits 16 x)
def le1 (x : Int) : List Byte := leBytes 1 (toBits 8 x)
def le8 (x : Int) : List Byte := leBytes 8 (toBits 64 x)
def zeros (n : Nat) : List Byte := List.replicate n 0
/-- Exactly n bytes of a list, padded with 0. -/
def fitBytes (n : Nat) (b : List Byte) : List Byte := b.take n ++ zeros (n - b.length)

def nsOf (t : Int) : Int := t % 1000000000
def secOf (t : Int) : Int := t / 1000000000

/-- The 64-bit payload of an event. Motion events carry the TAG in the low 16 bits (R236), transaction events the key's
serial and the coordinator (R486), with a single item above; what an event lists without places is Config.eventBits.
 -/
def Ev.payload (e : Ev) : Nat :=
  let free := (Config.eventBits e.code e.pay).toNat
  let item (k : Nat) : Int := e.pay.getD k 0
  if 0x1020 ≤ e.code ∧ e.code ≤ 0x103F then
    (if e.code = 0x1032 then 65536 * toBits 48 (item 0)
     else toBits 16 (item 0)
      + 65536 * (if e.code = 0x1021 ∨ e.code = 0x1030 then free / 65536 else toBits 48 (item 1)))
  else if 0x8000 ≤ e.code ∧ e.code ≤ 0x80FF then
    toBits 16 (item 0) + 65536 * toBits 9 (item 1)
      + 2 ^ 25 * (if 0x8005 ≤ e.code then toBits 39 (item 2) else free / 2 ^ 25)
  else free

/-- The 8 words of an event record on an event ring (R135): EVENT_CODE and SOURCE; PHASE and LOST; RING_SEQ; the
timestamp; PAYLOAD. -/
def EvRec.words (r : EvRec) : List Nat :=
  let t := tsWords r.ev.time
  [r.ev.code % 65536 * 65536 + r.ev.src % 65536, b2n r.phase * 2 ^ 31 + b2n r.lost * 2 ^ 30, r.seq % 2 ^ 32,
    t.1, t.2.1, t.2.2, r.ev.payload % 2 ^ 32, r.ev.payload / 2 ^ 32]

/-- An event as the recorder holds it: 32 bytes with word 1 as 0. (Assumption 8 DESIGN CHOICE) -/
def Ev.bytes (e : Ev) : List Byte :=
  le4 (e.code * 65536 + e.src % 65536 : Nat) ++ zeros 4 ++ le4 (e.no : Nat) ++ le4 (nsOf e.time)
    ++ le4 (secOf e.time) ++ le4 (toBits 48 (secOf e.time) / 4294967296 : Nat)
    ++ leBytes 8 e.payload

def RoleBlk.bytes (b : RoleBlk) : List Byte :=
  le4 b.endPos ++ le2 b.closeMs ++ le2 b.openMs ++ le2 b.peakFClose ++ le2 b.peakFOpen ++ le2 b.peakErr
    ++ le2 b.peakRms ++ le2 b.energy ++ le1 b.moves ++ le1 b.flags ++ le2 b.peakBin ++ zeros 2

/-- Bytes 24 to 255 of a cycle record (R522). -/
def CycRec.bytes (c : CycRec) : List Byte :=
  fitBytes 232 (le4 (nsOf c.start) ++ le4 (secOf c.start) ++ le4 (nsOf c.stop) ++ le4 (secOf c.stop)
    ++ le1 c.modeStart ++ le1 c.modeEnd ++ le1 c.endState ++ le1 c.reversals ++ le2 c.obstacle ++ le1 c.probe
    ++ zeros 1 ++ le2 c.probeRatio ++ le2 c.onsetShift ++ le2 c.lockConfirm ++ le2 c.stepConfirm
    ++ le2 c.warning ++ le2 c.opens ++ le2 c.relCoord ++ le2 c.relSerial
    ++ (c.roles.map RoleBlk.bytes).flatten ++ le4 c.relLate ++ le2 c.firstFault ++ zeros 2 ++ le2 c.busMin
    ++ le2 c.tempMax ++ le4 c.cycles ++ leBytes 8 c.check.toNat ++ (c.user.map le2).flatten ++ le4 c.fw)

def JBody.enc : JBody → List Byte
  | .cycle c => c.bytes
  | .block dropped evs => fitBytes 232 (le4 dropped ++ zeros 4 ++ (evs.map Ev.bytes).flatten)
  | .bytes b => fitBytes 232 b

/-- A record's 256 bytes with a given CRC field. -/
def JRec.withCrc (r : JRec) (crc : Nat) : List Byte :=
  leBytes 8 r.seq ++ le1 r.type ++ le1 r.source ++ le2 r.flags ++ leBytes 4 crc ++ leBytes 8 r.raw ++ r.body.enc

def JRec.bytes (r : JRec) : List Byte := r.withCrc (crc32 (r.withCrc 0)).toNat

/-- (Assumption 115 DEDUCED) -/
def IEnt.bytes : IEnt → List Byte
  | .ev e => e.bytes
  | .frame _ w => (w.map (fun (n : Nat) => le4 n)).flatten

/-- The bytes of an incident header from its numbers (R532). -/
def hdrBytes (h : List Int) : List Byte :=
  let w (k : Nat) : Int := h.getD k 0
  let b := le4 (w 0) ++ le1 (w 1) ++ le1 (w 2) ++ le2 (w 3) ++ le4 (nsOf (w 4)) ++ le4 (secOf (w 4)) ++ le4 (w 5)
    ++ le4 (w 6) ++ le4 (w 7) ++ le4 (w 8) ++ le4 (w 9) ++ le8 (w 10) ++ le8 (w 11)
  b ++ leBytes 4 (crc32 b).toNat

/-- The copy a reader uses: the one with the higher POST_LENGTH, of two equal ones the newer (R532). -/
def Inc.header (c : Inc) : List Byte :=
  hdrBytes (if c.hdrs.2.getD 7 0 < c.hdrs.1.getD 7 0 then c.hdrs.1 else c.hdrs.2)

/-! ### Commits (R517 to R519, R538, R540) -/

def JRing.size (cyc : Bool) : Nat := if cyc then 196608 else 65536

def RecSt.ring (r : RecSt) (cyc : Bool) : JRing := if cyc then r.cyc else r.evr
def RecSt.onRing (r : RecSt) (cyc : Bool) (f : JRing → JRing) : RecSt :=
  if cyc then { r with cyc := f r.cyc } else { r with evr := f r.evr }

/-- The record belongs to the cycle ring; bit 7 of TYPE marks one of the twin. -/
def JRec.isCyc (r : JRec) : Bool := decide (r.type % 128 = 1)

/-- The oldest staged record of a ring, and the others. -/
def takeStaged (cyc : Bool) : List JRec → Option (JRec × List JRec)
  | [] => none
  | x :: r => if x.isCyc = cyc then some (x, r) else (takeStaged cyc r).map (fun (y : JRec × List JRec) => (y.1, x :: y.2))

/-- Before the first write, the floor moves past the record that the slot holds (R519). -/
def JRing.raiseFloor (j : JRing) (n : Nat) : JRing :=
  let f := max j.floor (j.head + 1 + 1 - n)
  { j with floor := f, recs := j.recs.filter (fun r => decide (f ≤ r.seq)) }

/-- The record is committed under the next number; HEAD_SEQ is stored after every 1,024 records. -/
def JRing.push (j : JRing) (r : JRec) : JRing :=
  let s := j.head + 1
  { j with head := s, recs := j.recs ++ [{ r with seq := s }], stored := if s % 1024 = 0 then s else j.stored }

/-- Three writes, each read back, one retry each: the number of the write that fails twice (R518, R538).
 (Assumption 116 DEDUCED) -/
def writeFault : Nat → List Bool → Option Nat
  | 0, _ => none
  | k + 1, l =>
    if l.getD 0 true then writeFault k (l.drop 1)
    else if l.getD 1 true then writeFault k (l.drop 2)
    else some (2 - k)

/-- Staged incident units go to the post-trigger part as far as it has room (R531); each 64 KB the header is written (R532).
 (Assumption 115 DEDUCED) -/
def Inc.commit (c : Inc) : Inc :=
  let room := postUnits - unitsOf c.post
  let fit := c.stage.foldl (fun (x : List IEnt × Nat) e =>
    if x.2 + e.units ≤ room then (x.1 ++ [e], x.2 + e.units) else x) ([], 0)
  if c.st = .recording then
    let n : Inc := { c with post := c.post ++ fit.1, stage := [], postLen := 32 * (unitsOf c.post + fit.2) }
    if n.postLen / 65536 = c.postLen / 65536 then n else n.putHdr
  else c

/-- A recorder memory fault (R538): 0 cycle ring, 1 event ring; the address lies in the ring's region. What
is staged goes to the twin (R540). (Assumptions 116 DEDUCED, 118 DEDUCED) -/
def Mod.recFault (m : Mod) (region addr : Nat) : Mod :=
  let st := m.recd.staged
  let m := m.onRec (fun r => { r with
    memFault := true, staged := [], toTwin := if m.tw.pairFormed then r.toTwin ++ st else r.toTwin,
    inc := { r.inc with st := .off } })
  (m.faultBit 9).raise 0xA001 0 [region, addr]

/-- RECORD_COMMIT (R518, R519, R538, R540): the oldest staged record of a ring, with the read-backs of its
writes in order; the incident units that are staged too. Under a standing fault the records for the twin
leave over the ligature in class 8. (Assumptions 115 DEDUCED, 118 DEDUCED) -/
def execRecordCommit (cyc : Bool) (readback : List Bool) (s : State) : Out :=
  s.work (if s.m.recd.memFault then 8 else 6) (fun m =>
    if m.recd.memFault then
      let l := m.recd.toTwin
      let m := m.onRec (fun r => { r with toTwin := [] })
      l.foldl (fun m (r : JRec) => m.sendTwin 0x540 0 (r.bytes.map (fun (b : Byte) => (b.toNat : Int)))) m
    else
      let m := m.onInc Inc.commit
      match takeStaged cyc m.recd.staged with
      | none => m
      | some (r, rest) =>
        let n := JRing.size cyc
        let slot := ((m.recd.ring cyc).head + 1) % n
        let m := m.onRec (fun x => x.onRing cyc (fun j => j.raiseFloor n))
        match writeFault 3 readback with
        | none => m.onRec (fun x => ({ x with staged := rest }).onRing cyc (fun j => j.push r))
        | some w => m.recFault (if cyc then 0 else 1) (slot * 256 + if w = 1 then 8 else 0))

/-- Commit everything staged, as a power failure does (R537). -/
def Mod.commitAll (m : Mod) : Mod :=
  if m.recd.memFault then m
  else
    let one (r : RecSt) (x : JRec) : RecSt :=
      r.onRing x.isCyc (fun j => (j.raiseFloor (JRing.size x.isCyc)).push x)
    (m.onRec (fun r => { r.staged.foldl one r with staged := [] })).onInc Inc.commit

/-- EVENT_BLOCK_CLOSE (R525): the first 1 ms boundary of R_RAW after the block's first event. -/
def execEventBlockClose (s : State) : Out :=
  s.work 6 (fun m => if m.recd.blk.isEmpty then m else (m.advance (nextMul m.recd.blkAt MS)).closeBlock 0)

/-! ### Incident recorder (R529 to R533) -/

/-- A millisecond of the copy of the frozen buffer (R531). (Assumption 149 DESIGN CHOICE) -/
def Mod.preCopy (m : Mod) : Mod :=
  let n := m.freeCtr
  { m.onInc (fun c => { c with preCopied := min c.preLen (c.preCopied + 32 * (63 + Config.copyMore n)) }) with freeCtr := n + 1 }

/-- INCIDENT_FRAME_SAMPLE (R529, R530): at the next 1 ms boundary of fabric time, which after a backward jump may be one
that passed before, the frame of the last tick boundary; in class 6 the units staged before it are committed and the copy of the frozen buffer goes on. -/
def execIncidentFrameSample (s : State) : Out :=
  s.live (fun m =>
    let next := (m.now + 999999) / 1000000
    let k := if m.now < m.recd.lastFrameMs * 1000000 then next else max (m.recd.lastFrameMs + 1) next
    let m := m.advance (rawAt m.time (k * 1000000))
    let room := decide (m.recd.stageUsed + 9 ≤ stageUnits)
    let no := m.recd.inc.frameNo
    let w := upd m.recd.tickFrame 0 (fun _ => 0xF1000000 + no % 65536)
    let six := m.runs 6
    let m := m.onInc (fun c => { (if six then c.commit else c).enter room (.frame (k * 1000000) w) with frameNo := no + 1 })
    let m := if six && m.recd.inc.copying then m.preCopy else m
    m.onRec (fun r => { r with lastFrameMs := k }))

/-- PRE_TRIGGER_COPIED (R531): the frozen buffer stands in MRAM, and the SRAM buffer fills again. -/
def execPreTriggerCopied (s : State) : Out :=
  s.work 6 (fun m =>
    if m.recd.inc.copying then
      let m := m.onInc (fun c => Inc.putHdr { c with pre := [], copying := false, preCopied := c.preLen })
      m.raise 0xA006 0 [m.recd.inc.preLen]
    else m)

/-- INCIDENT_FULL (R531): no whole frame fits in the post-trigger part any more. -/
def execIncidentFull (s : State) : Out :=
  s.live (fun m =>
    let c := m.recd.inc
    if c.st = .recording ∧ postUnits < unitsOf c.post + unitsOf c.stage + 9 then
      let m := m.onInc (fun c => Inc.putHdr { c.commit with st := .full, endCause := 1, stage := [] })
      m.raise 0xA003 0 [m.recd.inc.no, 1, m.recd.inc.postLen]
    else m)

/-- LIFETIME_COUNTER_WRITE (R527): every 10 s; recorder work, class 6 (R29). -/
def execLifetimeCounterWrite (s : State) : Out := s.work 6 (fun m => (m.advance (m.recd.lifeAt + 10 * SEC)).lifeFlush.lifeSave)

/-- TWIN_RECORD_RX (R540): a record of the twin, committed under the own numbers with bit 7 of TYPE. -/
def execTwinRecordRx (cyc : Bool) (body : List Byte) (s : State) : Out :=
  s.live (fun m =>
    if m.tw.pairFormed && !m.recd.memFault then
      let b := fitBytes 256 body
      let r : JRec := ⟨0, if cyc then 0x81 else 0x82, ofLe ((b.drop 9).take 1), ofLe ((b.drop 10).take 2),
        ofLe ((b.drop 16).take 8), .bytes (b.drop 24)⟩
      m.onRec (fun x => { x with staged := x.staged ++ [r] })
    else m)

/-! ### Ring commands (R534, R536, R539, R542) -/

/-- RECORDER_STATUS. -/
def execRecorderStatus (h : Hdr) (s : State) : Out :=
  s.ring h descRecorderStatus Mode.reads (fun m =>
    let c := m.recd.cyc.head
    let e := m.recd.evr.head
    (m, some { status := 0, res := res2 c e, detail := m.recd.inc.stNum }))

/-- JOURNAL_READ: a long operation. (Assumption 57 DEDUCED) -/
def execJournalRead (h : Hdr) (ring first len : Nat) (s : State) : Out :=
  s.ring h (descJournalRead ring first len) Mode.reads (fun m =>
    if 2 ≤ ring then (m, some (refuse 0x1004))
    else if len = 0 ∨ len % 256 ≠ 0 then (m, some (refuse 0x1006))
    else if m.recd.memFault then (m, some (refuse 0x4B01))
    else if (m.recd.ring (decide (ring = 0))).head < first then (m, some (refuse 0x1B01))
    else m.startLong (some h) (.journalRead ring first len) (len / 256))

/-- INCIDENT_READ: committed bytes of the header, the pre-trigger or the post-trigger part. -/
def execIncidentRead (h : Hdr) (part off len : Nat) (s : State) : Out :=
  s.ring h (descIncidentRead part off len) Mode.reads (fun m =>
    if 3 ≤ part ∨ off % 32 ≠ 0 then (m, some (refuse 0x1003))
    else if m.recd.memFault then (m, some (refuse 0x4B01))
    else
      let c := m.recd.inc
      let b := match part with
        | 0 => c.header
        | 1 => ((c.preMram.map IEnt.bytes).flatten).take c.preCopied
        | _ => (c.post.map IEnt.bytes).flatten
      let out := (b.drop off).take len
      let n : Nat := out.length
      let t : Nat := b.length
      (m, some { status := 0, res := res2 n t, buf := out }))

/-- INCIDENT_TRIGGER: the host's trigger carries the code 0. (Assumption 115 DEDUCED) -/
def execIncidentTrigger (h : Hdr) (s : State) : Out :=
  s.ring h descIncidentTrigger Mode.comm (fun m =>
    let armed := decide (m.recd.inc.st = .armed)
    let m := if bit (m.pn P.incidentTriggers 0) 3 then m.trigger 0 m.now else m
    let n : Nat := if armed && decide (m.recd.inc.st = .recording) then m.recd.inc.no else 0
    (m, some { status := 0, res := res2 n 0 }))

/-- INCIDENT_REARM: only in FULL, with the incident's number (R534). -/
def execIncidentRearm (h : Hdr) (no : Nat) (s : State) : Out :=
  s.ring h (descIncidentRearm no) Mode.comm (fun m =>
    match m.recd.inc.st with
    | .recording => (m, some (refuse 0x2B01))
    | .armed => (m, some (refuse 0x2B02))
    | .off => (m, some (refuse 0x2B02))
    | .full =>
      if no ≠ m.recd.inc.no then (m, some (refuse 0x1B02))
      else
        let m := m.onInc (fun c => (Inc.putHdr { Inc.reset with
          no := c.no, frameNo := c.frameNo, pre := if c.copying then [] else c.pre }).putHdr)
        (m.raise 0xA005 0 [no], some okReply))

/-- COUNTERS_READ (R527). -/
def execCountersRead (h : Hdr) (len : Nat) (s : State) : Out :=
  s.ring h (descCountersRead len) Mode.reads (fun m =>
    if len < 1200 then (m, some (refuse 0x1006))
    else
      let m := m.lifeFlush
      (m, some { status := 0, buf := (m.recd.life.map (fun n => leBytes 8 n)).flatten }))

/-- SENTINEL_READ (R539): the header's count and first stamp, then 127 units. (Assumption 117 DEDUCED) -/
def execSentinelRead (h : Hdr) (len : Nat) (s : State) : Out :=
  s.ring h (descSentinelRead len) Mode.reads (fun m =>
    if len < 4096 then (m, some (refuse 0x1006))
    else
      let l := m.recd.sentinel
      let t := (l.head?.map (fun e => e.time)).getD 0
      let n : Nat := l.length
      let head := fitBytes 32 (le4 n ++ le4 (nsOf t) ++ le4 (secOf t))
      (m, some { status := 0, res := res2 n 0, buf := fitBytes 4096 (head ++ (l.map Ev.bytes).flatten) }))

/-- SENTINEL_CLEAR (R539): only in SERVICE with no fault standing. (Assumption 117 DEDUCED) -/
def execSentinelClear (h : Hdr) (s : State) : Out :=
  s.ring h descSentinelClear Mode.comm (fun m =>
    if m.md ≠ .service ∨ m.recd.memFault then (m, some (refuse 0x2B03))
    else (m.onRec (fun r => { r with sentinel := [], sentinelFull := false }), some okReply))

/-! ### Starts and power failures -/

/-- The memory test of a start (R538): a pattern in the slot of each ring's next record, which it leaves invalid. What it
reads back is the memory's. (Assumption 149 DESIGN CHOICE) -/
def Mod.recTest (m : Mod) : Mod :=
  let n := m.freeCtr
  let addr (cyc : Bool) : Nat := ((m.recd.ring cyc).head + 1) % JRing.size cyc * 256
  let m : Mod := { m.onRec (fun r => { r with
    memFault := false, cyc := r.cyc.raiseFloor (JRing.size true), evr := r.evr.raiseFloor (JRing.size false) }) with freeCtr := n + 2 }
  if !Config.recTestOk n then m.recFault 0 (addr true)
  else if !Config.recTestOk (n + 1) then m.recFault 1 (addr false)
  else m

/-- The incident recorder after a start (R533, R537): OFF ends, an incident that a power failure cut is FULL, a recording
goes on with its gap. (Assumption 115 DEDUCED) -/
def Inc.restart (c : Inc) (gap : Nat) : Inc :=
  let open_ := decide (c.st = .recording) || (decide (c.st = .off) && decide (c.no ≠ 0) && decide (c.trigTime ≠ 0))
  if c.st = .full ∨ (c.st = .off ∧ c.endCause = 1) then { c with st := .full }
  else if open_ && decide (c.endCause = 2) then Inc.putHdr { c with st := .full, stage := [] }
  else if open_ then { c with st := .recording, gapMs := c.gapMs + gap }
  else { c with st := .armed }

/-- What the recorder does when a start completes (R525, R533, R538): the memory test, the incident recorder's state, and the
Bore events of the reset, passed on as they were stamped and judged as triggers. -/
def Mod.recStart (m : Mod) : Mod :=
  let q := m.recd.boreQ
  let gap := (m.raw - m.start.enteredAt) / MS
  let was := m.recd.inc.st
  let m := m.onRec (fun r => { r with boreQ := [], lastFrameMs := m.now / 1000000, inc := r.inc.restart gap })
  let m := if m.recd.inc.st = .full ∧ was ≠ .full ∧ m.recd.inc.endCause = 2 then
      m.raise 0xA003 0 [m.recd.inc.no, 2, m.recd.inc.postLen] else m
  let m := m.recTest
  q.foldl (fun m e =>
    let m := ((m.onRec (fun r => r.store e m.raw)).offerAll e).settleBlk
    match Ev.trigger e with
    | some g => if bit (m.pn P.incidentTriggers 0) g then m.trigger e.code e.time else m
    | none => m) m

/-- A power failure (R537): the block with the POWER_FAIL event, the open cycles, everything staged, the
counters, the incident header. The recorder is FULL from the next start. -/
def Mod.recPowerFail (m : Mod) : Mod :=
  let m := m.closeBlock 1
  let m := m.portals.foldl (fun m p => m.cycEnd p (m.portal p).state true) m
  let m := (m.closeBlock 1).commitAll.lifeFlush.lifeSave
  m.onInc (fun c => if c.st = .recording then Inc.putHdr { c with endCause := 2 } else c.putHdr)

end Sys2Proof.Machine
end

