-- ==== Sys2Proof/Machine/Supply.lean ====
section
/-! DEFINITION. Supply and thermal (02): the commands of 02_connectors_supply_thermal.md, power-on and the
loss of the safety rail. -/
namespace Sys2Proof.Machine

/-! ### Power limits (R53 to R56) -/

/-- k(T) in 1/10,000 of a temperature in 0.1 degC (R53, R70). -/
def kOf (t : Int) : Nat :=
  if t ≤ 850 then 10000 else if t ≤ 1250 then (10000 - 15 * (t - 850)).toNat else 4000

/-- P_PEAK and P_CONT in mW (R53), with the parameters of R56. -/
def Mod.pPeak (m : Mod) : Nat :=
  let (cap, amp) := if m.id.part = .A then (2400000, 2200) else (1200000, 1100)
  min (min cap (m.sup.vbus * amp) * m.sup.kT / 10000) (m.pn P.busPeakPowerLimit 0 * 1000)

def Mod.pCont (m : Mod) : Nat :=
  let (cap, amp) := if m.id.part = .A then (600000, 1300) else (300000, 650)
  min (min cap (m.sup.vbus * amp) * m.sup.kT / 10000) (m.pn P.busContPowerLimit 0 * 1000)

/-- The limit in force in mW: P_CONT while the reserve is empty (R54). -/
def Mod.pLimit (m : Mod) : Nat := if m.sup.reserveEmpty then min m.pCont m.pPeak else m.pPeak

/-- E_MAX in 0.1 uJ (R54). -/
def Mod.eMax (m : Mod) : Int := (if m.id.part = .A then 72000000000 else 36000000000) * (m.sup.kT : Int) / 10000

/-- An empty reserve makes P_CONT the peak limit; 10 % of E_MAX ends that (R54). -/
def Mod.reserveJudge (m : Mod) : Mod :=
  if m.sup.reserve ≤ 0 ∧ !m.sup.reserveEmpty then (m.onSup (fun x => { x with reserveEmpty := true })).raise 0xC006 0 []
  else if m.sup.reserveEmpty ∧ m.eMax ≤ m.sup.reserve * 10 ∧ 0 < m.sup.reserve then m.onSup (fun x => { x with reserveEmpty := false })
  else m

/-- The reserve over one tick at a bus power in W (R54). (Assumption 5 DESIGN CHOICE) -/
def Mod.reserveTick (m : Mod) (power : Nat) : Mod :=
  (m.onSup (fun x => { x with power := power, reserve := clampI 0 m.eMax (x.reserve + m.pCont - (power : Int) * 1000) })).reserveJudge

/-- Hold the axes that accelerate with a speed above zero (R55). (Assumption 26 DEDUCED) -/
def Mod.holdAxes (m : Mod) : Mod :=
  m.axes.foldl (fun m i =>
    match (m.axis i).mv with
    | some mv =>
      let k := mv.kin m.raw
      if k.v ≠ 0 ∧ 0 < k.v * k.a ∧ mv.stop.isNone then
        (m.onAx i (fun a => { a with tempLimit := some k.v.natAbs })).markLimited i
      else m
    | none => m) m

/-- The speed limit of an axis after the lowerings made so far: 10 % of its programmed value each.
 (Assumption 26 DEDUCED) -/
def Mod.lowerAxis (m : Mod) (i : Nat) : Mod :=
  match (m.axis i).mv with
  | some mv =>
    let v := mv.lim.v * (10 - m.sup.lowerings) / 10
    (m.onAx i (fun a => { a with tempLimit := some (min (a.tempLimit.getD v) v) })).markLimited i
  | none => m

/-- The temporary limit at a tick: gone at rest. (Assumption 26 DEDUCED) -/
def Mod.tempTick (m : Mod) (i : Nat) : Mod :=
  if (m.axis i).mv.isNone then m.onAx i (fun a => { a with tempLimit := none }) else m

/-- BUS_POWER_LIMIT (R55): bus power in W reaches the limit in force. (Assumption 27 DEDUCED) -/
def execBusPowerLimit (power : Nat) (s : State) : Out :=
  s.live (fun m =>
    if m.sup.limitActive ∨ power * 1000 < m.pLimit then m
    else
      let m := m.onSup (fun x => { x with limitActive := true, lowerings := 0, lowerAt := m.raw, power := power })
      let w : Nat := m.pLimit / 1000
      (m.raise 0xC005 0 [1, w]).holdAxes)

/-- BUS_POWER_LOWERING (R55): every 10 ms while the limit persists, down to 10 %. -/
def execBusPowerLowering (power : Nat) (s : State) : Out :=
  s.live (fun m =>
    if m.sup.limitActive ∧ m.pLimit ≤ power * 1000 then
      let m := m.advance (m.sup.lowerAt + 10 * MS)
      let m := m.onSup (fun x => { x with lowerings := min 9 (x.lowerings + 1), lowerAt := m.raw, power := power })
      m.axes.foldl (fun m i => m.lowerAxis i) m
    else m)

/-- BUS_POWER_LIMIT_CLEAR (R55): below 80 % of the limit. (Assumption 27 DEDUCED) -/
def execBusPowerLimitClear (power : Nat) (s : State) : Out :=
  s.live (fun m =>
    if m.sup.limitActive ∧ power * 1000 * 10 < m.pLimit * 8 then
      let m := m.onSup (fun x => { x with limitActive := false, lowerings := 0, power := power })
      let ax : List Axis := m.ax.map (fun a => { a with tempLimit := none })
      let m : Mod := { m with ax := ax }
      let w : Nat := m.pLimit / 1000
      m.raise 0xC005 0 [0, w]
    else m)

/-- The instant within a tick at which the reserve, at the bus power of the last tick, reaches a level. -/
def Mod.reserveAt (m : Mod) (level : Int) : Mod :=
  let rate : Int := (m.pCont : Int) - (m.sup.power : Int) * 1000
  let gap := level - m.sup.reserve
  if decide (0 < gap * rate) && decide (gap.natAbs ≤ rate.natAbs) then m.onSup (fun x => { x with reserve := level }) else m

/-- PEAK_RESERVE_EMPTY (R54): the reserve reaches 0 before the next tick boundary. -/
def execPeakReserveEmpty (s : State) : Out := s.live (fun m => (m.reserveAt 0).reserveJudge)

/-- PEAK_RESERVE_RECOVERED (R54): the reserve reaches 10 % of E_MAX. -/
def execPeakReserveRecovered (s : State) : Out := s.live (fun m => (m.reserveAt ((m.eMax + 9) / 10)).reserveJudge)

/-! ### Sag, interruption, power failure (R57 to R63, R576, R577) -/

/-- SUPPLY_SAG. -/
def execSupplySag (vbus : Nat) (s : State) : Out :=
  s.pow (fun m =>
    if m.sup.st = .normal ∧ 300 ≤ vbus ∧ vbus < 420 then
      let m := m.onSup (fun x => { x with st := .sag, vbus := vbus, leftNormal := m.raw })
      m.raise 0xC001 0 [vbus]
    else m)

/-- SUPPLY_INTERRUPTED: the moving axes receive a stop request. (Assumption 25 DEDUCED) -/
def execSupplyInterrupted (vbus : Nat) (svc24 : Bool) (s : State) : Out :=
  s.pow (fun m =>
    if m.sup.st ≠ .interrupted ∧ vbus < 300 then
      let m := m.onSup (fun x => { x with
        st := .interrupted, vbus := vbus, leftNormal := if x.st = .normal then m.raw else x.leftNormal,
        intStart := m.raw, svc24 := svc24, svcThrough := svc24 })
      let m := m.raise 0xC002 0 [m.now]
      m.axes.foldl (fun m i => if m.moving i then m.onAx i (fun a => { a with arr := .stop .self :: a.arr }) else m) m
    else m)

/-- Torque is lost on every axis without STO; each takes P_ENC as its command when it returns. -/
def Mod.gatesOff (m : Mod) : Mod :=
  m.axes.foldl (fun m i =>
    if (m.axis i).torque then (m.dropTorque i).onAx i (fun a => { a with coast := true }) else m) m

/-- Axes whose isolators stand closed regain torque at rest. (Assumption 69 DEDUCED) -/
def Mod.gatesOn (m : Mod) : Mod :=
  m.axes.foldl (fun m i =>
    let a := m.axis i
    if !a.torque && decide (a.iso = .closed) && m.mayDrive i then m.gainTorque i else m) m

/-- DC_LINK_COLLAPSE (R59). -/
def execDcLinkCollapse (s : State) : Out :=
  s.pow (fun m =>
    if m.sup.st = .interrupted then (m.onSup (fun x => { x with dcLinkDown := true })).gatesOff else m)

/-- SUPPLY_RESTORED (R57, R576, R78): V_BUS rose to 43 V at R_RAW `riseAt` and has held for 10 ms. -/
def execSupplyRestored (vbus riseAt : Nat) (s : State) : Out :=
  s.pow (fun m =>
    if m.sup.st ≠ .normal ∧ !m.sup.powerFail ∧ 430 ≤ vbus then
      let m := m.advance (riseAt + 10 * MS)
      let d : Nat := (riseAt - m.sup.leftNormal) / US
      let m := m.onSup (fun x => { x with
        st := .normal, vbus := vbus, dcLinkDown := x.dcLinkDown && x.svcThrough,
        svcThrough := x.dcLinkDown && x.svcThrough })
      m.raise 0xC003 0 [d]
    else m)

/-- POWER_FAIL is declared (R59 to R61, R537): 1 the 10 ms, 2 the reserve level, 3 the service supply. The
recorder closes, the control die is held in reset, the load switches take their fail-safe states and both
loops open. (Assumption 25 DEDUCED) -/
def Mod.powerDown (m : Mod) (cause : Nat) : Mod :=
  let m := m.onSup (fun x => { x with powerFail := true, failAt := m.raw })
  let m := (m.life 3 1).raise 0xC004 0 [cause]
  let m := m.degWrite
  let m := (upto 4).foldl (fun m g => m.demand g 5) m
  let m := m.axes.foldl (fun m i => m.dropTorque i) m
  let m := (m.withdraw .L 5).withdraw .R 5
  let m := ((m.openLoopOf .L 3).openLoopOf .R 3).recPowerFail
  let m := m.txnReset.canReset.workReset.secReset.regReset
  let m := (m.onIo (fun x => { x with fsMode := true })).lsDriveAll
  (m.onMode (fun x => { x with trigs := [] })).onStart (fun x => { x with
    inReset := true, loopsHeld := (false, false), step := 0, autoAt := none })

/-- POWER_FAIL: 10 ms into an interruption, or at a later fall, with V_BUS below 43 V. With SVC_24V the
logic goes on and SERVICE_SUPPLY_ONLY is raised (R59, R63). (Assumptions 25 DEDUCED, 29 DEDUCED) -/
def execPowerFail (vbus : Nat) (s : State) : Out :=
  s.pow (fun m =>
    if m.sup.st = .interrupted ∧ !m.sup.powerFail ∧ vbus < 430 then
      let m := (m.advance (m.sup.intStart + 10 * MS)).onSup (fun x => { x with vbus := vbus })
      if m.sup.svc24 then
        (if m.sup.serviceOnly then m
         else (m.onSup (fun x => { x with serviceOnly := true, dcLinkDown := true })).gatesOff.raise 0xC00E 0 [])
      else m.powerDown 1
    else m)

/-- HOLDUP_RESERVE_LEVEL (R60). (Assumption 29 DEDUCED) -/
def execHoldupReserveLevel (s : State) : Out :=
  s.pow (fun m => if m.sup.st = .interrupted ∧ !m.sup.powerFail ∧ !m.sup.svc24 then m.powerDown 2 else m)

/-- SERVICE_SUPPLY_LOSS (R577). A supply lost after Normal was entered was present through the interruption, so R63 still
decides when torque returns (R576). (Assumption 29 DEDUCED) -/
def execServiceSupplyLoss (vbus : Nat) (s : State) : Out :=
  s.pow (fun m =>
    let was := m.sup.svc24
    let m := m.onSup (fun x => { x with
      svc24 := false, svcThrough := x.svcThrough && decide (x.st ≠ .interrupted),
      serviceOnly := x.serviceOnly && decide (x.st ≠ .interrupted) })
    if was && decide (m.sup.st = .interrupted) && !m.sup.powerFail && decide (vbus < 430) then m.powerDown 3 else m)

/-- SERVICE_SUPPLY_BUS_RETURN (R63, R576): 43 V for 100 ms; torque returns at rest, also after an interruption that ended
within 10 ms. -/
def execServiceSupplyBusReturn (vbus : Nat) (s : State) : Out :=
  s.pow (fun m =>
    if (m.sup.serviceOnly ∨ (m.sup.st = .normal ∧ m.sup.svcThrough)) ∧ 430 ≤ vbus then
      (m.onSup (fun x => { x with serviceOnly := false, svcThrough := false, dcLinkDown := false, vbus := vbus })).gatesOn
    else m)

/-- HOLDUP_EXHAUSTED (R59, R62): no die has power, every load switch is off. -/
def execHoldupExhausted (s : State) : Out :=
  s.pow (fun m =>
    if m.sup.powerFail then
      (m.onSup (fun x => { x with powered := false })).onIo (fun x => { x with
        ls := x.ls.map (fun c => { c with out := false, dieCmd := 0, fs := none, timed := none }) })
    else m)

/-! ### Over-voltage (R64) -/

/-- REGEN_CLAMP: above 160 V, and released below 155 V. (Assumption 27 DEDUCED) -/
def execRegenClamp (vbus : Nat) (s : State) : Out :=
  s.live (fun m =>
    let m := m.onSup (fun x => { x with vbus := vbus })
    if 1600 < vbus ∧ !m.sup.regenClamp then
      (m.onSup (fun x => { x with regenClamp := true })).raise 0xC007 0 [1]
    else if vbus < 1550 ∧ m.sup.regenClamp then
      (m.onSup (fun x => { x with regenClamp := false })).raise 0xC007 0 [0]
    else m)

/-- BUS_OVERVOLTAGE: above 170 V for 100 us; gate disable, not STO. -/
def execBusOvervoltage (vbus : Nat) (s : State) : Out :=
  s.live (fun m =>
    if 1700 < vbus ∧ !m.sup.overvoltage then
      (m.onSup (fun x => { x with overvoltage := true, vbus := vbus })).gatesOff.raise 0xC008 0 []
    else m)

/-- OVERVOLTAGE_RECOVERY: below 155 V for 10 ms. -/
def execOvervoltageRecovery (vbus : Nat) (s : State) : Out :=
  s.live (fun m =>
    if m.sup.overvoltage ∧ vbus < 1550 then
      (m.onSup (fun x => { x with overvoltage := false, vbus := vbus })).gatesOn
    else m)

/-! ### Temperature and encoder supply (R53, R70, R78) -/

/-- The band of a temperature in 0.1 degC from the band before it: up at each edge, down 3 degC below it.
 (Assumption 28 DEDUCED) -/
def bandOf (t : Int) (was : Nat) : Nat :=
  let up := if 1300 ≤ t then 3 else if 1250 < t then 2 else if 850 < t then 1 else 0
  let keep := if 1270 ≤ t then 3 else if 1220 ≤ t then 2 else if 820 ≤ t then 1 else 0
  max up (min was keep)

/-- BASEPLATE_TEMP_SAMPLE: each band entered raises its event; 130 degC demands SAFE-HOLD. (Assumption 28 DEDUCED) -/
def execBaseplateTempSample (t : Int) (s : State) : Out :=
  s.live (fun m =>
    let was := m.sup.band
    let now := bandOf t was
    let m := m.onSup (fun x => { x with tbp := t, kT := kOf t, band := now })
    let m := m.onSup (fun x => { x with reserve := min x.reserve m.eMax })
    let m := (upto 3).foldl (fun m k =>
      if was ≤ k ∧ k < now then m.raise (0xC009 + k) 0 [] else m) m
    let m := if now = 3 ∧ was < 3 then m.trig (.safeHold 3) else m
    m.axes.foldl (fun m i => m.ampUpdate i) m)

/-- ENCODER_SUPPLY_FAULT (R78): connector 0 is J6 and 1 is J7. (Assumption 150 DESIGN CHOICE) -/
def execEncoderSupplyFault (conn : Nat) (s : State) : Out :=
  s.live (fun m =>
    (m.onSup (fun x => { x with encLimited := (x.encLimited.1 || decide (conn = 0), x.encLimited.2 || decide (conn = 1)) })).raise
      0xC00D 0 [conn])

/-- SAFETY_RAIL_LOSS (R339). (Assumption 91 DEDUCED) -/
def execSafetyRailLoss (s : State) : Out := s.live (fun m => m.loseBore 5)

/-! ### Power-on (R59, R61, R86, R98) -/

/-- Everything but what MRAM, NOR and the factory hold returns to its reset value (R39, R40, R99).
 (Assumptions 4 DESIGN CHOICE, 30 DEDUCED, 61 DEDUCED, 133 DEDUCED) -/
def Mod.coldReset (m : Mod) (svc24 srstLow : Bool) : Mod :=
  let resume := m.mode.resume
  let ax : List Axis := m.ax.map (fun a => { Axis.reset with
    tabs := a.tabs, fault := a.fault, faults := a.faults, gateOff := a.gateOff })
  let po : List Portal := m.po.map (fun q => { Portal.reset with table := q.held.getD q.table })
  let inc : Inc := { m.recd.inc with pre := [], stage := [], copying := false, lastMissEv := none }
  let recd : RecSt := { m.recd with
    blk := [], dropped := 0, staged := [], boreQ := [], memFault := false, life := m.recd.lifeKept, lifeAt := 0, toTwin := [],
    tickFrame := List.replicate 72 0, lastFrameMs := 0, inc := inc }
  let obs : List Obst := m.ob.saved.map (fun f => { Obst.reset with prof := f })
  { Mod.reset with
    id := m.id
    sup := { Sup.reset with vbus := m.sup.vbus, tbp := m.sup.tbp, kT := m.sup.kT, band := m.sup.band, svc24 := svc24 }
    mode := { ModeSt.reset with resume := resume, prev := m.md, dormantFrom := m.mode.dormantFrom }
    srst := ⟨none, srstLow, false, srstLow⟩
    nv := { m.nv with computed := none }
    host := { HostSt.reset with
      msgs := m.host.msgs, cpls := m.host.cpls, evrecs := m.host.evrecs }
    ax := ax
    po := po
    ob := { ObSt.reset with ax := obs, saved := m.ob.saved, savedSeq := m.ob.savedSeq }
    saf := { Safety.reset with
      deg := m.saf.degMram * SEC, degMram := m.saf.degMram, boreCrcStored := m.saf.boreCrcStored }
    recd := recd
    can := m.can.map (fun c => { CanPort.reset with tab := c.tab })
    fab := { FabSt.reset with pubTab := m.fab.pubTab, epoch := m.fab.epoch, sent := m.fab.sent }
    sec := { SecSt.reset with
      debugCount := m.sec.debugCount, reportCount := m.sec.reportCount, nonceCtr := m.sec.nonceCtr,
      resp := m.sec.resp }
    fw := { m.fw with
      stage := if m.fw.stage = 4 then 3 else m.fw.stage, offset := m.fw.offsetMram, windowEnd := none,
      lastStatus := 0, lastCmd := 0, acceptedAt := 0, pauseDue := false, twinAct := 0 }
    freeCtr := m.freeCtr }

/-- A cold start begins; the mode changes to STARTING (R79, R82) and the reference of every axis ends (R231, cause 3).
 (Assumption 30 DEDUCED) -/
def Mod.coldStart (m : Mod) (svc24 srstLow : Bool) : Mod :=
  let n := m.coldReset svc24 srstLow
  let n := if m.md = .starting then n else n.raise 0x4E01 0 [m.md.num, Mode.starting.num, 0]
  (m.axes.filter (fun i => (m.axis i).referenced)).foldl (fun n i => n.raise 0x1032 i [3]) n

/-- LOGIC_POWER_ON: a cold start begins; a module that has power takes none. (Assumption 30 DEDUCED) -/
def execLogicPowerOn (svc24 srstLow : Bool) (s : State) : Out :=
  s.onMod (fun m => if m.sup.powered then m else m.coldStart svc24 srstLow)

/-- POWER_FAIL_RESTART (R61): 43 V for 100 ms after POWER_FAIL, the hold-up store not exhausted.
 (Assumptions 30 DEDUCED, 152 DESIGN CHOICE) -/
def execPowerFailRestart (s : State) : Out :=
  s.pow (fun m =>
    if m.sup.powerFail then { m with freeCtr := m.freeCtr + 1 }.coldStart m.sup.svc24 (Config.srstLow m.freeCtr) else m)

end Sys2Proof.Machine
end

