-- ==== Sys2Proof/Machine/Check.lean ====
section
/-! DEFINITION. The canonical parameter set and its check value (R347), and the pair check value (R488). -/
namespace Sys2Proof.Machine

/-- Insert a definition by ascending ID. -/
def insertDef (d : PDef) : List PDef → List PDef
  | [] => [d]
  | x :: r => if d.id ≤ x.id then d :: x :: r else x :: insertDef d r

/-- Every parameter in ascending ID. -/
def sortedDefs : List PDef := P.all.foldr insertDef []

/-- 12 bytes of one parameter instance. -/
def parBytes (d : PDef) (i : Nat) (x : Int) : List Byte := le2 d.id ++ le2 i ++ le8 x

/-- A table with its head of 8 bytes. -/
def tabEnc (tid i : Nat) (b : List Byte) : List Byte := le2 tid ++ le2 i ++ le4 b.length ++ b

/-- The byte string of the canonical set; `twin` leaves the twin domain out (R488). -/
def Mod.canonBytes (m : Mod) (st : PStore) (twin : Bool) : List Byte :=
  let head : List Byte := [0x4F, 0x56, 0x4C, 0x4F, 0x53, 0x2D, 0x44, 0x53, 0x31, 0x36, 0x2D, 0x43, 0x56]
  let var : List Byte := [if m.id.part = .A then 0x0A else 0x0B, 0x01]
  let keep (d : PDef) : Bool := d.rwl && !(twin && decide (d.id / 256 = 0x90))
  let pars := (sortedDefs.filter keep).flatMap (fun d =>
    (upto (d.inst.count m.id.part)).flatMap (fun i => parBytes d i (st.get d i)))
  let fing := (upto 7).flatMap (fun n => m.axes.flatMap (fun i =>
    tabEnc (0x1081 + n) i (m.tabBytes (.fingering (n + 1)) i)))
  let seq := (m.portals.filter (fun p => decide (st.get P.portalEnable p = 1))).flatMap (fun p =>
    tabEnc 0x2080 p (m.tabBytes .sequence p))
  head ++ var ++ pars ++ fing ++ seq

/-- The first 8 bytes of SHAKE256, big-endian. -/
def checkOf (b : List Byte) : BitVec 64 := BitVec.ofNat 64 (ofLe (Config.shake256 b 8).reverse)

def Mod.checkValue (m : Mod) (st : PStore) : BitVec 64 := checkOf (m.canonBytes st false)

def Mod.pairCheck (m : Mod) (st : PStore) : BitVec 64 := checkOf (m.canonBytes st true)

end Sys2Proof.Machine
end

