-- ==== Sys2Proof/Machine/Image.lean ====
section
/-! DEFINITION. Firmware images, slots and the boot pointer record (R553 to R557), and what the holder of an update session
passes on to its twin (R569). -/
namespace Sys2Proof.Machine

/-- SHAKE256 with 64 bytes of output, as a number. (Assumption 15 DESIGN CHOICE) -/
def shake64 (b : List Byte) : BitVec 512 := BitVec.ofNat 512 (ofLe (Config.shake256 b 64))

def dig (d : BitVec 512) : List Byte := leBytes 64 d.toNat

/-- The 1,024 bytes of an image header (R553). -/
def hdrFile (h : ImgHdr) : List Byte :=
  fitBytes 1024 (leBytes 4 h.magic ++ le1 h.fmtMinor ++ le1 h.fmtMajor ++ le2 h.part ++ le1 h.variantMask ++ le1 h.hwMin
    ++ le1 h.hwMax ++ le1 h.keyId ++ leBytes 4 h.fwVersion ++ leBytes 4 h.antiRollback ++ leBytes 4 h.bodyLength
    ++ le1 h.revokeMask ++ le1 h.ligMajor ++ le1 h.ligPrev ++ fitBytes 5 h.pad ++ dig h.bodyDigest ++ h.tail)

/-- ASCII OVLI as a little-endian number. -/
def hdrMagic : Nat := 0x494C564F

/-- The image digest of a header (R555). (Assumption 15 DESIGN CHOICE) -/
def hdrDigest (h : ImgHdr) : BitVec 512 := shake64 (hdrFile h)

def Boot.slot (b : Boot) (k : Nat) : Slot := b.slots.getD k ⟨0, none, []⟩
def Boot.onSlot (b : Boot) (k : Nat) (f : Slot → Slot) : Boot := { b with slots := upd b.slots k f }

/-- The digest of a slot's image, 0 for an empty one. -/
def Boot.digest (b : Boot) (k : Nat) : BitVec 512 :=
  match (b.slot k).hdr with
  | some h => if (b.slot k).st = 0 then 0 else hdrDigest h
  | none => 0

/-- The 160 bytes of the record in force (R556). -/
def Boot.record (b : Boot) : List Byte :=
  let w := fitBytes 156 (leBytes 8 b.seq ++ le1 b.current ++ le1 (b2n b.trial) ++ le1 (b.previous.getD 0xFF) ++ le1 b.trialFails
    ++ leBytes 4 b.antiRollback ++ dig b.curDigest ++ dig b.prevDigest ++ le1 b.revoked.toNat)
  w ++ leBytes 4 (crc32 w).toNat

/-- A new record is written to the other copy, under the next sequence number; the one in force so far is the older copy
then (R556). -/
def Boot.write (b : Boot) (f : Boot → Boot) : Boot := { f b with seq := b.seq + 1, older := b.record }

/-- The holder passes the header and its stamp on to its twin, whose own check is its answer: a twin that refuses leaves the
session to the holder alone, and the command completes with TWIN_NOT_UPDATED (R569). (Assumption 130 DEDUCED) -/
def Mod.passHeader (m : Mod) (h : ImgHdr) (stamp : Nat) : Mod × Nat :=
  let takes := Config.twinTakes m.freeCtr
  let m := { m.sendTwin 11 0 ((stamp : Int) :: (hdrFile h).map (fun (b : Byte) => (b.toNat : Int))) with freeCtr := m.freeCtr + 1 }
  (m.onFw (fun x => { x with pairSession := takes }), if takes then 0 else 0x0060)

/-- A session of the own port meets a pair that forms (R568): the header goes to the twin, and the earlier stamp decides; a
file that has begun stays with this module. -/
def Mod.passSession (m : Mod) (b : Boot) : Mod :=
  match m.fw.source, (m.fw.target.map b.slot).bind (fun x => x.hdr) with
  | 1, some h => if m.fw.offset ≤ 1024 then (m.passHeader h m.fw.acceptedAt).1
    else (m.passHeader h m.fw.acceptedAt).1.onFw (fun x => { x with pairSession := false })
  | _, _ => m

end Sys2Proof.Machine
end

