-- ==== Sys2Proof/Machine/Twin.lean ====
section
/-! DEFINITION. Twin operation: the commands of 14_twin_operation.md but TWIN_PEER_WAIT_EXPIRY, which
Starts.lean holds, and the switch-over itself, which Boundary.lean calls. Kinds on the ligature: 1 heartbeat,
2 RELINQUISH, 3 isolators open, 4 return request, 5 health report, 6 decision acknowledged, 7 profile,
8 mirror frame, 9 load-switch command, 10 currents, 11 update. -/
namespace Sys2Proof.Machine

def Mod.primary (m : Mod) : Bool := decide (m.p P.twinRole 0 = 1)
def Mod.serialLo (m : Mod) : Nat := m.id.serial % 2 ^ 32

/-! ### Pairing and heartbeats (R487 to R491) -/

/-- The first failing condition of R487, 0 for none. (Assumption 114 DEDUCED) -/
def Mod.pairFault (m : Mod) (pair : BitVec 64) (x : PeerHello) : Nat :=
  if x.serialLo ≠ m.pn P.twinPeerSerial 0 ∨ x.peerSerial ≠ m.serialLo then 1
  else if ¬ ((m.p P.twinRole 0 = 1 ∧ x.role = 2) ∨ (m.p P.twinRole 0 = 2 ∧ x.role = 1)) then 2
  else if (negotiate (ownVer 3) ⟨x.major, x.minor, x.prevMinor⟩).isNone then 3
  else if x.pairCheck ≠ pair then 4
  else 0

/-- Every learned profile goes to the SHADOW (R497). -/
def Mod.sendProfiles (m : Mod) : Mod :=
  m.axes.foldl (fun m i => if m.isLeaf i then m.sendTwin 7 i (profBody (m.obst i).prof (m.obst i).prof.bins) else m) m

/-- The own side of the version exchange: serial word, role, the peer's serial word asked for, the confirmed check value
(whether there is one, and it), the pair check value, the versions of the ligature protocol and the mode (R487). -/
def Mod.helloBody (m : Mod) (st : PStore) : List Int :=
  let v := ownVer 3
  let w : List Nat := [m.serialLo, m.pn P.twinRole 0, m.pn P.twinPeerSerial 0, b2n m.nv.confirmed.isSome,
    (m.nv.confirmed.getD 0).toNat, (m.pairCheck st).toNat, v.major, v.minor, v.prev.getD 0xFFFF, m.md.num]
  w.map (fun (n : Nat) => (n : Int))

/-- LIGATURE_LINK_UP (R487): the version exchange, and the pair when a twin is configured. -/
def execLigatureLinkUp (peer : PeerHello) (s : State) : Out :=
  s.live (fun m =>
    let v := negotiate (ownVer 3) ⟨peer.major, peer.minor, peer.prevMinor⟩
    let m := ((m.send 4 0 0 (m.helloBody s.par)).setNeg 3 v).onTw (fun t => { t with
      linkUp := true, lanes := [(true, m.raw), (true, m.raw)], heart := true, lastHeart := m.raw,
      peerSerial := peer.serialLo, peerHello := some peer, peerMode := peer.mode })
    let m := if v.isNone then m.raise 0x900F 0 [peer.major, peer.minor] else m
    if m.twinConf then
      let f := m.pairFault (m.pairCheck s.par) peer
      let m := m.onTw (fun t => { t with pairFormed := decide (f = 0), pairFail := f, ctxSent := [] })
      if f = 0 then
        let m := m.raise 0x9001 0 [peer.serialLo, m.p P.twinRole 0]
        (if m.twinActive then m.sendProfiles else m).passSession s.boot
      else m.raise 0x9002 0 [f]
    else m)

/-- The link carries heartbeats: it is up and the two sides share a major (R487, R490). -/
def Mod.beats (m : Mod) : Bool := m.tw.linkUp && (m.host.neg.getD 3 none).isSome

/-- LIGATURE_HEARTBEAT_SEND (R490): every 10 us on each lane. -/
def execLigatureHeartbeatSend (s : State) : Out :=
  s.live (fun m =>
    if m.twinConf && m.beats then
      let m := m.advance (nextMul m.raw (10 * US))
      (upto 2).foldl (fun m lane => m.send 4 1 lane [m.md.num, m.raw, m.tw.mirSeqTx]) m
    else m)

/-- LIGATURE_HEARTBEAT_RX (R490, R491): the lane is up, the mapping of the counters follows; an orphan stops
being one, its channels off until the first mirror frame commands them (R496, R507). (Assumption 112 DEDUCED) -/
def execLigatureHeartbeatRx (lane mode peerRaw _mirSeq : Nat) (s : State) : Out :=
  s.live (fun m =>
    if lane < 2 ∧ m.tw.linkUp then
      let was := (m.tw.lanes.getD lane (false, 0)).1
      let orphan := m.tw.orphan
      let m := m.onTw (fun t => { t with
        lanes := upd t.lanes lane (fun _ => (true, m.raw)), heart := true, lastHeart := m.raw, peerMode := mode,
        mapOff := (m.raw : Int) - peerRaw, orphan := false, noTorque := false })
      let m := if was then m else m.raise 0x9003 lane [lane, 1]
      if orphan then ((m.onIo (fun x => { x with ls := x.ls.map (fun c => { c with cmd := 0, dieCmd := 0 }) })).raise 0x9009 0 [0]).lsDriveAll
      else m
    else m)

/-- LIGATURE_LANE_LOSS (R490): 100 us without a heartbeat on the lane. -/
def execLigatureLaneLoss (lane : Nat) (s : State) : Out :=
  s.live (fun m =>
    let x := m.tw.lanes.getD lane (false, 0)
    if x.1 then
      let m := m.advance (x.2 + 100 * US)
      (m.onTw (fun t => { t with
        lanes := upd t.lanes lane (fun x => (false, x.2)), laneLosses := sat16 (t.laneLosses + 1) })).raise
          0x9003 lane [lane, 0]
    else m)

/-! ### Takeover (R502, R507) -/

/-- The mode mirrored last. -/
def Mod.mirMode (m : Mod) : Nat := (m.tw.mir.map (fun f => f.mode)).getD 0

/-- Axes that the mirror shows with torque on. -/
def Mod.mirTorque (m : Mod) : List Nat :=
  match m.tw.mir with
  | some f => (upto 16).filter (fun i => ((f.axes[i]?).map (fun a => a.torque)).getD false)
  | none => []

/-- The peer's MODULE.TWIN point reads 1 and is not stale. (Assumption 47 DEDUCED) -/
def Mod.peerAlive (m : Mod) : Bool :=
  match m.peerAddr with
  | some a => (m.point a 0x013).1 == 1 && !(m.point a 0x013).2
  | none => false

/-- The first condition of R502 that fails, 0 for none. -/
def Mod.takeoverFault (m : Mod) : Nat :=
  if !m.tw.pairFormed then 1
  else if ¬ (7 ≤ m.mirMode ∧ m.mirMode ≤ 9) then 2
  else if m.saf.reedLost.isSome && m.saf.boreLost.isSome then 3
  else if m.tw.mir.isNone ∨ m.tw.mirAt + 300 * US < m.tw.lastHeart then 4
  else 0

def Mod.refuseTakeover (m : Mod) (reason : Nat) : Mod := m.raise 0x900E 0 [reason]

/-- Schedule a takeover for the next period boundary. -/
def Mod.schedTakeover (m : Mod) (cause from_ : Nat) : Mod :=
  (m.onTw (fun t => { t with takeover := some cause, gapFrom := from_, checkAt := none, noTorque := false })).trig .switchOver

/-- A SHADOW begins the check of R502 after a heartbeat loss. -/
def Mod.startCheck (m : Mod) : Mod :=
  match m.takeoverFault with
  | 0 => if m.mirTorque.isEmpty then m.onTw (fun t => { t with noTorque := true })
    else m.onTw (fun t => { t with checkAt := some (m.raw + 20 * US) })
  | r => m.refuseTakeover r

/-- TWIN_HEARTBEAT_LOST (R490, R502): 300 us without a heartbeat on either lane. -/
def execTwinHeartbeatLost (s : State) : Out :=
  s.live (fun m =>
    if m.tw.heart then
      let m := m.advance (m.tw.lastHeart + 300 * US)
      let age : Nat := (m.raw - m.tw.mirAt) / US
      let m := m.onTw (fun t => { t with
        heart := false, lanes := t.lanes.map (fun x => (false, x.2)), peerMode := 0 })
      let m := (m.raise 0x9004 0 [age]).faultBit 8
      if m.md = .shadow then m.startCheck else m
    else m)

/-- The SHADOW finds its peer alive (R507): its load switches go off and its loop switches open. -/
def Mod.becomeOrphan (m : Mod) : Mod :=
  if m.tw.orphan then m.onTw (fun t => { t with checkAt := none })
  else
    let m := (m.onTw (fun t => { t with orphan := true, checkAt := none, takeover := none })).raise 0x9009 0 [1]
    let m := (m.openLoopOf .L 3).openLoopOf .R 3
    m.lsDriveAll

/-- Close the isolators of an axis, unless a phase wire measured above 10 V blocks it (R179, R511). -/
def Mod.closeOne (m : Mod) (i : Nat) : Mod :=
  let a := m.axis i
  if a.iso = .closed ∨ a.iso = .closing then m
  else match a.hotWire with
    | some (w, v) => (m.raise 0x100E i [w, v]).latch i 3
    | none => m.onAx i (fun a => { a with iso := .closing })

/-- The new ACTIVE commands its isolators closed on the axes that are to drive (R503, R504). -/
def Mod.closeTaken (m : Mod) : Mod :=
  let m := m.tw.resume.foldl Mod.closeOne m
  m.onTw (fun t => { t with closeBy := none })

/-- TAKEOVER_CHECK_DONE (R200, R502, R503, R507): `switching` are the axes whose phase wires show the chopper of the peer,
each with a wire and its voltage in V; above 10 V the peer drives. -/
def execTakeoverCheckDone (switching : List (Nat × Nat × Nat)) (s : State) : Out :=
  s.live (fun m =>
    match m.tw.checkAt with
    | none => m
    | some t =>
      let m := (m.advance t).onAxes (fun i a => { a with
        wires := ((switching.find? (fun x => x.1 == i)).map (fun x => List.replicate x.2.1 0 ++ [x.2.2])).getD [] })
      let hit := switching.filter (fun x => m.mirTorque.contains x.1 && decide (10 < x.2.2))
      if m.md = .shadow then
        (if hit.isEmpty then
          m.schedTakeover (if m.tw.orphan then 3 else 1) m.tw.lastHeart
        else (hit.foldl (fun m (x : Nat × Nat × Nat) => m.raise 0x100E x.1 [x.2.1, x.2.2]) m).becomeOrphan)
      else if hit.isEmpty then (m.onTw (fun t => { t with checkAt := none })).closeTaken
      else m.onTw (fun t => { t with checkAt := none }))

/-- TWIN_ORPHAN_TIMEOUT (R502, R507): an orphan whose peer fell silent, or a SHADOW without torque in the
mirror at the end of the time. -/
def execTwinOrphanTimeout (s : State) : Out :=
  s.live (fun m =>
    if m.md ≠ .shadow then m
    else if m.tw.noTorque then
      let m := m.advance (m.tw.lastHeart + m.pn P.twinOrphanTimeout 0 * MS)
      if m.peerAlive then (m.onTw (fun t => { t with noTorque := false })).refuseTakeover 5
      else m.schedTakeover 1 m.tw.lastHeart
    else if m.tw.orphan && !m.peerAlive then
      (if m.mirTorque.isEmpty then m.schedTakeover 3 m.tw.lastHeart
       else m.onTw (fun t => { t with checkAt := some (m.raw + 20 * US) }))
    else m)

/-! ### Mirror (R493, R495 to R500) -/

/-- One mirrored axis. The reference is taken when it is new: Z_REF then makes the own P_ENC equal the
mirrored one. (Assumption 111 DEDUCED) -/
def Mod.takeMirAxis (m : Mod) (i : Nat) (x : MirAxis) : Mod :=
  let a := m.axis i
  let fresh := m.tw.mir.isNone || decide (a.homeRef ≠ x.homeRef) || decide (a.posOrigin ≠ x.posOrigin)
  let m := if fresh then m.onAx i (fun a => { a with homeRef := x.homeRef }) else m
  let z := if fresh then m.zRefFor i a.count x.penc else a.zRef
  let m := m.onOb i (fun o => { o with acc := x.acc })
  m.onAx i (fun a => { a with
    pcmd := x.pcmd, pcmdPrev := x.pcmd, pos := x.pcmd * 65536, vel := x.vel, addr := x.addr, lead := x.lead,
    amp := x.amp, A := { a.A with rms2 := x.rmsA }, B := { a.B with rms2 := x.rmsB }, fault := x.fault,
    posOrigin := if fresh then x.posOrigin else a.posOrigin, zRef := z,
    referenced := if fresh then !a.shadowDisc else a.referenced && !a.shadowDisc,
    restAt := if x.plan.isSome then none else some (a.restAt.getD m.raw) })

/-- An instant of the peer's counter on the own one (R491). -/
def Mod.mapped (m : Mod) (t : Nat) : Nat := ((t : Int) + m.tw.mapOff).toNat

/-- (Assumption 111 DEDUCED) -/
def Mod.takeMirPortal (m : Mod) (p : Nat) (x : MirPortal) : Mod :=
  m.onPo p (fun q => { q with
    state := x.state, stepState := x.stepState, openReq := x.openReq, openPress := x.openPress,
    closePress := x.closePress, reversals := x.reversals, obstacle := x.obstacle, obstReact := x.obstReact,
    probe := x.probe, armed := x.armed, user := x.user, prev := some x.prev,
    timers := x.timers.map (fun t => match t with
      | none => .idle
      | some 0 => .expired
      | some n => .running (m.mapped n)) })

def Mod.takeMirCtx (m : Mod) (x : MirCtx) : Mod :=
  m.onCtx x.no (fun y => { y with
    st := x.st, reusable := x.reusable, acts := x.acts, tags := x.tags, fab := x.fab, c := x.c, v := x.v, q := x.q, coord := x.coord,
    key := x.key, addr := x.addr, parts := x.parts, votes := x.votes, decision := x.decision, final := x.final,
    order := x.order, table := x.table })

/-- An indexed list of mirrored items, one fold step each. -/
def Mod.eachMir {α : Type} (m : Mod) (l : List α) (f : Mod → Nat → α → Mod) : Mod :=
  (l.zip (upto l.length)).foldl (fun m (x : α × Nat) => f m x.2 x.1) m

/-- A group that the mirror shows in STO is cut here too; another loses that demand (R492).
 (Assumption 111 DEDUCED) -/
def Mod.takeMirSto (m : Mod) (g : Nat) (on : Bool) : Mod :=
  if on then m.demand g 6
  else { m with saf := { m.saf with sto := upd m.saf.sto g (fun s =>
    let r := s.reed.filter (fun c => c != 6)
    let b := s.bore.filter (fun c => c != 6)
    { s with reed := r, bore := b, applied := s.applied && !(r.isEmpty && b.isEmpty) }) } }

/-- MIRROR_FRAME_RX (R493, R495, R499, R500): a frame that fails its CRC is discarded. (Assumption 111 DEDUCED) -/
def execMirrorFrameRx (f : MirFrame) (s : State) : Out :=
  s.live (fun m =>
    if f.crcOk && m.tw.pairFormed && decide (m.md = .shadow) then
      let m := m.eachMir f.axes Mod.takeMirAxis
      let m := m.eachMir f.portals Mod.takeMirPortal
      let m := m.eachMir f.stos Mod.takeMirSto
      let m := m.eachMir f.trips (fun m g on => if on then (upto 4).foldl (fun m k => m.onAx (4 * g + k) (fun a => a.withFault 5)) m else m)
      let m := m.onSide .L (fun x => { x with grant := f.grants.1 })
      let m := m.onSide .R (fun x => { x with grant := f.grants.2 })
      let m := m.onLoop .L (fun l => { l with latched := f.loopsLatched.1 })
      let m := m.onLoop .R (fun l => { l with latched := f.loopsLatched.2 })
      let m := if m.tw.orphan then m else m.eachMir f.ls (fun m n st => m.onLs n (fun c => { c with cmd := st }))
      let m := m.eachMir f.timed (fun m n t => match t with
        | some (st, at_) => m.onLs n (fun c => { c with timed := some (st, m.mapped at_) })
        | none => m)
      let m := f.ctxs.foldl Mod.takeMirCtx m
      let m := if m.primary then m else m.eachMir f.tests (fun m i bad =>
        if m.p P.diTestSource i = 0 then m else m.onDi i (fun d => { d with testFailed := bad }))
      (m.onTw (fun t => { t with mir := some f, mirAt := m.mapped f.tick, late := false })).loopEval
    else m)

/-- TWIN_MIRROR_LATE (R495): 300 us without a valid frame while heartbeats arrive. -/
def execTwinMirrorLate (s : State) : Out :=
  s.live (fun m =>
    if m.md = .shadow ∧ m.tw.heart ∧ !m.tw.late ∧ m.tw.mir.isSome then
      let m := m.advance (m.tw.mirAt + 300 * US)
      let age : Nat := (m.raw - m.tw.mirAt) / US
      (m.onTw (fun t => { t with late := true, lateCount := sat32 (t.lateCount + 1) })).raise 0x900D 0 [age]
    else m)

/-- TWIN_LS_COMMAND_RX (R496): a timed command for the own die. -/
def execTwinLsCommandRx (n st inst : Nat) (s : State) : Out :=
  s.live (fun m =>
    if m.md = .shadow ∧ !m.tw.orphan then m.onLs n (fun c => { c with timed := some (st, m.mapped inst) }) else m)

/-- TWIN_CURRENT_EXCHANGE (R388). -/
def execTwinCurrentExchange (currents : List Nat) (s : State) : Out :=
  s.live (fun m =>
    let m := m.sendTwin 10 0 (m.io.ls.map (fun c => (c.ma : Int)))
    m.eachMir currents (fun m n ma => m.onLs n (fun c => { c with twinMa := ma })))

/-- TWIN_PROFILE_RX (R491, R497): class 8 work of the SHADOW of a formed pair, the axis as a whole; the reference is
compliance, onset and cycles. -/
def execTwinProfileRx (ax : Nat) (bins : List (Nat × List Int)) (ref : List Nat) (s : State) : Out :=
  s.work 8 (withAxis ax (fun m =>
    let n : Nat := bins.length
    if m.md ≠ .shadow ∨ m.tw.pairFormed = false then m
    else
    let m := m.onOb ax (fun o => { o with
      changed := true,
      prof := { o.prof with
        valid := true, bins := bins.foldl (fun l (x : Nat × List Int) => putBin l x.1 x.2) o.prof.bins,
        compliance := ref.getD 0 o.prof.compliance,
        onset := (ref[1]?.map (ofBits 32)).getD o.prof.onset, cycles := ref.getD 2 o.prof.cycles } })
    m.raise 0x900C ax [ax, n]))

/-- TWIN_DECISION_WRITE_RX (R473): kept and acknowledged. -/
def execTwinDecisionWriteRx (key : TxnKey) (commit : Bool) (s : State) : Out :=
  s.live (fun m =>
    (m.onTw (fun t => { t with decisions := t.decisions.filter (fun x => decide (x.1 ≠ key)) ++ [(key, commit)] })).sendTwin
      6 0 (keyBody key ++ [(b2n commit : Int)]))

/-! ### Relinquish and return (R503, R509) -/

/-- The ACTIVE can relinquish: the pair formed, a lane up, the SHADOW's last health report passes.
 (Assumption 113 DEDUCED) -/
def Mod.canRelinquish (m : Mod) : Bool :=
  m.tw.pairFormed && m.tw.heart && bit m.tw.peerHealth 31 && decide (m.tw.peerMode = 6) && m.md.active
    && m.tw.handover.isNone

/-- Send RELINQUISH for the first period boundary at least 300 us ahead: 1 loss, 2 stale link, 3 update,
4 return. Nothing happens where the conditions do not hold. (Assumption 113 DEDUCED) -/
def Mod.relinquish (m : Mod) (cause : Nat) : Mod × Bool :=
  if m.canRelinquish then
    let t : Nat := (m.raw + 300 * US + 49999) / 50000 * 50000
    let m := (m.onTw (fun x => { x with handover := some (t, cause, true) })).raise 0x9006 0 [cause, t]
    (m.sendTwin 2 0 [t, cause], true)
  else (m, false)

/-- RELINQUISH_RX: the SHADOW takes the mirrored mode at its first boundary at or after H. (Assumption 113 DEDUCED) -/
def execRelinquishRx (handover cause : Nat) (s : State) : Out :=
  s.live (fun m =>
    if m.md = .shadow ∧ m.tw.pairFormed then
      let t := m.mapped handover
      (m.onTw (fun x => { x with handover := some (t, cause, false), takeover := some 2, gapFrom := t })).trig .switchOver
    else m)

/-- The open cycles are the other module's now: the one that ends a cycle records it (R521). -/
def Mod.dropCycles (m : Mod) : Mod := { m with po := m.po.map (fun q => { q with cyc := none }) }

/-- An axis of the former ACTIVE: set-points 0, isolators open; its move goes on in the twin. -/
def Mod.yieldAxis (m : Mod) (i : Nat) : Mod :=
  (m.onAx i (fun a => { a with torque := false, mv := none, arr := [], fstop := none, vel := 0, restAt := some m.raw })).openIso i

/-- HANDOVER_INSTANT (R503): at H the former ACTIVE stops driving and reports its isolators open; then a warm
start for a loss or a stale link, SHADOW for an update or a return. (Assumption 113 DEDUCED) -/
def execHandoverInstant (s : State) : Out :=
  s.live (fun m =>
    match m.tw.handover with
    | some (t, cause, true) =>
      let m := m.advance t
      let m := (m.axes.foldl (fun m i => m.yieldAxis i) m).dropCycles
      let m := (m.onTw (fun x => { x with handover := none, mir := none, tookAt := none })).sendTwin 3 0 [t]
      if cause ≤ 2 then m.dieReset .relinquish
      else
        let m := m.setMode .shadow 11
        if cause = 4 then m.raise 0x9007 0 [t] else m.onFw (fun f => { f with pauseDue := true })
    | _ => m)

/-- ISOLATORS_OPEN_REPORT_RX (R503): the new ACTIVE closes its isolators, at once or when it takes over.
 (Assumption 113 DEDUCED) -/
def execIsolatorsOpenReportRx (s : State) : Out :=
  s.live (fun m =>
    if m.md = .shadow then m.onTw (fun t => { t with closeBy := some 0 })
    else match m.tw.closeBy with
      | some _ => m.closeTaken
      | none => m)

/-- No portal moves its leaves and every role axis rests. -/
def Mod.quiet (m : Mod) : Bool :=
  m.portals.all (fun p => m.portalRest p && !([3, 5, 6].contains (m.portal p).state))

/-- The mirror shows the same of the ACTIVE. -/
def Mod.mirQuiet (m : Mod) : Bool :=
  match m.tw.mir with
  | some f => m.axes.all (fun i => (m.roleOf i).isNone || ((f.axes[i]?).map (fun a => a.plan.isNone)).getD true) && f.portals.all (fun p => !([3, 5, 6].contains p.state))
      && f.timed.all (fun t => t.isNone)
  | none => false

def Mod.bothLanes (m : Mod) : Bool := m.tw.lanes.all (fun x => x.1)

/-- TWIN_RETURN (R509): on the PRIMARY in SHADOW the return is asked for once its health count has run; on the
SECONDARY that drives, the handover begins. (Assumption 112 DEDUCED) -/
def execTwinReturn (s : State) : Out :=
  s.live (fun m =>
    let delay := m.pn P.twinReturnDelay 0
    if m.primary then
      match m.tw.healthySince with
      | some t =>
        if m.md = .shadow ∧ delay ≠ 0 ∧ !m.tw.returnInhibit ∧ m.bothLanes ∧ 7 ≤ m.mirMode ∧ m.mirMode ≤ 9
            ∧ m.mirQuiet ∧ !m.txnOpen then
          (m.advance (t + delay * SEC)).sendTwin 4 0 []
        else m
      | none => m
    else if m.md.active && m.bothLanes && m.quiet && !m.txnOpen && m.io.ls.all (fun c => c.timed.isNone) then
      (m.relinquish 4).1
    else m)

/-! ### Health (R510, R513) -/

/-- The bits of R510 that the module's own state decides. (Assumption 47 DEDUCED) -/
def Mod.knownHealth (m : Mod) : List (Nat × Bool) :=
  [(0, m.saf.reedLost.isNone), (1, m.saf.boreLost.isNone),
   (2, m.clk.pllLock && m.clk.memsOk && m.clk.crosscheckOk && m.clk.boreClockOk), (3, m.clk.ueRegions.isEmpty),
   (4, !(m.die 0).stale), (5, !(m.die 1).stale), (13, !m.tw.late),
   (14, decide (m.sup.st = .normal) && decide (m.sup.tbp ≤ 1250))]

/-- Every referenced axis is within ENC_CROSS_TOL counts of the mirrored P_ENC (R510, bit 10). -/
def Mod.encAgree (m : Mod) : Bool :=
  match m.tw.mir with
  | some f => m.axes.all (fun i => !(m.axis i).referenced || (match f.axes[i]? with
    | some x => decide (((m.pEnc i - x.penc).natAbs : Int) * 65536 ≤ m.p P.encCrossTol i * (m.p P.encScale i).natAbs)
    | none => true))
  | none => true

/-- The bits of R510 that a SHADOW's state decides beside its tests: a standing closed read-back fails bit 6 (R512). -/
def Mod.shadowHealth (m : Mod) (k : Nat) : Bool :=
  match k with
  | 6 => m.axes.all (fun i => decide ((m.axis i).iso = .opened))
  | 10 => m.encAgree
  | _ => true

/-- One bit of the own report: the tests in the report decide what the state does not. -/
def Mod.healthBit (m : Mod) (tests k : Nat) : Bool :=
  match m.knownHealth.find? (fun x => x.1 == k) with
  | some x => x.2 && bit tests k
  | none => (bit tests k && (decide (m.md ≠ .shadow) || m.shadowHealth k)) || (m.md.active && (k == 6 || k == 8 || k == 9))

def Mod.ownHealth (m : Mod) (tests : Nat) : Nat :=
  let w := (upto 15).foldl (fun n k => if m.healthBit tests k then n + 2 ^ k else n) 0
  if w = 32767 then w + 2 ^ 31 else w

/-- TWIN_HEALTH_REPORT (R510): the own report of the tests, and the peer's. -/
def execTwinHealthReport (self peer : Option Nat) (s : State) : Out :=
  s.live (fun m =>
    let m := match self with
      | some w =>
        let n : Nat := m.ownHealth w
        let old := m.tw.selfHealth
        let m := m.onTw (fun t => { t with
          selfHealth := n, healthySince := if bit n 31 then some (t.healthySince.getD m.raw) else none })
        let m := m.sendTwin 5 0 [n]
        if n = old then m else m.raise 0x9008 0 [0, n]
      | none => m
    match peer with
    | some n =>
      let old := m.tw.peerHealth
      let m := m.onTw (fun t => { t with peerHealth := n })
      if n = old then m else m.raise 0x9008 0 [1, n]
    | none => m)

def Mod.twinClear (m : Mod) : Mod :=
  m.onTw (fun t => { t with returns := 0, switchOvers := 0, laneLosses := 0, lateCount := 0, lastGap := 0 })

/-- TWIN_COUNTER_CLEAR (R513). -/
def execTwinCounterClear (s : State) : Out := s.live Mod.twinClear

/-! ### The switch-over (R504, R508, R509) -/

/-- The mode taken: the mirrored one, DEGRADED when a channel is missing here. -/
def Mod.takenMode (m : Mod) : Mode :=
  if m.mirMode = 9 ∨ m.anyLoss then .degraded else if m.mirMode = 8 then .activeReleased else .activeClosed

/-- No demand of R313 stands on a group; a cut by R512 ends with the takeover. -/
def Sto.onlyCut (s : Sto) : Bool := !s.applied || (s.reed ++ s.bore).all (fun c => c == 13)

/-- Take over at the present boundary. (Assumption 112 DEDUCED) -/
def Mod.takeOver (m : Mod) (cause : Nat) : Mod :=
  let new := m.takenMode
  let resume := (m.mirTorque).filter (fun i => (m.stoOf (i / 4)).onlyCut)
  let back := match m.tw.handover with
    | some (_, 4, false) => true
    | _ => false
  let reported := decide (m.tw.closeBy = some 0)
  let gap : Nat := (m.raw + 60 * US - m.tw.gapFrom) / US
  let m := m.onTw (fun t => { t with
    takeover := none, handover := none, checkAt := if cause = 2 then some (m.raw + 20 * US) else none,
    orphan := false, noTorque := false, resume := resume, tookAt := some m.raw, lastGap := sat16 gap,
    switchOvers := sat16 (t.switchOvers + 1), returns := if back then sat16 (t.returns + 1) else t.returns,
    closeBy := if cause = 2 ∧ !reported then some (t.gapFrom + 250 * US) else none })
  let m := m.setMode new 6
  let m := (m.life 4 1).raise 0x9005 0 [cause, gap, new.num]
  let m := if back then m.raise 0x9007 0 [m.tw.gapFrom] else m
  let m := m.portals.foldl (fun m p =>
    if (m.portal p).state ≠ 0 ∧ (m.portal p).state ≠ 0xFF ∧ (m.portal p).cyc.isNone then m.cycBegin p else m) m
  let m := m.markCycles 3 (some 9)
  let m := (m.evalSide .L).evalSide .R
  let m := if cause = 2 ∧ !reported then m else m.closeTaken
  m.txnTakeover.lsDriveAll

/-- The stop a mirrored plan is in. -/
def mirStop : Nat → Option StopWhy
  | 0 => none
  | 1 => some .stopped
  | 2 => some (.fault none)
  | _ => some .safeStop

/-- The probe of a leaf that rests in the mirror, from its portal's PROBE: a dwell that was running begins again, and a
decision that fell stands (R504). -/
def Mod.resumeProbe (m : Mod) (i : Nat) : Mod :=
  let p := i / 4
  if m.isLeaf i && decide ((m.portal p).state = 5) then
    let st : Option ProbeSt := match (m.portal p).probe with
      | 1 => some (.dwell (m.raw + m.pn P.probeDwell p * MS))
      | 2 => some .clear
      | 3 => some .trapped
      | _ => none
    match st with
    | some v => m.onOb i (fun o => { o with probe := v })
    | none => m
  else m

/-- One axis resumes at the first tick after closure (R504). (Assumption 112 DEDUCED) -/
def Mod.resumeAxis (m : Mod) (i : Nat) : Mod :=
  match m.tw.mir.bind (fun f => f.axes[i]?) with
  | none => m
  | some x =>
    let m := m.onOb i (fun o => { o with forceCnt := 0, absCnt := 0, openCnt := 0, growCnt := 0, errs := [] })
    let m := m.onAx i (fun a => { a with stallTicks := 0 })
    match x.plan with
    | none => (m.resumeProbe i).onAx i (fun a => { a with pcmd := x.pcmd, pcmdPrev := x.pcmd, pos := x.pcmd * 65536, vel := 0, coast := false })
    | some pl =>
      let p := x.pcmd * 65536 + x.vel * ((m.raw : Int) - m.tw.mirAt) / (SEC : Int)
      let lim : Lim := ⟨pl.speed, pl.accel, pl.decel, pl.jerk⟩
      let base : Move := {
        start := m.raw * 65536
        p0 := x.pcmd * 65536
        segs := []
        rest := pl.target * 65536
        target := pl.target
        lim := lim
        src := .self
        tag := pl.tag
        jog := none
        home := false
        stop := mirStop pl.stop
        next := pl.next.map (fun t => ⟨t, lim, .self, pl.tag, none, false⟩)
        overrun := false
        toEnc := false
        fresh := true }
      let r := base.replan m.raw ⟨p, x.vel, 0⟩ lim (toQ (m.scale i) (m.pn P.decelSafeMax i)) false
      let m := m.onAx i (fun a => { a with mv := some base, restAt := none, coast := false })
      let m := m.onOb i (fun o => { o with planAt := m.mapped pl.start * 65536 })
      m.takeReplan i r lim

/-- Axes of a takeover that have torque resume at a tick; the isolators close at the latest at their time.
 (Assumption 112 DEDUCED) -/
def Mod.twinTick (m : Mod) : Mod :=
  let m : Mod := match m.tw.closeBy with
    | some t => if t ≤ m.raw ∧ m.md ≠ Mode.shadow then m.closeTaken else m
    | none => m
  let go := m.tw.resume.filter (fun i => (m.axis i).torque)
  let m := go.foldl (fun m i => m.resumeAxis i) m
  m.onTw (fun t => { t with resume := t.resume.filter (fun i => !go.contains i) })

/-- R508: an ACTIVE module that reads its peer as ACTIVE, by a point sent after its own takeover. The later
takeover yields by a warm start. (Assumption 112 DEDUCED) -/
def Mod.splitCheck (m : Mod) : Mod :=
  let hit := match m.peerAddr with
    | some a => m.twinActive && m.md.active && m.peerAlive && (match m.tw.tookAt with
      | some t => m.fab.image.any (fun x => x.mod == a && x.pt == 0x013 && decide (fabAt m.time t < x.time))
      | none => true)
    | none => false
  if hit && !m.tw.split then
    let m := (m.onTw (fun t => { t with split := true })).raise 0x900A 0 [(m.peerAddr.getD 0xFFFF : Nat)]
    if m.tw.tookAt.isSome then m.dieReset .split else m
  else if hit then m
  else m.onTw (fun t => { t with split := false })

end Sys2Proof.Machine
end

