-- ==== Sys2Proof/Machine/Security.lean ====
section
/-! DEFINITION. Identity, service port, attestation and firmware update: the commands of
16_security_update.md. A response of the service port is (code, status, value); bytes stand as one
little-endian number. -/
namespace Sys2Proof.Machine

/-! ### The service port (R549 to R551, R573) -/

/-- Answer a service command. (Assumption 121 DESIGN CHOICE) -/
def Mod.svcAnswer (m : Mod) (code st : Nat) (v : Int) : Mod := m.onSec (fun x => { x with resp := x.resp ++ [(code, st, v)] })

/-- The refusal of a command whose role the session lacks (R551). -/
def Mod.grantFault (m : Mod) : Option Nat → Option Nat
  | none => none
  | some k => match m.sec.roles with
    | none => some 0x2C03
    | some r => if bit r k then none else some 0x3C02

/-- The connection carries commands: open, with a version in common (R121, R549). -/
def Mod.svcUp (m : Mod) : Bool := m.alive && m.sec.conn && m.sec.ver.isSome

/-- A service command with its role: 0 SERVICE, 1 COMMISSION, 2 UPDATE, 3 DEBUG. STARTING and UPDATE-PAUSE accept none
(R80). (Assumption 120 DEDUCED) -/
def Mod.svcCmd (m : Mod) (code : Nat) (role : Option Nat) (body : Mod → Mod × Option (Nat × Int)) : Mod :=
  if m.svcUp then
    if m.md.reads then
      match m.grantFault role with
      | some e => m.svcAnswer code e 0
      | none => match body m with
        | (m', some r) => m'.svcAnswer code r.1 r.2
        | (m', none) => m'
    else m.svcAnswer code 0x2101 0
  else m

/-- (Assumption 120 DEDUCED) -/
def State.svc (s : State) (code : Nat) (role : Option Nat) (body : Mod → Mod × Option (Nat × Int)) : Out :=
  s.onMod (fun m => m.svcCmd code role body)

/-- The session ends: connection closed, link lost or start (R551, R552); what verifies for it ends with it. -/
def Mod.svcEnd (m : Mod) : Mod :=
  let auth (o : LongOp) : Bool := match o.kind with
    | .auth _ _ _ _ => true
    | _ => false
  (((m.dropOps auth).debugLock 3).onSec (fun x => { x with
    conn := false, ver := none, nonces := [], roles := none, timeUnchecked := false })).setNeg 4 none

/-- SVC_CONNECTION_OPEN (R549, R123): a second connection is refused. (Assumption 120 DEDUCED) -/
def execSvcConnectionOpen (major minor : Nat) (prevMinor : Option Nat) (s : State) : Out :=
  s.live (fun m =>
    if m.sec.conn then m
    else
      let v := negotiate (ownVer 4) ⟨major, minor, prevMinor⟩
      let m := (m.onSec (fun x => { x with svcLink := true, conn := v.isSome, ver := v })).setNeg 4 v
      if v.isNone then m.raise 0xB00E 0 [major, minor] else m)

/-- SVC_CONNECTION_CLOSE. -/
def execSvcConnectionClose (s : State) : Out := s.live (fun m => if m.sec.conn then m.svcEnd else m)

/-- SVC_NETWORK_FRAME (R549): an ICMP echo or an ARP request for the own address is answered. -/
def execSvcNetworkFrame (icmp : Bool) (ip : Nat) (s : State) : Out :=
  s.live (fun m =>
    let m := m.onSec (fun x => { x with svcLink := true })
    if ip = m.pn P.svcIpv4Addr 0 then m.send 5 (b2n icmp) 0 [(ip : Int)] else m)

/-- SVC_CHALLENGE (R550): a fresh nonce. (Assumptions 120 DEDUCED, 121 DESIGN CHOICE) -/
def execSvcChallenge (s : State) : Out :=
  s.svc 0xB020 none (fun m =>
    let n := m.sec.nonceCtr
    (m.onSec (fun x => { x with nonces := x.nonces ++ [n], nonceCtr := n + 1 }), some (0, (Config.nonce n : Int))))

/-- Bytes 0 to 255 of a certificate (R546). -/
def certBody (c : Cert) : List Byte :=
  fitBytes 256 ([0x4F, 0x56, 0x4C, 0x43] ++ le1 c.certType ++ le1 c.issuer ++ zeros 2 ++ leBytes 8 c.subject
    ++ leBytes 4 c.operator ++ le1 c.roles ++ zeros 3 ++ leBytes 8 c.notBefore ++ leBytes 8 c.notAfter
    ++ fitBytes 64 c.publicKey)

/-- The checks of R550. (Assumptions 15 DESIGN CHOICE, 120 DEDUCED) -/
def Mod.authOk (m : Mod) (c : Cert) (nonce : Nat) (fresh : Bool) (sig : List Byte) : Bool :=
  let op := m.pn P.serviceOperatorId 0
  let t := secOf m.now
  decide (c.certType = 2) && decide (c.issuer < 4)
    && Config.slhVerify 2 (Config.rootKey c.issuer) (certBody c) c.signature
    && Config.slhVerify 4 c.publicKey (leBytes 8 m.id.serial ++ leBytes 32 (Config.nonce nonce)) sig
    && (decide (op = 0) || decide (c.operator = op))
    && fresh
    && (!m.trusted || (decide ((c.notBefore : Int) ≤ t) && (decide (c.notAfter = 0) || decide (t < c.notAfter))))

/-- The lock-out is over from its closing instant on (R7, R551). (Assumption 120 DEDUCED) -/
def Mod.lockEnd (m : Mod) : Mod :=
  if m.sec.lockUntil.any (fun t => decide (t ≤ m.raw)) then
    m.onSec (fun x => { x with lockUntil := none, consecFails := 0 })
  else m

/-- The verification of SVC_AUTHENTICATE ends (R550, R551): five failures in a row lock the command out.
 (Assumption 120 DEDUCED) -/
def Mod.authEnd (m : Mod) (c : Cert) (nonce : Nat) (fresh : Bool) (sig : List Byte) : Mod :=
  let sub : Nat := c.subject % 2 ^ 32
  if m.authOk c nonce fresh sig then
    let r : Nat := c.roles % 16
    let m := m.onSec (fun x => { x with roles := some r, timeUnchecked := !m.trusted, consecFails := 0 })
    (m.raise 0xB00B 0 [0, r, sub]).svcAnswer 0xB021 0 (r : Int)
  else
    let n := m.sec.consecFails + 1
    let m := m.onSec (fun x => { x with
      authFails := sat32 (x.authFails + 1), consecFails := n,
      lockUntil := if 5 ≤ n then some (m.raw + 60 * SEC) else x.lockUntil })
    (m.raise 0xB00B 0 [1, 0, sub]).svcAnswer 0xB021 0x3C01 0

/-- SVC_AUTHENTICATE (R550, R551): the nonce is used up, and the signatures are verified as a long operation (R139), which
the answer ends. (Assumption 120 DEDUCED) -/
def execSvcAuthenticate (c : Cert) (nonce : Nat) (sig : List Byte) (s : State) : Out :=
  s.svc 0xB021 none (fun m =>
    let m := m.lockEnd
    if m.sec.lockUntil.isSome then (m, some (0x2C04, 0))
    else
      match m.startLong none (.auth c nonce (m.sec.nonces.contains nonce) sig) 0 with
      | (m', some r) => (m', some (r.status, 0))
      | (m', none) => (m'.onSec (fun x => { x with nonces := x.nonces.filter (fun n => n != nonce) }), none))

/-- AUTH_LOCKOUT_EXPIRY: 60 s. (Assumption 120 DEDUCED) -/
def execAuthLockoutExpiry (s : State) : Out :=
  s.live (fun m => match m.sec.lockUntil with
    | some t => (m.advance t).lockEnd
    | none => m)

/-! ### Confirmation of the check value (R102) -/

/-- The axis of a role by the written axis map. -/
def PStore.role (st : PStore) (p r : Nat) : Option Nat :=
  let k := field (st.get P.portalAxisMap p).toNat (3 * r) 3
  if k < 4 then some (4 * p + k) else none

def PStore.roles (st : PStore) (p : Nat) : List Nat := (upto 4).filterMap (st.role p)

/-- Enabled portals of the written configuration. -/
def Mod.wEnabled (m : Mod) (st : PStore) : List Nat :=
  m.portals.filter (fun p => decide (st.get P.portalEnable p = 1))

/-- R239 and R261: every required pair is named. -/
def Mod.pairsNamed (m : Mod) (st : PStore) : Bool :=
  let on := m.wEnabled st
  let side (n : Int) : Bool := on.any (fun p => decide (st.get P.portalSide p = n))
  on.all (fun p => decide (st.get P.lockPair p ≠ 255) && decide (st.get P.closedPair p ≠ 255)
      && ((st.role p 2).isNone || decide (st.get P.stepRetPair p ≠ 255)))
    && (!side 0 || decide (st.get P.releaseLPair 0 ≠ 255)) && (!side 1 || decide (st.get P.releaseRPair 0 ≠ 255))
    && (on.isEmpty || decide (st.get P.zeroSpeedPair 0 ≠ 255))

/-- R320: a ramp below the Safe Stop envelope. -/
def Mod.rampLow (m : Mod) (st : PStore) : Bool :=
  (m.wEnabled st).any (fun p => (st.roles p).any (fun i =>
    let e := st.get P.ssEnvDecel i
    decide (st.get P.defaultDecel i < e)
      || (upto 8).any (fun k => decide (st.get P.profDecel (8 * p + k) ≠ 0) && decide (st.get P.profDecel (8 * p + k) < e))))

/-- R362: the inputs of every named pair carry equal filter settings. -/
def PStore.filtersEqual (st : PStore) : Bool :=
  (upto 16).all (fun n =>
    let w := (st.get P.safetyPairDi n).toNat
    let a := field w 0 7
    let b := field w 8 7
    decide (64 ≤ a) || decide (64 ≤ b)
      || [P.diFilterMax, P.diOnTh, P.diOffTh].all (fun d => decide (st.get d a = st.get d b)))

/-- R494 on a configured twin. (Assumption 114 DEDUCED) -/
def Mod.twinOk (m : Mod) (st : PStore) : Bool :=
  let role := st.get P.twinRole 0
  let cls := m.fab.pubTab.getD 0x013 0 % 4
  decide (role = 0)
    || ((m.wEnabled st).all (fun p => (st.roles p).all (fun i => decide (200 ≤ st.get P.holdCurrent i)))
      && decide (cls ≠ 0) && decide (classPeriod cls * 2 < st.get P.twinOrphanTimeout 0 * 1000000)
      && (decide (role ≠ 1) || (upto 4).all (fun b =>
        decide ((testFed st b 1).length ≤ 1) && decide ((testFed st b 2).length ≤ 1))))

/-- The first condition of COMMISSION to SERVICE that fails (R102). (Assumptions 114 DEDUCED, 125 DEDUCED) -/
def Mod.serviceFault (m : Mod) (st : PStore) : Option Nat :=
  let on := m.wEnabled st
  if !m.pairsNamed st then some 0x2304
  else if on.any (fun p => (tableFaultAt (st.tabCtx m.id.part p) 0 (m.tableWritten p)).isSome) then some 0x1301
  else if m.rampLow st || !st.filtersEqual then some 0x2501
  else if on.any (fun p => ((upto 2).filterMap (st.role p)).any (fun i => !(m.obst i).prof.valid)) then some 0x3402
  else if !m.twinOk st then some 0x2A01
  else none

/-- CHECK_VALUE_CONFIRM (R102): from a session with the COMMISSION role, in COMMISSION.
 (Assumptions 14 DESIGN CHOICE, 125 DEDUCED) -/
def execCheckValueConfirm (value : BitVec 64) (s : State) : Out :=
  s.svc 0xB02A (some 1) (fun m =>
    if m.md ≠ .commission then (m, some (0x2101, 0))
    else if m.nv.computed ≠ some value then (m, some (0x3102, 0))
    else match m.serviceFault s.par with
      | some e => (m, some (e, 0))
      | none =>
        let m : Mod := { m with nv := { m.nv with confirmed := some value } }
        (m.cfgSave.trig .confirmed, some (0, 0)))

/-! ### Debug (R104, R552) -/

/-- DEBUG_UNLOCK: only in ASSEMBLY and SERVICE. -/
def execDebugUnlock (s : State) : Out :=
  s.svc 0xB028 (some 3) (fun m =>
    if !m.md.debug then (m, some (0x2101, 0))
    else
      let n := m.pn P.debugUnlockTime 0
      let m := m.onSec (fun x => { x with
        debugUntil := some (m.raw + n * 60 * SEC), debugCount := sat32 (x.debugCount + 1) })
      (m.raise 0xB00C 0 [1, 0], some (0, (n : Int))))

/-- DEBUG_LOCK. -/
def execDebugLock (s : State) : Out := s.svc 0xB029 (some 0) (fun m => (m.debugLock 2, some (0, 0)))

/-- DEBUG_UNLOCK_EXPIRY. -/
def execDebugUnlockExpiry (s : State) : Out :=
  s.live (fun m => match m.sec.debugUntil with
    | some t => (m.advance t).debugLock 1
    | none => m)

/-! ### Identity and attestation (R545 to R548) -/

/-- The 512-byte body of a report, all values at the present instant (R547). (Assumption 15 DESIGN CHOICE) -/
def Mod.attBody (m : Mod) (b : Boot) (nonce : List Byte) : List Byte :=
  let waiting := (m.host.ops.filter (fun o => match o.kind with
    | .attest _ => true
    | _ => false)).length
  let t := m.now
  let life := m.lifeFlush.recd.life
  fitBytes 512 ([0x4F, 0x56, 0x4C, 0x41] ++ le2 0x0100 ++ zeros 2 ++ leBytes 8 m.id.serial ++ fitBytes 32 nonce
    ++ le4 (nsOf t) ++ le4 (secOf t) ++ le2 (toBits 48 (secOf t) / 4294967296 : Nat)
    ++ le2 (syncNum m.time.sync + 4 * b2n m.trusted : Nat) ++ zeros 4 ++ leBytes 8 m.raw ++ leBytes 4 m.fw.version
    ++ le1 m.fw.slot ++ le1 (b2n m.fw.trial) ++ zeros 2
    ++ dig (b.digest m.fw.slot) ++ dig (b.digest 0) ++ dig (b.digest 1) ++ dig (b.digest 2)
    ++ leBytes 4 b.antiRollback ++ leBytes 4 (b.seq % 2 ^ 32)
    ++ leBytes 8 m.checkInForce.toNat ++ le1 (b2n m.nv.confirmed.isSome) ++ le1 m.md.num
    ++ le1 (b2n m.sec.debugUntil.isSome) ++ le1 b.revoked.toNat ++ leBytes 4 (m.degCount.saf.deg / SEC)
    ++ leBytes 8 (life.getD 1 0) ++ leBytes 8 (life.getD 2 0) ++ leBytes 8 (life.getD 3 0) ++ leBytes 8 (life.getD 0 0)
    ++ leBytes 8 m.recd.cyc.head ++ leBytes 8 m.recd.evr.head ++ leBytes 4 m.sec.debugCount
    ++ leBytes 4 (sat32 (m.sec.reportCount + waiting + 1)) ++ dig (shake64 Config.identityCert))

def certLen : Nat := 30048
def reportLen : Nat := 50368

/-- ATTEST (R547, R548): a long operation; its values are taken now. (Assumption 121 DESIGN CHOICE) -/
def execAttest (src : Src) (nonce : List Byte) (len : Nat) (s : State) : Out :=
  match src with
  | .ring h => s.ring h (descAttest nonce len) Mode.reads (fun m =>
      if len < reportLen then (m, some (refuse 0x1006))
      else m.startLong (some h) (.attest (m.attBody s.boot nonce)) 300)
  | .svc => s.svc 0xB010 none (fun m =>
      match m.startLong none (.attest (m.attBody s.boot nonce)) 300 with
      | (m', some r) => (m', some (r.status, 0))
      | (m', none) => (m', none))

/-- CERT_READ (R546). (Assumption 121 DESIGN CHOICE) -/
def execCertRead (src : Src) (len : Nat) (s : State) : Out :=
  let c := fitBytes certLen Config.identityCert
  match src with
  | .ring h => s.ring h (descCertRead len) Mode.reads (fun m =>
      if len < certLen then (m, some (refuse 0x1006)) else (m, some { status := 0, buf := c }))
  | .svc => s.svc 0xB011 none (fun m => (m, some (0, (ofLe c : Int))))

/-! ### Update sessions (R560 to R569) -/

/-- The body's digest is the header's, and the signature verifies under a key that is not revoked (R554). The
content starts at file offset 1,024; a slot the factory wrote has no content in the model and stands as
marked. (Assumption 124 DEDUCED) -/
def Boot.slotGood (b : Boot) (k : Nat) : Bool :=
  let x := b.slot k
  match x.hdr with
  | none => decide (x.st = 2)
  | some h => decide (shake64 (x.content.take h.bodyLength) = h.bodyDigest)
      && Config.slhVerify 1 (Config.firmwareKey h.keyId) (hdrFile h) (x.content.drop h.bodyLength)
      && !b.revoked.getLsbD h.keyId

/-- What an update command leaves in LAST_UPD_STATUS, and the instant of the idle time-out. -/
def Mod.updNote (m : Mod) (st : Nat) : Mod :=
  m.onFw (fun x => { x with lastCmd := m.raw, lastStatus := if st < 0x1000 then x.lastStatus else st })

/-- The session ends with its cause (R575). -/
def Mod.updEnd (m : Mod) (cause : Nat) : Mod :=
  let m := (m.dropOps (fun o => decide (o.kind = .updateVerify))).onFw (fun x => { x with
    stage := 0, source := 0, pairSession := false, target := none, offset := 0, offsetMram := 0, fileLen := 0,
    stagedVersion := 0, pauseDue := false, twinAct := 0 })
  m.raise 0xB009 0 [cause]

/-- An update command: from a session with the UPDATE role, or passed on by the twin that holds the pair's
session (R569). (Assumption 124 DEDUCED) -/
def State.upd (s : State) (code : Nat) (body : Boot → Mod → Boot × Mod × Option (Nat × Int)) : Out :=
  let m := s.m
  let passed := decide (m.fw.source = 2) && m.tw.pairFormed
  let fin (b : Boot) (m' : Mod) (r : Nat × Int) : Out :=
    let m' := m'.updNote r.1
    s.put b s.par (if passed then m' else m'.svcAnswer code r.1 r.2)
  if (passed && m.alive) || m.svcUp then
    if !m.md.reads then fin s.boot m (0x2101, 0)
    else match (if passed then none else m.grantFault (some 2)) with
      | some e => s.put s.boot s.par (m.svcAnswer code e 0)
      | none => match body s.boot m with
        | (b, m', some r) => fin b m' r
        | (b, m', none) => s.put b s.par (m'.updNote 0)
  else .next s

/-- The first of checks 1 to 7 of R560 that fails. (Assumption 122 DEDUCED) -/
def Mod.hdrFault (m : Mod) (b : Boot) (h : ImgHdr) : Option Nat :=
  let own := ownVer 5
  let fmtOk := match own.minorOf h.fmtMajor with
    | some n => decide (h.fmtMinor ≤ n)
    | none => false
  let running := (b.slot m.fw.slot).hdr.map hdrDigest
  let lig := (ownVer 3).major
  if h.magic ≠ hdrMagic || !fmtOk then some 0x1C01
  else if h.part ≠ 0xD516 ∨ !bit h.variantMask (if m.id.part = .A then 0 else 1) ∨ m.id.hwRev < h.hwMin
      ∨ h.hwMax < m.id.hwRev then some 0x1C02
  else if 4 ≤ h.keyId ∨ b.revoked.getLsbD h.keyId then some 0x1C03
  else if h.antiRollback < b.antiRollback then some 0x1C04
  else if h.bodyLength < 8 ∨ 16744448 < h.bodyLength ∨ h.bodyLength % 8 ≠ 0 then some 0x1C05
  else if running = some (hdrDigest h) then some 0x1C06
  else if m.tw.pairFormed ∧ h.ligMajor ≠ lig ∧ h.ligPrev ≠ lig then some 0x1C07
  else none

/-- The slot an update goes to: neither CURRENT nor FACTORY (R558, R560). -/
def Boot.target (b : Boot) : Nat := if b.current = 0 then 1 else 0

/-- An accepted header takes the module; the target is erased and its header written (R560).
 (Assumption 122 DEDUCED) -/
def Mod.hdrAccept (m : Mod) (b : Boot) (h : ImgHdr) (source at_ : Nat) : Boot × Mod :=
  let k := b.target
  let m := (m.onFw (fun x => { x with
    stage := 2, source := source, acceptedAt := at_, pairSession := m.tw.pairFormed, target := some k, offset := 1024,
    offsetMram := 1024, fileLen := 1024 + h.bodyLength + 29792, stagedVersion := h.fwVersion })).setNeg 5
      (some (h.fmtMajor, h.fmtMinor))
  (b.onSlot k (fun _ => ⟨0, some h, []⟩), m.raise 0xB001 k [source, h.fwVersion])

/-- UPDATE_HEADER (R560, R568): the other source's session answers UPDATE_BUSY first. (Assumption 122 DEDUCED) -/
def execUpdateHeader (i : ImgHdr) (s : State) : Out :=
  let body (b : Boot) (m : Mod) : Boot × Mod × Option (Nat × Int) :=
    let no (e : Nat) : Boot × Mod × Option (Nat × Int) := (b, m.raise 0xB002 0 [1, e], some (e, 0))
    if m.fw.stage ≠ 0 ∧ m.fw.stage ≠ 7 then no 0x2C02
    else match m.hdrFault b i with
      | some e => no e
      | none =>
        let x := m.hdrAccept b i 1 m.raw
        let y := if m.tw.pairFormed then x.2.passHeader i m.raw else (x.2, 0)
        (x.1, y.1, some (y.2, (b.target : Int)))
  if s.m.fw.source = 2 then
    s.svc 0xB022 (some 2) (fun m => ((m.raise 0xB002 0 [1, 0x2C01]).updNote 0x2C01, some (0x2C01, 0)))
  else s.upd 0xB022 body

/-- UPDATE_DATA (R561). (Assumption 122 DEDUCED) -/
def execUpdateData (off : Nat) (data : List Byte) (readback : Bool) (s : State) : Out :=
  s.upd 0xB023 (fun b m =>
    let o := m.fw.offset
    let n := o + data.length
    match m.fw.stage, m.fw.target with
    | 2, some k =>
      if off ≠ o then (b, m, some (0x1C08, (o : Int)))
      else if data.isEmpty ∨ 65536 < data.length then (b, m, some (0x1003, (o : Int)))
      else if m.fw.fileLen < n then (b, m, some (0x1C05, (o : Int)))
      else if !readback then 
        (b.onSlot k (fun x => { x with st := 3 }), (m.onFw (fun x => { x with stage := 7 })).raise 0xB004 k [2], some (0x4C02, (o : Int)))
      else
        let done := decide (n = m.fw.fileLen)
        let b := b.onSlot k (fun x => { x with
          content := x.content.take (o - 1024) ++ data, st := if done then 1 else x.st })
        let m := m.onFw (fun x => { x with
          offset := n, stage := if done then 3 else 2,
          offsetMram := if done then n else max x.offsetMram (n / 65536 * 65536) })
        let m := if m.fw.pairSession && m.tw.pairFormed && decide (m.fw.source = 1) then
          m.sendTwin 11 0 ((off : Int) :: data.map (fun (b : Byte) => (b.toNat : Int))) else m
        (b, if done then m.raise 0xB003 k [n] else m, some (0, (n : Int)))
    | _, _ => (b, m, some (0x2C02, 0)))

/-- UPDATE_VERIFY (R562): a long operation; LONG_OP_STEP answers it. -/
def execUpdateVerify (s : State) : Out :=
  s.upd 0xB024 (fun b m =>
    if m.fw.stage ≠ 3 then (b, m, some (0x2C02, 0))
    else match m.startLong none .updateVerify 6000 with
      | (m', some r) => (b, m', some (r.status, 0))
      | (m', none) => (b, m'.onFw (fun x => { x with stage := 4 }), none))

/-- The verification ends: the slot is verified, or invalid and the session back at its header check.
 (Assumption 122 DEDUCED) -/
def Mod.verifyEnd (m : Mod) (b : Boot) : Boot × Mod :=
  match m.fw.target with
  | none => (b, m)
  | some k =>
    if b.slotGood k then
      let m := (m.onFw (fun x => { x with stage := 5 })).raise 0xB004 k [0]
      (b.onSlot k (fun x => { x with st := 2 }), (m.updNote 0).svcAnswer 0xB024 0 ((b.digest k).toNat : Int))
    else
      let m := m.onFw (fun x => { x with stage := 2, offset := 1024, offsetMram := 1024 })
      let m := m.raise 0xB004 k [1]
      (b.onSlot k (fun x => { x with st := 3, content := [] }), (m.updNote 0x4C01).svcAnswer 0xB024 0x4C01 0)

/-- Every portal LOCKED or ISOLATED. -/
def Mod.allLocked (m : Mod) : Bool :=
  m.portals.all (fun p => !m.enabled p || [0, 8].contains (m.portal p).state)

/-- The first condition of R563 that fails, 0 for none. (Assumption 125 DEDUCED) -/
def Mod.actReady (m : Mod) : Nat :=
  let act := decide (m.md = .activeClosed)
  if !(m.md = .commission ∨ m.md = .service ∨ m.md = .shadow ∨ (act ∧ m.p P.updateInActive 0 = 1)) then 1
  else if !m.allRest then 2
  else if m.axes.any (fun i => (m.axis i).shadowDisc) then 3
  else if act ∧ (!m.allLocked ∨ m.txnOpen) then 4
  else 0

/-- The boot pointer record of an activation (R556, R564): the digest enters the Bore cache first.
 (Assumption 123 DEDUCED) -/
def Boot.activate (b : Boot) (k : Nat) (trial : Bool) : Boot :=
  b.write (fun b => { b with
    current := k, trial := trial, previous := some b.current, trialFails := 0,
    curDigest := b.digest k, prevDigest := b.curDigest })

/-- Steps 1 and 2 of R564; UPDATE-PAUSE follows at the next boundary. (Assumption 123 DEDUCED) -/
def Mod.activate (m : Mod) (b : Boot) (k : Nat) : Boot × Mod :=
  let n := b.activate k true
  let m := (m.onStart (fun x => { x with boreHash := some n.curDigest })).raise 0xB005 k [(n.seq % 2 ^ 32 : Nat)]
  (n, m.onFw (fun x => { x with stage := 6, target := some k, pauseDue := true }))

/-- The slot that UPDATE_ACTIVATE acts on: the verified target, or, without a session, the other slot that a
fallback left verified (R566). (Assumption 123 DEDUCED) -/
def Mod.actTarget (m : Mod) (b : Boot) : Option Nat :=
  let k := b.target
  if (m.fw.stage = 5 ∨ m.fw.stage = 0) ∧ (b.slot k).st = 2 ∧ (b.slot k).hdr.isSome then some k else none

/-- The holder of a pair's session that is not the SHADOW itself (R569). -/
def Mod.passes (m : Mod) : Bool :=
  m.fw.pairSession && m.tw.pairFormed && decide (m.fw.source = 1) && decide (m.md ≠ .shadow)

/-- The activation is passed on to the twin (R569). (Assumption 130 DEDUCED) -/
def Mod.passActivate (m : Mod) : Mod := if m.passes then m.sendTwin 11 0 [0xB025] else m

/-- The module's own activation: in ACTIVE-CLOSED a formed pair hands over first, and where the twin's health does not pass,
the module goes on as one without a twin (R503, R563). (Assumption 123 DEDUCED) -/
def Mod.actSelf (m : Mod) (b : Boot) (k : Nat) : Boot × Mod :=
  let m := m.onFw (fun x => { x with twinAct := 0 })
  if m.tw.handover.isSome then (b, m)
  else
    let x := if m.md = .activeClosed ∧ m.tw.pairFormed then
        (m.onFw (fun x => { x with stage := 5, target := some k })).relinquish 3 else (m, false)
    if x.2 then (b, x.1) else m.activate b k

/-- The holder's activation after the twin's (R569): once the twin has gone through its own and is a healthy SHADOW again.
 (Assumption 130 DEDUCED) -/
def Mod.actAfterTwin (m : Mod) (b : Boot) : Boot × Mod :=
  let m := if m.fw.twinAct = 1 ∧ m.tw.peerMode ≠ 6 then m.onFw (fun x => { x with twinAct := 2 }) else m
  match m.actTarget b with
  | some k => if m.fw.twinAct = 2 ∧ m.tw.peerMode = 6 ∧ bit m.tw.peerHealth 31 ∧ m.actReady = 0 then m.actSelf b k else (b, m)
  | none => (b, m)

/-- UPDATE_ACTIVATE (R563, R564, R569): in a session of the pair the SHADOW activates first.
 (Assumption 123 DEDUCED) -/
def execUpdateActivate (s : State) : Out :=
  s.upd 0xB025 (fun b m =>
    match m.actTarget b with
    | none => (b, m, some (0x2C02, 0))
    | some k =>
      let c := m.actReady
      if c ≠ 0 then (b, m, some (0x2C08, (c : Int)))
      else
        let no : Int := ((b.seq + 1) % 2 ^ 32 : Nat)
        let x := if m.passes ∧ m.tw.peerMode = 6 then
            (b, m.passActivate.onFw (fun x => { x with stage := 5, target := some k, twinAct := 1 }))
          else m.passActivate.actSelf b k
        (x.1, x.2, some (0, no)))

/-- The record of a confirmation (R559, R565): the rollback counter never falls, and the running image's own key
is never revoked. -/
def Boot.confirm (b : Boot) (h : ImgHdr) : Boot :=
  b.write (fun b => { b with
    trial := false, antiRollback := max b.antiRollback h.antiRollback,
    revoked := b.revoked ||| (BitVec.ofNat 4 h.revokeMask &&& ~~~ BitVec.ofNat 4 (2 ^ h.keyId)) })

/-- UPDATE_CONFIRM (R565): in the window of a trial. -/
def execUpdateConfirm (s : State) : Out :=
  s.upd 0xB026 (fun b m =>
    match m.fw.trial && b.trial && m.fw.windowEnd.any (fun t => decide (m.raw < t)) && !m.fw.fallbackDue, (b.slot b.current).hdr with
    | true, some h =>
      let b := b.confirm h
      let m := m.onFw (fun x => { x with trial := false, windowEnd := none })
      let m := (m.raise 0xB007 b.current [m.fw.version, b.antiRollback]).updEnd 1
      (b, m, some (0, (b.antiRollback : Int)))
    | _, _ => (b, m, some (0x2C07, 0)))

/-- UPDATE_ABORT (R568): the target is invalid, the record unchanged. -/
def execUpdateAbort (s : State) : Out :=
  s.upd 0xB027 (fun b m =>
    match m.fw.stage, m.fw.target with
    | 0, _ => (b, m, some (0x2C02, 0))
    | 6, _ => (b, m, some (0x2C02, 0))
    | _, some k => (b.onSlot k (fun x => { x with st := 3 }), m.updEnd 3, some (0, 0))
    | _, none => (b, m.updEnd 3, some (0, 0)))

/-! ### Fallback (R557, R566) -/

/-- PREVIOUS becomes CURRENT with TRIAL 0; the cause of UPDATE_FALLBACK; the session ends. (Assumption 123 DEDUCED) -/
def Mod.fallBack (m : Mod) (b : Boot) (cause : Nat) : Boot × Mod :=
  let k := b.previous.getD 2
  let b := b.write (fun b => { b with current := k, trial := false, curDigest := b.prevDigest })
  (b, (m.raise 0xB008 k [cause]).updEnd 2)

/-- The fallback of an expired window: activation of PREVIOUS under R564 with TRIAL 0, as soon as R563 holds.
 (Assumption 123 DEDUCED) -/
def Mod.fallBackTry (m : Mod) (b : Boot) : Boot × Mod :=
  if m.fw.fallbackDue ∧ m.actReady = 0 then
    let y := if m.md = .activeClosed ∧ m.tw.pairFormed then m.relinquish 3 else (m, false)
    if y.2 ∨ m.tw.handover.isSome then (b, y.1)
    else
      let k := b.previous.getD 2
      let n := b.activate k false
      let m := (m.onStart (fun x => { x with boreHash := some n.curDigest })).raise 0xB005 k [(n.seq % 2 ^ 32 : Nat)]
      let m := (m.raise 0xB008 k [1]).updEnd 2
      (n, m.onFw (fun x => { x with fallbackDue := false, pauseDue := true }))
  else (b, m)

/-- TRIAL_WINDOW_EXPIRY (R566): PREVIOUS is verified and its digest loaded; then it waits for R563.
 (Assumption 123 DEDUCED) -/
def execTrialWindowExpiry (s : State) : Out :=
  match s.m.alive && s.m.fw.trial && s.boot.trial, s.m.fw.windowEnd with
  | true, some t =>
    let m := (s.m.advance t).onFw (fun x => { x with windowEnd := none })
    let k := s.boot.previous.getD 2
    let x : Boot × Mod :=
      if s.boot.slotGood k then
        ((m.onStart (fun x => { x with boreHash := some (s.boot.digest k) })).onFw (fun x => { x with fallbackDue := true })).fallBackTry s.boot
      else (s.boot.onSlot k (fun x => { x with st := 3 }), m)
    s.put x.1 s.par x.2
  | _, _ => .next s

/-- UPDATE_IDLE_TIMEOUT (R568): no command from the source for the time, and no trial. (Assumption 123 DEDUCED) -/
def execUpdateIdleTimeout (s : State) : Out :=
  s.live (fun m =>
    if m.fw.stage = 0 ∨ m.fw.stage = 6 ∨ m.fw.trial then m
    else (m.advance (m.fw.lastCmd + m.pn P.updateIdleTimeout 0 * 60 * SEC)).updEnd 4)

/-- TWIN_UPDATE_FORWARD_RX (R568, R569): a header from the twin; the one stamped earlier wins, a tie goes to the
PRIMARY's port. (Assumption 124 DEDUCED) -/
def execTwinUpdateForwardRx (i : ImgHdr) (rxAt : Nat) (s : State) : Out :=
  let m := s.m
  if m.alive && m.md.reads && m.tw.pairFormed then
    let b := s.boot
    let t := m.mapped rxAt
    let open_ := decide (m.fw.stage ≠ 0)
    let wins := !open_ || (decide (m.fw.source = 1) && decide (m.fw.stage ≠ 6)
      && (decide (t < m.fw.acceptedAt) || (decide (t = m.fw.acceptedAt) && !m.primary)))
    let x : Boot × Mod :=
      if !wins then (b, m.raise 0xB002 0 [2, 0x2C01])
      else match m.hdrFault b i with
        | some e => (b, (m.raise 0xB002 0 [2, e]).updNote e)
        | none =>
          let b := match open_, m.fw.target with
            | true, some k => b.onSlot k (fun y => { y with st := 3 })
            | _, _ => b
          let m := if open_ then m.updEnd 5 else m
          (m.updNote 0).hdrAccept b i 2 t
    s.put x.1 s.par x.2
  else .next s

end Sys2Proof.Machine
end

