-- ==== Sys2Proof/Machine/Starts.lean ====
section
/-! DEFINITION. Mode requests, starts, failed starts, the service reset input and DORMANT wakes: the commands of
03_modes_start_calibration.md but BUDGET_PERIOD_BOUNDARY, and TWIN_PEER_WAIT_EXPIRY. -/
namespace Sys2Proof.Machine

/-! ### Control-die reset and start steps (R86 to R89) -/

/-- CONTROL_DIE_RESET (R82, R90, R92): the watchdog, or another cause of R82. (Assumption 37 DEDUCED) -/
def execControlDieReset (cause : ResetCause) (s : State) : Out := s.live (fun m => m.dieReset cause)

/-- The start is to end in SHADOW (R489). -/
def Mod.toShadow (m : Mod) : Bool :=
  m.twinConf && m.tw.linkUp && m.tw.pairFormed && [2, 3, 7, 8, 9].contains m.tw.peerMode

/-- A configuration and a user calibration are there (R100). -/
def Mod.cfgValid (m : Mod) : Bool :=
  (m.nv.config.1 || m.nv.config.2) && (m.nv.calib.1 || m.nv.calib.2)

/-- Axes that step 12 homes: every axis at a cold start, else those with a discontinuous shadow counter.
 (Assumption 6 DESIGN CHOICE) -/
def Mod.toHome (m : Mod) : List Nat := m.axes.filter (fun i => m.start.cold || (m.axis i).shadowDisc)

/-- A homing operation of a start. -/
def startHomeOf (o : LongOp) : Option Nat :=
  match o.hdr, o.kind with
  | none, .home i false => some i
  | _, _ => none

/-- Axes whose homing of step 12 waits or runs. (Assumption 40 DEDUCED) -/
def Mod.startHomes (m : Mod) : List Nat := m.start.homes ++ m.host.ops.filterMap startHomeOf

/-- The axis has the torque its homing needs, or will not get it (R224). -/
def Mod.homeReady (m : Mod) (i : Nat) : Bool :=
  (m.axis i).torque || (m.axis i).fault.isSome || decide (m.nextMethod i = 6)

/-- Begin one homing of step 12, if a slot is free (R140). An axis whose method does not fit fails with cause 2 (R228). -/
def Mod.homeStart (m : Mod) (i : Nat) : Mod :=
  if 8 ≤ m.host.ops.length then m
  else
    let m := (m.onStart (fun x => { x with homes := x.homes.filter (fun k => decide (k ≠ i)) })).addOp none (.home i false) 0
    if m.homeFits i (m.nextMethod i) then m.homeBegin i else m.homeEnd i (some 2)

/-- Begin what may run (R224): the portals at the same time, the axes of one portal in their order, an axis
without a role on its own. (Assumption 40 DEDUCED) -/
def Mod.homeNext (m : Mod) : Mod :=
  let todo := m.start.homes
  let free (p : Nat) : Bool := (m.roleAxes p).all (fun i => (m.axis i).home.isNone)
  let first := m.portals.filterMap (fun p =>
    if m.enabled p && free p then (m.homeOrder p).find? (fun i => todo.contains i) else none)
  let solo := todo.filter (fun i => (m.roleOf i).isNone)
  ((first ++ solo).filter m.homeReady).foldl Mod.homeStart m

/-- Step 12 begins: on a warm start the discontinuous counters end their references (R231, cause 2), STO ends on the groups concerned and the warning runs; each homing begins once its axis has torque.
 (Assumption 40 DEDUCED) -/
def Mod.beginHomes (m : Mod) : Mod :=
  let l := m.toHome
  if l.isEmpty then m
  else
    let m := m.onStart (fun x => { x with homes := l })
    let m := if m.start.cold then m else l.foldl (fun m i => m.loseRef i 2) m
    let m := m.onSaf (fun f => { f with sto := f.sto.map (fun s => { s with
      reed := s.reed.filter (fun c => c != 1 && c != 5), bore := s.bore.filter (fun c => c != 1 && c != 5) }) })
    m.portals.foldl (fun m p =>
      if m.enabled p && (m.roleAxes p).any (fun i => l.contains i) then m.learnWarn p true else m) m

/-- Why a step is skipped: 1 warm start, 2 no valid configuration, 3 SHADOW. (Assumption 40 DEDUCED) -/
def Mod.skipWhy (m : Mod) (k : Nat) : Option Nat :=
  if !m.start.cold && [2, 9, 10, 11].contains k then some 1
  else if (k = 11 ∨ k = 12) ∧ !m.cfgValid then some 2
  else if k = 12 ∧ m.toShadow then some 3
  else none

/-- Go on with step `k`, past the steps that are skipped; 13 stands for all passed. (Assumption 38 DEDUCED) -/
def Mod.enterStep (m : Mod) : Nat → Nat → Mod
  | 0, k => m.onStart (fun x => { x with step := k })
  | n + 1, k =>
    if 13 ≤ k then m.onStart (fun x => { x with step := 13 })
    else match m.skipWhy k with
      | some why => (m.raise 0x4E03 0 [k, why]).enterStep n (k + 1)
      | none =>
        let m := m.onStart (fun x => { x with step := k, stepAt := m.raw })
        if k = 12 then m.beginHomes else m

/-- The start begins at step 1: START_BEGUN, the counters of R527, the fail-safe states into the dies (R387).
 (Assumption 39 DEDUCED) -/
def Mod.startBegin (m : Mod) (par : PStore) : Mod :=
  let m := m.onStart (fun x => { x with inReset := false })
  let c : Nat := (m.start.cause.map causeNum).getD 0
  let m := (m.raise 0x4E02 0 [b2n !m.start.cold, c]).life (if m.start.cold then 1 else 2) 1
  let m := m.onIo (fun x => { x with die := x.die.map (fun d => { d with tokPos := 0, lag := 0 }) })
  (upto 24).foldl (fun m n => m.onLs n (fun x => { x with fs := some (par.get P.lsFailsafe n).toNat })) m

/-- Time limit of a step in ms (R86). -/
def stepLimit (k : Nat) : Nat := [50, 300, 60, 100, 10, 50, 1500, 3, 600, 200, 400, 30000].getD (k - 1) 0

/-- The instant at which the running step's time limit is over. -/
def Mod.stepEnd (m : Mod) : Nat := m.start.stepAt + stepLimit m.start.step * MS

/-- Step 7 skips the signature verification: the computed hash is the one the Bore channel cached (R86). -/
def Mod.hashCached (m : Mod) (b : Boot) : Bool := !m.start.cold && decide (m.start.boreHash = some (b.digest m.fw.slot))

/-- The user calibration a start takes: its newest valid copy, or defaults (R100). -/
def Mod.calTaken (m : Mod) (c : Option CalCopy) : Mod :=
  let profs : List Prof := (c.map (fun x => x.profs)).getD []
  let keep := c.isSome && !m.start.cold
  { m with ob := { m.ob with
    saved := (upto 16).map (fun i => profs.getD i Prof.reset),
    ax := if keep then m.ob.ax
      else (m.ob.ax.zip (upto 16)).map (fun (x : Obst × Nat) => { x.1 with prof := profs.getD x.2 Prof.reset }) } }

/-- The configuration a start takes: its newest valid copy, or nothing (R100). -/
def Mod.cfgTaken (m : Mod) (g : Option CfgCopy) : Mod :=
  let po : List Portal := (m.po.zip (upto 4)).map (fun (x : Portal × Nat) => { x.1 with
    table := ((g.map (fun c => c.tables)).getD []).getD x.2 [], held := none })
  let ax : List Axis := (m.ax.zip (upto 16)).map (fun (x : Axis × Nat) => { x.1 with
    tabs := ((g.map (fun c => c.fing)).getD []).getD x.2 (List.replicate 7 none) })
  let can : List CanPort := (m.can.zip (upto 2)).map (fun (x : CanPort × Nat) => { x.1 with
    tab := ((g.map (fun c => c.can)).getD []).getD x.2 (List.replicate 512 0) })
  { m with
    po := po, ax := ax, can := can
    fab := { m.fab with pubTab := (g.map (fun c => c.pub)).getD pubDefaults }
    nv := { m.nv with confirmed := g.bind (fun c => c.confirmed) } }

/-- What each step leaves when it passes (R86, R87, R100, R101, R163, R274, R349). Step 6 answers none when both copies of
the factory area, or the Bore image, are bad. (Assumptions 40 DEDUCED, 61 DEDUCED) -/
def Mod.stepPass (m : Mod) (r : StepReport) (b : Boot) (par : PStore) (kept : Kept) : Option (PStore × Mod) :=
  match m.start.step with
  | 2 =>
    if r.holdupMj < 500 then some (par, (m.onSup (fun x => { x with holdupLow := true })).raise 0xC00C 0 [r.holdupMj])
    else some (par, m)
  | 3 => some (par, m.onFw (fun x => { x with
      slot := b.current, trial := b.trial, version := ((b.slot b.current).hdr.map (fun h => h.fwVersion)).getD x.version }))
  | 5 =>
    let m := r.badTables.foldl (fun m (x : Nat × Nat) => m.onAx x.1 (fun a => { a with
      tabs := upd a.tabs (x.2 - 1) (fun t => t.map (fun t => { t with valid := false })) })) m
    some (par, r.badProfiles.foldl (fun m i =>
      m.onOb i (fun o => { o with prof := m.ob.saved.getD i Prof.reset, loading := false })) m)
  | 6 =>
    let owed := m.nv.eraseOwed
    let m := if owed then m.eraseAreas else m
    let cal := (m.nv.calib.1 && r.calibCopies.1, m.nv.calib.2 && r.calibCopies.2)
    let cfg := (m.nv.config.1 && r.configCopies.1, m.nv.config.2 && r.configCopies.2)
    let m : Mod := { m with nv := { m.nv with factory := r.factoryCopies, calib := cal, config := cfg } }
    if !r.factoryCopies.1 && !r.factoryCopies.2 then none
    else
      let m := if !r.factoryCopies.1 then m.raise 0x4E0D 0 [1, 0] else m
      let m := if !r.factoryCopies.2 then m.raise 0x4E0D 0 [1, 1] else m
      let m := if !cal.1 && !cal.2 then m.raise 0x4E0E 0 [2] else m
      let m := if !cfg.1 && !cfg.2 then m.raise 0x4E0E 0 [3] else m
      let g := newest cfg m.nv.configSeq kept.cfg
      let c := newest cal m.nv.calibSeq kept.cal
      let par := storeOf g c
      let m := (m.calTaken c).cfgTaken g
      let m : Mod := { m with live := par, due := [] }
      let m := r.badTables.foldl (fun m (x : Nat × Nat) => m.onAx x.1 (fun a => { a with
        tabs := upd a.tabs (x.2 - 1) (fun t => t.map (fun t => { t with valid := false })) })) m
      let m := m.onSaf (fun f => { f with boreCrc := some r.boreCrc })
      let m := m.axes.foldl (fun m i =>
        let n := m.sel i
        let bad := decide (n ≠ 0) && (match (m.axis i).tabs.getD (n - 1) none with
          | some t => !t.valid
          | none => true)
        let m := m.onAx i (fun a => { a with fellBack := bad })
        if bad then m.raise 0x1010 i [n] else m) m
      match m.nv.confirmed, m.saf.boreCrcStored with
      | some _, some c =>
        if c = r.boreCrc then some (par, m)
        else none
      | _, _ => some (par, m)
  | 7 => some (par, m.onStart (fun x => { x with boreHash := some (b.digest m.fw.slot) }))
  | 8 => some (par, m.onClk (fun c => { c with pllLock := true, memsOk := true, crosscheckOk := true, boreClockOk := true }))
  | 10 =>
    let one (m : Mod) (sd : Side) (v : Bool) : Mod :=
      let m := m.onLoop sd (fun l => { l with inV := v })
      let m := m.onStart (fun x => { x with proofPending := match sd with
        | .L => (!v, x.proofPending.2)
        | .R => (x.proofPending.1, !v) })
      if v then m else m.raise 0x4E09 (sideNum sd) [0]
    some (par, one (one m .L r.loopVolt.1) .R r.loopVolt.2)
  | 11 =>
    let ax : List Axis := m.ax.map (fun a => { a with fault := none, faults := [], gateOff := false })
    some (par, { m with ax := ax })
  | _ => some (par, m)

/-- The slot booted after an invalid one, and the record of R557. -/
def Boot.nextSlot (b : Boot) : Nat :=
  let prev := b.previous.getD 2
  if b.trial then prev
  else if b.previous.isSome ∧ (b.slot prev).st = 2 then prev else 2

def Boot.reboot (b : Boot) : Boot :=
  let b' := b.onSlot b.current (fun x => { x with st := 3 })
  let k := b'.nextSlot
  b'.write (fun b' => { b' with
    current := k, trial := false, curDigest := if b.previous = some k then b.prevDigest else b'.digest k })

/-- Steps 3 and 7 find the slot invalid (R557); reason 2 is a time limit. (Assumptions 20 DEDUCED, 124 DEDUCED) -/
def Mod.bootFail (m : Mod) (b : Boot) (reason : Nat) : Boot × Mod :=
  if (m.start.step = 3 ∨ m.start.step = 7) ∧ reason ≠ 2 then
    let n := b.reboot
    let m := m.raise 0xB00A b.current [b.current, n.current]
    (n, if b.trial then (m.raise 0xB008 n.current [3]).updEnd 2 else m)
  else (b, m)

/-- One start step (R86): reported passed or failed; past its time limit it fails with reason 2.
 (Assumption 39 DEDUCED) -/
def Mod.startStep (m : Mod) (r : StepReport) (b : Boot) (par : PStore) (kept : Kept) : Boot × PStore × Mod :=
  let k := m.start.step
  let m := if k = 1 then m.startBegin par else m
  if m.stepEnd < m.raw then (b, par, m.failNow k 2)
  else if k = 12 ∧ r.pass ∧ !m.startHomes.isEmpty then (b, par, m)
  else if !r.pass && !(decide (k = 7) && decide (r.reason ≠ 2) && m.hashCached b) then
    let m := if k = 1 then m.loseBore 2 else m
    let x := (m.failNow k r.reason).bootFail b r.reason
    (x.1, par, x.2)
  else if k = 12 ∧ m.toHome.any (fun i => !(m.axis i).referenced) ∧ m.cfgValid then (b, par, m.failNow 12 1)
  else match m.stepPass r b par kept with
    | some x => (b, x.1, x.2.enterStep 12 (k + 1))
    | none =>
      let m := if r.factoryCopies.1 || r.factoryCopies.2 then
          m.raise 0x4014 0 [(r.boreCrc.toNat : Int), (((m.saf.boreCrcStored.map (fun c => c.toNat)).getD 0 : Nat) : Int)]
        else m
      (b, par, m.failNow k 1)

/-- START_STEP: while a start runs that has not failed. -/
def execStartStep (r : StepReport) (s : State) : Out :=
  let m := s.m
  if m.sup.powered && !m.sup.powerFail && decide (m.md = .starting) && m.start.failed.isNone
      && decide (1 ≤ m.start.step) && decide (m.start.step ≤ 12) then
    let x := m.startStep r s.boot s.par s.kept
    s.put x.1 x.2.1 x.2.2
  else .next s

/-! ### Start completion (R82, R83, R87 to R95, R489) -/

inductive StartEnd where
  | mode (md : Mode) (orphan : Bool)
  | wait
  | fail
  deriving DecidableEq, Repr

/-- The mode a module alone resumes (R83, R558). (Assumption 41 DEDUCED) -/
def Mod.resumeMode (m : Mod) : Mode :=
  match m.mode.resume with
  | .activeClosed => if m.fw.slot = 2 then .service else if m.anyLoss then .degraded else .activeClosed
  | .egress => if m.evacuating then .egress else .service
  | _ => .service

/-- The ligature is up: heartbeats arrive. -/
def Mod.ligUp (m : Mod) : Bool := m.tw.linkUp && m.tw.heart

/-- Where a start that has passed its steps leads (R82, R489). (Assumption 47 DEDUCED) -/
def Mod.startEnd (m : Mod) : StartEnd :=
  if !m.cfgValid then .mode .assembly false
  else if m.nv.confirmed.isNone then .mode .commission false
  else if !m.twinConf then .mode m.resumeMode false
  else if m.ligUp ∧ m.tw.pairFormed then
    (if [2, 3, 7, 8, 9].contains m.tw.peerMode then
      (if bit m.tw.selfHealth 31 then .mode .shadow false else .fail)
    else if m.tw.peerMode = 5 ∧ !m.primary then .wait
    else .mode m.resumeMode false)
  else if m.ligUp ∧ (m.tw.pairFail = 2 ∨ m.tw.pairFail = 4) then
    (if m.primary then .mode m.resumeMode false else .fail)
  else .wait

/-- What completing a start does, before its mode is taken. -/
def Mod.startDone (m : Mod) (b : Boot) : Mod :=
  let cold := m.start.cold
  let us : Nat := (m.raw - m.start.enteredAt) / US
  -- torque and positions (R93)
  let m := m.onSaf (fun f => { f with sto := f.sto.map (fun s => { s with
    reed := s.reed.filter (fun c => c != 5), bore := s.bore.filter (fun c => c != 5) }) })
  let m := m.axes.foldl (fun m i =>
    let pe := m.pEnc i
    m.onAx i (fun a => if a.coast then { a with pcmd := pe, pcmdPrev := pe, pos := pe * 65536, vel := 0 } else a)) m
  let m := m.axes.foldl (fun m i => if !cold && (m.axis i).shadowDisc then m.loseRef i 2 else m) m
  let m := m.portals.foldl (fun m p => m.learnWarn p false) m
  -- portals (R241, R346, R521)
  let healthy := m.healthy
  let m := m.portals.foldl (fun m p =>
    let open_ := (m.portal p).cyc.isSome
    let m := if m.enabled p then m.fromSensors p else m
    let m := if open_ then m.cycEnd p (m.portal p).state true else m
    if (m.portal p).isolDeg then
      (if healthy then m.onPo p (fun q => { q with isolDeg := false }) else m.onPo p (fun q => { q with state := 8 }))
    else m) m
  -- degraded time (R88, R95, R345)
  let whole := cold && !m.start.proofPending.1 && !m.start.proofPending.2
  let m := m.onSaf (fun f => { f with
    deg := if whole then 0 else if cold then f.deg else f.deg + (m.raw - m.start.enteredAt), degAt := m.raw,
    near := f.near && !whole, reached := false })
  let m := m.degWrite
  -- loops (R92, R328)
  let held : Nat := b2n m.start.loopsHeld.1 + 2 * b2n m.start.loopsHeld.2
  let m := (m.onLoop .L (fun l => { l with latched := false, retryAt := none, trips := [] })).onLoop .R
    (fun l => { l with latched := false, retryAt := none, trips := [] })
  let m := m.onStart (fun x => { x with loopsHeld := (false, false), holdUntil := none })
  -- events
  let c : Nat := (m.start.cause.map causeNum).getD 0
  let m := if cold then m else m.raise 0x4E07 0 [c, us, held]
  let m := if cold && m.srst.atPowerup then (m.raise 0x4E0C 0 []) else m
  let m : Mod := { m with srst := { m.srst with atPowerup := false } }
  let m := m.raise 0x4E04 0 [us]
  let m := (upto 8).foldl (fun m e => if m.p P.edgeType e ≠ 0 ∧ (m.edgeLeaf e).isNone then m.edgeFail e 5 else m) m
  let m := m.reportLost
  -- fabric, time, recorder, update (R434, R437, R525, R565)
  let m := (m.onFab (fun x => { x with
    epoch := (x.epoch + 1) % 65536, safeTx := [], pub := x.pubTab })).pubRestart
  let m := m.onTime (fun t => { t with profile := m.pn P.ptpProfile 0 })
  let m := m.recStart
  let m := if m.fw.trial && b.trial then
      (m.onFw (fun x => { x with windowEnd := some (m.raw + 600 * SEC) })).raise 0xB006 b.current [b.trialFails]
    else m
  m.onStart (fun x => { x with step := 0, inReset := false })

/-- The start ends in a mode. (Assumption 47 DEDUCED) -/
def Mod.finishStart (m : Mod) (b : Boot) (md : Mode) (orphan : Bool) : Mod :=
  let m := ((if md = .shadow then m.dropCycles else m).startDone b).setMode md 1
  let m := m.onTw (fun t => { t with waitUntil := none })
  if orphan then m.becomeOrphan else m

/-- Every step of a start has passed. -/
def Mod.allPassed (m : Mod) : Bool :=
  m.alive && decide (m.md = .starting) && m.start.failed.isNone && decide (m.start.step = 13)

/-- START_COMPLETE: a mode is taken, or the twin is waited for. -/
def execStartComplete (s : State) : Out :=
  s.onMod (fun m =>
    if m.allPassed then
      match m.startEnd with
      | .mode md o => m.finishStart s.boot md o
      | .fail => m.failNow 13 5
      | .wait => if (m.ligUp ∧ m.tw.pairFormed) ∨ m.tw.waitUntil.isSome then m
        else m.onTw (fun t => { t with waitUntil := some (m.raw + m.pn P.twinPeerWait 0 * SEC) })
    else m)

/-- TWIN_PEER_WAIT_EXPIRY (R489), while no pair is formed over a live link: SHADOW as an orphan beside a living peer, else the resume mode alone. -/
def execTwinPeerWaitExpiry (s : State) : Out :=
  s.onMod (fun m =>
    match m.allPassed && !(m.ligUp && m.tw.pairFormed), m.tw.waitUntil with
    | true, some t =>
      let m := m.advance t
      if m.peerAlive then m.finishStart s.boot .shadow true else m.finishStart s.boot m.resumeMode false
    | _, _ => m)

/-! ### Failed starts (R90, R91, R566) -/

/-- The failures in the fullest window that is still open (R91). -/
def fullest (raw : Nat) (l : List Nat) : Nat :=
  let win (f : Nat) : Nat := (l.filter (fun g => decide (f ≤ g) && decide (g < f + 600 * SEC))).length
  (l.filter (fun f => decide (raw < f + 600 * SEC))).foldl (fun n f => max n (win f)) 0

/-- The failure is stamped and counted; SAFE-HOLD, latched at the third in one window. -/
def Mod.startFailed (m : Mod) (step reason : Nat) : Mod :=
  let hist := m.start.history ++ [m.raw]
  let n := fullest m.raw hist
  let latch := decide (3 ≤ n)
  let m := m.raise 0x4E05 0 [step, reason, n]
  let m := m.onMode (fun x => { x with safeHoldLatched := x.safeHoldLatched || latch, safeHoldCause := some 0 })
  let m := if latch then m.raise 0x4E06 0 [] else m
  let m := m.dropOps (fun o => (startHomeOf o).isSome)
  let ax : List Axis := m.ax.map (fun a => { a with home := none })
  let m : Mod := { m with ax := ax }
  let m := m.onStart (fun x => { x with
    history := hist, failed := none, step := 0, inReset := false, homes := [], loopsHeld := (false, false), holdUntil := none,
    autoAt := if m.mode.safeHoldLatched then none else some (m.raw + m.pn P.autoRestartDelay 0 * SEC) })
  m.setMode .safeHold 2

/-- A failed start of the trial image counts in the record; at the third PREVIOUS becomes CURRENT (R566).
 (Assumption 123 DEDUCED) -/
def Mod.trialFailed (m : Mod) (b : Boot) : Boot × Mod :=
  if b.trial then
    let b := b.write (fun b => { b with trialFails := min 3 (b.trialFails + 1) })
    if b.trialFails = 3 then m.fallBack b 2 else (b, m)
  else (b, m)

/-- START_FAILED: the failure noted by a step or a reset, or the end of the running step's time limit (reason 2). A failed
wake step of DORMANT fails in the same way (R103). -/
def execStartFailed (s : State) : Out :=
  let m := s.m
  if m.sup.powered && !m.sup.powerFail then
    match decide (m.md = .starting), decide (m.md = .dormant), m.start.failed with
    | true, _, some f =>
      let x := m.trialFailed s.boot
      s.put x.1 s.par (x.2.startFailed f.1 f.2)
    | true, _, none =>
      if 1 ≤ m.start.step ∧ m.start.step ≤ 12 then
        let x := (m.advance m.stepEnd).trialFailed s.boot
        s.put x.1 s.par (x.2.startFailed m.start.step 2)
      else .next s
    | _, true, some f => s.put s.boot s.par (m.startFailed f.1 f.2)
    | _, _, _ => .next s
  else .next s

/-- AUTO_RESTART (R91): after AUTO_RESTART_DELAY. (Assumption 37 DEDUCED) -/
def execAutoRestart (s : State) : Out :=
  s.live (fun m => match decide (m.md = .safeHold), m.start.autoAt with
    | true, some t => (m.advance t).dieReset .autoRestart
    | _, _ => m)

/-! ### Loops at a start (R87, R92) -/

/-- LOOP_VOLTAGE_APPEARS (R87): the owed proof test of the side runs. (Assumptions 42 DEDUCED, 91 DEDUCED) -/
def execLoopVoltageAppears (side : Side) (reedPass borePass : Bool) (s : State) : Out :=
  s.live (fun m =>
    let owed := m.proofPending side
    let m := m.onLoop side (fun l => { l with inV := true })
    if !owed then m.loopEval
    else if reedPass && borePass then
      let m := m.onStart (fun x => { x with proofPending := match side with
        | .L => (false, x.proofPending.2)
        | .R => (x.proofPending.1, false) })
      (m.raise 0x4E09 (sideNum side) [1]).loopEval
    else
      let m := m.raise 0x4E09 (sideNum side) [2]
      let m := if reedPass then m else m.loseReed 6
      if borePass then m else m.loseBore 6)

/-- RESET_LOOP_HOLD_EXPIRY (R92): both held loops open. -/
def execResetLoopHoldExpiry (s : State) : Out :=
  s.pow (fun m => match m.start.holdUntil with
    | some t =>
      let m := m.advance t
      let m := if m.held .L then m.dropHold .L 3 else m
      let m := if m.held .R then m.dropHold .R 3 else m
      m.onStart (fun x => { x with holdUntil := none })
    | none => m)

/-! ### Service reset input (R96 to R98) -/

/-- SRST_PRESS: low for 20 ms; after a stuck level or a low level at power-on only once it has been high. -/
def execSrstPress (afterHigh : Bool) (s : State) : Out :=
  s.pow (fun m =>
    if m.sup.powerFail ∨ (m.srst.needHigh ∧ !afterHigh) then m
    else
      let m : Mod := { m with srst := { m.srst with pressedAt := some m.raw, needHigh := false, stuck := false } }
      let m := m.raise 0x4E0A 0 []
      if m.start.inReset then m else m.dieReset .srst)

/-- SRST_STUCK: low for 5 s after the press. -/
def execSrstStuck (s : State) : Out :=
  s.pow (fun m => match m.srst.pressedAt with
    | some t =>
      let m := m.advance (t + 5 * SEC)
      let m : Mod := { m with srst := { m.srst with pressedAt := none, needHigh := true, stuck := true } }
      m.raise 0x4E0B 0 []
    | none => m)

/-! ### Mode requests (R80 to R84) -/

def modeOfNum : Nat → Option Mode
  | 1 => some .assembly
  | 2 => some .commission
  | 3 => some .service
  | 4 => some .dormant
  | 5 => some .starting
  | 6 => some .shadow
  | 7 => some .activeClosed
  | 8 => some .activeReleased
  | 9 => some .degraded
  | 10 => some .safeHold
  | 11 => some .updatePause
  | 12 => some .egress
  | _ => none

/-- The check of the configuration as a whole: every written value against the others, then the tables. -/
def Mod.configFault (m : Mod) (st : PStore) : Option Nat :=
  let rel (kv : Nat × Int) : Option Nat := match keyDef kv.1 with
    | some (d, i) => if valueOk m.id.part d kv.2 then relStatus m.id.part m.id.serial st d i kv.2 else some 0x1003
    | none => some 0x1002
  match st.findSome? rel with
  | some e => some e
  | none =>
    if (m.wEnabled st).any (fun p => (tableFaultAt (st.tabCtx m.id.part p) 0 (m.tableWritten p)).isSome) then some 0x1301 else none

/-- Axes at rest, portals secured, no open context: the conditions R82 repeats. -/
def Mod.restFault (m : Mod) : Option Nat :=
  if !m.allRest then some 0x2102 else if !m.allLocked then some 0x2103 else if m.txnOpen then some 0x2104 else none

/-- The first unmet condition of a MODE_REQUEST's transition (R82, R102, R558). (Assumption 33 DEDUCED) -/
def Mod.modeFault (m : Mod) (par : PStore) (tgt : Mode) : Option Nat :=
  match m.md, tgt with
  | .assembly, .commission => if m.nv.eraseOwed then some 0x2101 else m.configFault par
  | .assembly, _ => some 0x2101
  | .egress, .service => if m.evacuating then some 0x2106 else none
  | .egress, _ => some 0x2101
  | .safeHold, t => if t = .safeHold then none else some 0x2101
  | _, .safeHold => none
  | .service, .commission => if m.allRest then none else some 0x2102
  | .service, .activeClosed =>
    if m.nv.confirmed.isNone then some 0x3101
    else if !m.allRest then some 0x2102
    else if !m.allLocked then some 0x2103
    else if !m.healthy then some 0x2101
    else if m.start.proofPending.1 || m.start.proofPending.2 then some 0x2107
    else if m.fw.slot = 2 then some 0x2C06
    else none
  | .activeClosed, .service => m.restFault
  | .service, .dormant => m.restFault
  | .activeClosed, .dormant => m.restFault
  | .dormant, t =>
    if t = .activeClosed ∧ m.nv.confirmed.isNone then some 0x3101
    else if t = m.mode.dormantFrom then none else some 0x2101
  | _, .activeClosed => if m.nv.confirmed.isNone then some 0x3101 else some 0x2101
  | _, _ => some 0x2101

/-- Modes whose row of R80 names MODE_REQUEST, and those that accept all commands. (Assumption 33 DEDUCED) -/
def Mode.requests (md : Mode) : Bool :=
  match md with
  | .assembly => true
  | .dormant => true
  | .safeHold => true
  | .egress => true
  | _ => md.faultClear

/-- MODE_REQUEST (R82, R84): it completes at the period boundary that takes the transition. In DORMANT it is a wake
by the host (R103). (Assumption 32 DEDUCED) -/
def execModeRequest (h : Hdr) (target : Nat) (s : State) : Out :=
  s.ring h descModeRequest Mode.requests (fun m =>
    match modeOfNum target with
    | none => (m, some (refuse 0x1003))
    | some t =>
      match m.modeFault s.par t with
      | some e => (m, some (refuse e))
      | none =>
        if t = .safeHold then ((m.trig (.safeHold 1)).trig (.request t (some h)), none)
        else
          let m := if m.md = .dormant then m.onMode (fun x => { x with wake := some (x.wake.getD .host) }) else m
          (m.trig (.request t (some h)), none))

/-- The cause of SAFE-HOLD still stands: the thermal one below its band, the others end with the start.
 (Assumption 28 DEDUCED) -/
def Mod.holdCause (m : Mod) : Bool := decide (m.mode.safeHoldCause = some 3) && decide (m.sup.band = 3)

/-- START_REQUEST (R82, R91): from SAFE-HOLD, not latched, its cause cleared. (Assumption 32 DEDUCED) -/
def execStartRequest (h : Hdr) (s : State) : Out :=
  s.ring h descStartRequest (fun md => decide (md = .safeHold)) (fun m =>
    if m.mode.safeHoldLatched then (m, some (refuse 0x2105))
    else if m.holdCause then (m, some (refuse 0x2101))
    else ((m.complete h okReply).dieReset .startRequest, none))

/-- RESTORE_FACTORY (R101): a long operation that first marks both configuration copies invalid.
 (Assumption 46 DEDUCED) -/
def execRestoreFactory (h : Hdr) (word : Nat) (s : State) : Out :=
  s.ring h descRestoreFactory (fun md => decide (md = .assembly) || md.maint) (fun m =>
    if !m.allRest then (m, some (refuse 0x2102))
    else if word ≠ m.serialLo then (m, some (refuse 0x1101))
    else match m.startLong (some h) .restoreFactory 100 with
      | (m', some r) => (m', some r)
      | (m', none) => ({ m' with nv := { m'.nv with config := (false, false), eraseOwed := true } }, none))

/-- EVACUATE (R85). -/
def execEvacuate (h : Hdr) (set : Bool) (s : State) : Out :=
  s.ring h descEvacuate Mode.comm (fun m => ((m.onMode (fun x => { x with evacHost := set })).evalEvac, some okReply))

/-! ### DORMANT wakes (R103) -/

def wakeNum : WakeSource → Nat
  | .fabric => 1
  | .host => 2
  | .input => 3
  | .evacuation => 4

/-- DORMANT_WAKE: the inputs have settled and step 11 has run; a failed wake step fails as a start does.
 (Assumption 36 DEDUCED) -/
def execDormantWake (src : WakeSource) (pass : Bool) (s : State) : Out :=
  s.live (fun m =>
    if m.md = .dormant ∧ m.start.failed.isNone then
      let n : Nat := wakeNum (m.mode.wake.getD src)
      let m := m.onMode (fun x => { x with wake := some (x.wake.getD src) })
      if pass then (m.raise 0x4E10 0 [n]).trig (.dormantWake n)
      else m.onStart (fun x => { x with failed := some (11, 1) })
    else m)

end Sys2Proof.Machine
end

