-- ==== Sys2Proof/Machine/Boundary.lean ====
section
/-! DEFINITION. The budget period boundary (R29, R84): the governor, the values that take effect there, and at most one
change of mode. -/
namespace Sys2Proof.Machine

/-- The boundary this command stands for: the present instant if it is one not yet decided, else the next.
 (Assumption 19 DESIGN CHOICE) -/
def Mod.boundaryAt (m : Mod) : Nat :=
  if m.raw % 50000 = 0 ∧ m.gov.lastBoundary < m.raw then m.raw else nextMul m.raw 50000

/-- Modes R82 lets an evacuation source lead to EGRESS. -/
def Mode.evacuates : Mode → Bool
  | .commission => true
  | .service => true
  | .dormant => true
  | .activeClosed => true
  | .activeReleased => true
  | .degraded => true
  | _ => false

def Trig.holdCause : Trig → Option Nat
  | .safeHold c => some c
  | _ => none

/-- (Assumption 35 DEDUCED) -/
def Trig.wakeSrc : Trig → Option Nat
  | .dormantWake n => some n
  | _ => none

def Trig.req : Trig → Option (Mode × Option Hdr)
  | .request t h => some (t, h)
  | _ => none

/-- Complete every pending MODE_REQUEST whose target satisfies a test. (Assumptions 20 DEDUCED, 32 DEDUCED) -/
def Mod.endRequests (m : Mod) (f : Mode → Bool) (st : Nat) : Mod :=
  let hit (t : Trig) : Bool := match t.req with
    | some (md, _) => f md
    | none => false
  let gone := m.mode.trigs.filter hit
  let m := m.onMode (fun x => { x with trigs := x.trigs.filter (fun t => !hit t) })
  gone.foldl (fun m t => match t.req with
    | some (_, some h) => m.complete h (refuse st)
    | _ => m) m

/-- DEGRADED, or the hand-over to a twin that is fit for it (R82, R503). -/
def Mod.toDegraded (m : Mod) : Mod :=
  if m.tw.handover.isSome then m
  else
    let x := m.relinquish 1
    if x.2 then x.1 else m.setMode .degraded 5

/-- The takeover may act: a hand-over only from its instant on (R503). -/
def Mod.takeoverDue (m : Mod) : Option Nat :=
  match m.tw.takeover, m.tw.handover with
  | some c, some (t, _, false) => if t ≤ m.raw then some c else none
  | some c, _ => some c
  | none, _ => none

/-- A pending request whose conditions hold at the boundary takes its transition; otherwise it is refused with the
first unmet condition. -/
def Mod.takeRequest (m : Mod) (par : PStore) : Mod :=
  match m.mode.trigs.findSome? Trig.req with
  | none => m
  | some (t, h) =>
    let m := m.onMode (fun x => { x with trigs := x.trigs.filter (fun y => decide (y.req ≠ some (t, h))) })
    match m.modeFault par t with
    | some e => (match h with
      | some h => m.complete h (refuse e)
      | none => m)
    | none =>
      let m := m.setMode t 8
      match h with
      | some h => m.complete h okReply
      | none => m

/-- The fabric dormant command, judged once (R442): `won` when another trigger took the boundary. -/
def Mod.fabDormant (m : Mod) (won : Bool) : Mod :=
  if m.fab.dormantCmd then
    let m := m.onFab (fun x => { x with dormantCmd := false })
    let may := decide (m.md = .service) || decide (m.md = .activeClosed)
    let unmet : Nat :=
      if !may then 0
      else match m.restFault with
        | some 0x2102 => 1
        | some 0x2103 => 2
        | some _ => 3
        | none => 0
    if won then m.raise 0x7012 0 [1, m.md.num, 0xFF]
    else if may && decide (m.restFault = none) then m.setMode .dormant 8
    else m.raise 0x7012 0 [1, m.md.num, unmet]
  else m

/-- The update pause is due: the record is written and nothing waits. (Assumption 125 DEDUCED) -/
def Mod.pauseNow (m : Mod) : Bool :=
  m.fw.pauseDue && !m.fw.fallbackDue && decide (m.fw.stage ≠ 5)
    && (decide (m.md = .commission) || decide (m.md = .service) || decide (m.md = .activeClosed) || decide (m.md = .shadow))

/-- The first trigger in the order of R84 acts; DORMANT is left for EGRESS only when its wake is over (R103).
 (Assumptions 31 DEDUCED, 32 DEDUCED, 35 DEDUCED) -/
def Mod.modeStep (m : Mod) (par : PStore) : Mod :=
  let has (t : Trig) : Bool := m.mode.trigs.contains t
  match m.mode.trigs.findSome? Trig.holdCause, decide (m.md ≠ .safeHold) with
  | some c, true =>
    ((m.onMode (fun x => { x with safeHoldCause := some c })).onStart (fun x => { x with step := 0 })).setMode .safeHold (20 + c)
  | _, _ =>
    if m.evacuating && m.md.evacuates
        && (decide (m.md ≠ .dormant) || (m.mode.trigs.findSome? Trig.wakeSrc).isSome) then m.setMode .egress 4
    else if has .degraded && m.anyLoss && (decide (m.md = .activeClosed) || decide (m.md = .activeReleased)) then m.toDegraded
    else match m.takeoverDue, decide (m.md = .shadow) with
      | some c, true => m.takeOver c
      | _, _ =>
        match m.mode.trigs.findSome? Trig.wakeSrc, decide (m.md = .dormant) with
        | some _, true => m.setMode m.mode.dormantFrom 7
        | _, true => m
        | _, _ =>
          if has .confirmed && decide (m.md = .commission) && m.nv.confirmed.isSome then m.setMode .service 12
          else if (m.mode.trigs.findSome? Trig.req).isSome then m.takeRequest par
          else if m.pauseNow then (m.setMode .updatePause 13).dieReset .updatePause
          else if m.fab.dormantCmd then m
          else if m.md = .activeClosed ∧ m.anyReleased then m.setMode .activeReleased 9
          else if m.md = .activeReleased ∧ !m.anyReleased then m.setMode .activeClosed 10
          else m

/-- What is left of the triggers after a boundary: a request that lost is refused, the others are judged by their
condition the next time. (Assumptions 31 DEDUCED, 35 DEDUCED) -/
def Mod.modeAfter (m : Mod) (was : Mode) : Mod :=
  let won := decide (m.md ≠ was)
  let m := m.endRequests (fun t => decide (t = m.md)) 0
  let m := if won then m.endRequests (fun _ => true) 0x2101 else m
  let m := m.fabDormant won
  let keep (t : Trig) : Bool := match t with
    | .switchOver => m.tw.takeover.isSome
    | .degraded => m.anyLoss && m.md.active && decide (m.md ≠ .degraded)
    | .request _ _ => true
    | .dormantWake _ => decide (m.md = .dormant)
    | _ => false
  m.onMode (fun x => { x with trigs := x.trigs.filter keep })

/-- An evacuation source in DORMANT is a wake: every input is sampled at full rate again (R103). -/
def Mod.evacWake (m : Mod) : Mod :=
  if m.md = .dormant ∧ m.evacuating ∧ m.mode.wake.isNone then m.onMode (fun x => { x with wake := some .evacuation }) else m

/-- Before the mode: the governor, the work that waited for a class, the values of the period, the evacuation sources, a split (R8, R29, R32, R85, R508).
 (Assumption 22 DEDUCED) -/
def Mod.periodStart (m : Mod) : Mod :=
  let t := m.boundaryAt
  (((m.advance t).govBoundary t).saveWaiting.learnWaiting.takeDue (fun d _ => decide (d.eff = .period))).evalEvac.evacWake.splitCheck

/-- The update's part of a boundary (R564, R566, R569). -/
def Mod.updBoundary (m : Mod) (b : Boot) : Boot × Mod :=
  match decide (m.fw.stage = 5) && m.fw.pauseDue && decide (m.md = .shadow), m.fw.target with
  | true, some k => if m.actReady = 0 then m.activate b k else (b, m)
  | _, _ =>
    let x := m.actAfterTwin b
    x.2.fallBackTry x.1

/-- BUDGET_PERIOD_BOUNDARY (R29, R79, R82, R84). -/
def execBudgetPeriodBoundary (s : State) : Out :=
  let m := s.m
  if m.alive then
    let x := m.periodStart.updBoundary s.boot
    let was := x.2.md
    let m' := if x.2.alive then (x.2.modeStep s.par).modeAfter was else x.2
    s.put x.1 s.par m'
  else .next s

end Sys2Proof.Machine
end

