-- ==== Sys2Proof/Machine/FieldCmd.lean ====
section
/-! DEFINITION. The field dies' commands: the sampling window with the input filters, the test pulses and the
safety pairs, and the frames of the field links (R358 to R373, R580; R307 to R312 for the pairs). -/
namespace Sys2Proof.Machine

/-! ### The sampling window (R359, R360, R366, R500) -/

/-- On the SECONDARY of a twin pair with a heartbeat the window lies 125 us after the PRIMARY's, on its own
counter; without a heartbeat it stays; elsewhere the sample instant is 40 us after the period boundary. -/
def Mod.windowPhase (m : Mod) : Nat :=
  if m.twinConf && !m.primary then
    (if m.tw.heart then ((33000 + m.tw.mapOff) % 50000).toNat else m.io.phase)
  else 8000

/-- The next sample instant. -/
def Mod.sampleNext (m : Mod) : Nat :=
  let r := max m.raw (m.io.sampleAt + 1)
  (r + 49999 - m.io.phase) / 50000 * 50000 + m.io.phase

/-- Input `i` is sampled in the window at `t`: in DORMANT only the evacuation pair is, until DORMANT_SAMPLE_PERIOD
has passed or a wake is recognised (R85, R103, R360). -/
def Mod.sampled (m : Mod) (t i : Nat) : Bool :=
  if m.md = .dormant ∧ m.mode.wake.isNone then
    let e := m.pairDis (m.pn P.evacuateInputPair 0)
    decide ((t - m.io.phase) % (m.pn P.dormantSamplePeriod 0 * MS) = 0)
      || (decide (m.pn P.evacuateInputPair 0 < 16) && (decide (e.1 = i) || decide (e.2 = i)))
  else true

/-- An instant lies within [lead, tail] around a test gap's period boundary: source A at whole multiples of TP_PERIOD,
source B half a period later (R366). (Assumption 95 DEDUCED) -/
def inGap (at_ : Int) (per src lead tail : Nat) : Bool :=
  let off : Int := if src = 2 then (per / 2 : Nat) else 0
  decide ((at_ - off + lead) % (per : Int) ≤ (lead + tail : Nat))

/-- What a window's sample of an input is. -/
inductive Window where
  | sample
  | test
  | hold
  deriving DecidableEq, Repr

/-- The source of an input gaps in its window: a test sample on the module that has the source; on the SECONDARY
a sample inside a gap of the PRIMARY, or within 100 us of an expected one while the link is down (R366, R500).
 (Assumption 95 DEDUCED) -/
def Mod.windowOf (m : Mod) (t i : Nat) : Window :=
  let src := m.pn P.diTestSource i
  let per := m.pn P.tpPeriod (i / 16) * MS
  if !m.sampled t i || m.diStale i then .hold
  else if src = 0 ∨ m.md = .dormant then .sample
  else if m.twinConf && !m.primary then
    let at_ : Int := (t : Int) - m.tw.mapOff
    -- the gap lasts from 20 us before the boundary to 60 us after it
    if m.tw.heart then (if inGap at_ per src 4000 12000 then .hold else .sample)
    else if inGap at_ per src 24000 32000 then .hold else .sample
  else if inGap (t : Int) per src 0 8000 then .test else .sample

/-- A judged test sample (R367): 1 is source A, 2 source B. (Assumption 95 DEDUCED) -/
def Mod.testSample (m : Mod) (i : Nat) (x : Bool) : Mod :=
  let d := m.di i
  if x then
    let m := m.onDi i (fun d => { d with raw := x, fails := min (d.fails + 1) 2, passes := 0 })
    if decide (2 ≤ d.fails + 1) && !d.testFailed then
      (m.onDi i (fun d => { d with testFailed := true })).raise 0x5004 i [m.pn P.diTestSource i]
    else m
  else
    let m := m.onDi i (fun d => { d with raw := x, fails := 0, passes := min (d.passes + 1) 3 })
    if decide (3 ≤ d.passes + 1) && d.testFailed then
      (m.onDi i (fun d => { d with testFailed := false })).raise 0x5005 i []
    else m

/-- The transitions of R363 after a sample. -/
def chatterAdd (l : List Nat) (last x : Bool) (t window : Nat) : List Nat :=
  (if last = x then l else l ++ [t]).filter (fun a => decide (t < a + window))

/-- The counter of R361 and the filtered state after a sample. -/
def filterStep (c : Nat) (filt x : Bool) (mx on off : Nat) : Nat × Bool :=
  if mx = 0 then (c, x)
  else
    let c := if x then min (c + 1) mx else c - 1
    (c, if on ≤ c ∧ x then true else if c ≤ off ∧ !x then false else filt)

/-- An open or close button pressed (R259): a rising filtered edge. -/
def Mod.buttons (m : Mod) (i t : Nat) : Mod :=
  m.portals.foldl (fun m p =>
    let hit (d : PDef) : Bool := m.enabled p && (decide (field (m.pn d p) 0 7 = i) || decide (field (m.pn d p) 8 7 = i))
    let m := if hit P.openButtonDi then m.press p false 1 (fabAt m.time t) else m
    if hit P.closeButtonDi then m.press p true 1 (fabAt m.time t) else m) m

/-- A filter decision, stamped with the sample instant: the homing switches, the buttons, the wake of DORMANT. -/
def Mod.decided (m : Mod) (i t : Nat) (on : Bool) : Mod :=
  let m := m.onDi i (fun d => { d with
    filt := on, stamp := t, activeAt := if on then some t else none, suspect := d.suspect && on })
  if m.alive then
    let m := m.homeSwitch i on t
    let m := if on && !(m.di i).testFailed then m.buttons i t else m
    if m.md = .dormant ∧ m.mode.wake.isNone ∧ bit (m.pn P.dormantWakeInputs 0) i then
      m.onMode (fun x => { x with wake := some .input })
    else m
  else m

/-- A sample that goes to the filter (R361, R363). -/
def Mod.filterSample (m : Mod) (t i : Nat) (x : Bool) : Mod :=
  let d := m.di i
  let lim := m.pn P.diChatterCount i
  let tr := if lim = 0 then [] else chatterAdd d.trans d.last x t (m.pn P.diChatterWindow i * MS)
  let f := filterStep d.cnt d.filt x (m.pn P.diFilterMax i) (m.pn P.diOnTh i) (m.pn P.diOffTh i)
  let m := m.onDi i (fun d => { d with raw := x, last := x, trans := tr, cnt := f.1 })
  let m := if lim = 0 then m
    else if decide (lim < tr.length) && !d.chatter then
      (m.onDi i (fun d => { d with chatter := true })).raise 0x5007 i [1, tr.length]
    else if d.chatter && decide (2 * tr.length ≤ lim) then
      (m.onDi i (fun d => { d with chatter := false })).raise 0x5007 i [0, tr.length]
    else m
  if f.2 = d.filt then m else m.decided i t f.2

/-- (Assumption 95 DEDUCED) -/
def Mod.sampleInput (m : Mod) (t i : Nat) (x : Bool) : Mod :=
  match m.windowOf t i with
  | .sample => m.filterSample t i x
  | .test => m.testSample i x
  | .hold => m

/-! ### Pairs (R308 to R312, R367) -/

/-- One pair after a sample; `seen` is false where its inputs were not sampled, so that nothing is counted.
 (Assumption 84 DEDUCED) -/
def Mod.pairEval (m : Mod) (seen : Bool) (p : Nat) : Mod :=
  let (a, b) := m.pairDis p
  let q := m.saf.pairs.getD p Pair.reset
  let put (m : Mod) (f : Pair → Pair) : Mod := m.onSaf (fun s => { s with pairs := upd s.pairs p f })
  if 64 ≤ a ∨ 64 ≤ b then m
  else if m.diStale a || m.diStale b || (m.di a).testFailed || (m.di b).testFailed then
    if q.latched then m else put m (fun q => { q with reed := 3, bore := 3 })
  else
    let u := m.diActive a
    let v := m.diActive b
    let w := if m.p P.safetyPairMode p = 1 then !v else v
    if u = w then
      if q.latched then
        if u then m
        else (put m (fun _ => ⟨0, 0, some (u, v), 0, false⟩)).raise 0x4006 p []
      else put m (fun q => { q with reed := b2n u, bore := b2n u, agreed := some (u, v), cnt := 0 })
    else if q.latched then m
    else put m (fun q => { q with reed := 3, bore := 3, cnt := if seen then q.cnt + 1 else q.cnt })

/-- What follows the pairs' readings: the grants (R258), the loops (R326, R92), the evacuation sources (R85). -/
def Mod.pairsFollow (m : Mod) : Mod :=
  let m := if m.alive then (m.checkGrant .L).checkGrant .R else m
  let m := m.loopEval
  if m.alive then
    let m := m.evalEvac
    if m.md = .dormant ∧ m.mode.wake.isNone ∧ m.evacuating then
      m.onMode (fun x => { x with wake := some .evacuation })
    else m
  else m

/-! ### The step's protection (R338) -/

/-- Advance of a step toward POS1 in um between two shadow counts. -/
def Mod.stepAdvance (m : Mod) (p i : Nat) (c0 c1 : Int) : Int :=
  match m.posUm p 2 0, m.posUm p 2 1 with
  | some a, some b => m.um i (m.posOf i c1 - m.posOf i c0) * sgn (b - a)
  | _, _ => 0

/-- The Bore channel watches a portal's step while it reads zero speed inactive; the count is that at which zero speed
fell. A counter that is discontinuous shows nothing. -/
def Mod.stepDeploy (m : Mod) (p : Nat) : Mod :=
  match (if m.enabled p then m.roleAxis p 2 else none) with
  | some i =>
    let sh := (m.axis i).shadow
    if m.zeroSpeed true || (m.axis i).shadowDisc then
      m.onSaf (fun s => { s with stepRef := upd s.stepRef p (fun _ => none) })
    else
      let ref := (m.saf.stepRef.getD p none).getD sh
      let m := m.onSaf (fun s => { s with stepRef := upd s.stepRef p (fun _ => some ref) })
      let adv := m.stepAdvance p i ref sh
      if m.p P.stepDeployTol p < adv && !(m.stoOf (i / 4)).bore.contains 10 then
        (m.raise 0x4012 i [p, adv]).trip (i / 4) 10
      else m
  | none => m

/-- INPUT_SAMPLE (R359 to R363, R366 to R368): the raw states of the 64 inputs at the next sample instant.
 (Assumption 95 DEDUCED) -/
def execInputSample (raw : List Bool) (s : State) : Out :=
  s.pow (fun m =>
    let m := m.onIo (fun x => { x with phase := m.windowPhase })
    let t := m.sampleNext
    let m := (m.advance t).onIo (fun x => { x with sampleAt := t, windows := (x.windows + 1) % 65536 })
    let seen (i : Nat) : Bool := m.sampled t i
    let m := (upto 64).foldl (fun m i => m.sampleInput t i (raw.getD i false)) m
    let m := (upto 16).foldl (fun m p =>
      let (a, b) := m.pairDis p
      m.pairEval (seen a && seen b) p) m
    let m := m.pairsFollow
    m.portals.foldl Mod.stepDeploy m)

/-- INPUT_STUCK_SUSPECT (R364): an input without a test source, active for DI_MAX_ACTIVE. -/
def execInputStuckSuspect (i : Nat) (s : State) : Out :=
  s.live (fun m =>
    let d := m.di i
    let lim := m.pn P.diMaxActive i
    match d.activeAt with
    | some t =>
      if lim ≠ 0 ∧ m.pn P.diTestSource i = 0 ∧ !d.suspect then
        ((m.advance (t + lim * SEC)).onDi i (fun d => { d with suspect := true })).raise 0x5006 i [lim]
      else m
    | none => m)

/-! ### The field links (R369 to R373, R580) -/

/-- The token a frame echoes is one of the last four sent: not older than that of 60 us before (R580).
 (Assumption 12 DESIGN CHOICE) -/
def Mod.echoFresh (m : Mod) (die e : Nat) : Bool :=
  let n := (m.die die).tokPos
  (upto 4).any (fun k => decide (k ≤ n) && decide (Config.token (n - k) = e))

/-- The readings of one upstream frame: samples, edges, currents, feeds. (Assumption 94 DEDUCED) -/
def Mod.upReadings (m : Mod) (die : Nat) (f : UpFrame) : Mod :=
  let m := m.onDie die (fun d => { d with
    seq := f.seq, sampleIdx := f.sampleIdx, rawNew := f.rawNew, rawPrev := f.rawPrev, testFlags := f.testFlags,
    lsOut := f.lsOut, lsFlags := f.lsFlags, temp := f.temp, echo := f.tokenEcho, resumes := f.resumes })
  let m := (upto 4).foldl (fun m k => match f.edges[k]? with
    | some o => m.onEdge (4 * die + k) (fun x => { x with ohm := o })
    | none => m) m
  let m := (upto 3).foldl (fun m k => match f.currents[k]? with
    | some c =>
      let n := 12 * die + 3 * (f.slot % 4) + k
      if m.lsReports n then m.onLs n (fun x => { x with ma := c }) else m
    | none => m) m
  (upto 2).foldl (fun m k => match f.feeds[k]? with
    | some v => m.onFeed (2 * die + k) (fun x => { x with volt := v })
    | none => m) m

/-- The downstream direction as the echo shows it (R580). (Assumption 93 DEDUCED) -/
def Mod.downSeen (m : Mod) (die : Nat) (f : UpFrame) : Mod :=
  let d := m.die die
  let fresh := decide (d.tokPos = 0) || m.echoFresh die f.tokenEcho
  if fresh then
    let m := m.onDie die (fun d => { d with lag := 0, fsTaken := d.fsTaken && f.failsafe })
    let m := if d.downLost then
        (m.onDie die (fun d => { d with downLost := false })).raise 0x5002 die
          [die, 2, ((m.raw - d.downLostAt) / US : Nat)]
      else m
    m.lsDriveAll
  else
    let m := m.onDie die (fun d => { d with lag := min (d.lag + 1) 3 })
    if decide (3 ≤ d.lag + 1) && !d.downLost then
      let m := m.onDie die (fun d => { d with downLost := true, downLostAt := m.raw, fsTaken := true })
      ((m.raise 0x5001 die [die, 2]).faultBit (6 + die)).lsDriveAll
    else m

/-- FIELD_WATCHDOG_FAILSAFE once per fall-back that the die's status shows (R373). (Assumption 93 DEDUCED) -/
def Mod.dieStatus (m : Mod) (die : Nat) (failsafe : Bool) : Mod :=
  let seen := (m.die die).wdogSeen
  let m := m.onDie die (fun d => { d with wdogSeen := failsafe })
  if failsafe && !seen then m.raise 0x5003 die [die] else m

/-- FIELD_UPSTREAM_FRAME (R369, R371, R372, R580). (Assumption 93 DEDUCED) -/
def execFieldUpstreamFrame (die : Nat) (f : UpFrame) (s : State) : Out :=
  s.live (fun m =>
    if 2 ≤ die then m
    else if f.ok then
      let d := m.die die
      let m := m.onDie die (fun d => { d with upLost := 0, upGood := min (d.upGood + 1) 3 })
      let back := d.stale && decide (3 ≤ d.upGood + 1)
      let m := if back then
          (m.onDie die (fun d => { d with stale := false })).raise 0x5002 die [die, 1, ((m.raw - d.staleAt) / US : Nat)]
        else m
      let m := ((m.upReadings die f).downSeen die f).dieStatus die f.failsafe
      if back then ((upto 16).foldl (fun m p => m.pairEval false p) m).pairsFollow else m
    else m.onDie die (fun d => { d with upLost := min (d.upLost + 1) 3, upGood := 0 }))

/-- The safety die inserts tokens: not during a control-die reset, nor after the loss of both channels (R371).
 (Assumption 12 DESIGN CHOICE) -/
def Mod.tokens (m : Mod) : Bool := m.alive && !(m.saf.reedLost.isSome && m.saf.boreLost.isSome)

/-- FIELD_DOWNSTREAM_FRAME (R370, R371, R373): a valid frame brings the commanded states; five in a row with RESUME
end the die's fall-back. (Assumption 97 DEDUCED) -/
def execFieldDownstreamFrame (die : Nat) (ok : Bool) (s : State) : Out :=
  s.pow (fun m =>
    if 2 ≤ die then m
    else
      let m := m.onDie die (fun d => { d with
        downSeq := (d.downSeq + 1) % 256, cfgAddr := (d.cfgAddr + 1) % 4096,
        tokPos := if m.tokens then d.tokPos + 1 else d.tokPos })
      if ok && m.tokens then
        let resume := m.started
        let m := m.onDie die (fun d =>
          let g := if d.wdog && resume then d.good + 1 else 0
          { d with lastDown := m.raw, good := if 5 ≤ g then 0 else g, wdog := d.wdog && decide (g < 5) })
        (dieLs die).foldl (fun m n => (m.onLs n (fun c => { c with dieCmd := c.cmd })).lsDrive n) m
      else m.onDie die (fun d => { d with good := 0 }))

/-- FIELD_LINK_STALE (R372, R312, R466, R503): the third lost frame in a row. (Assumption 94 DEDUCED) -/
def execFieldLinkStale (die : Nat) (s : State) : Out :=
  s.live (fun m =>
    if die < 2 ∧ !(m.die die).stale then
      let m := m.onDie die (fun d => { d with stale := true, staleAt := m.raw, upLost := 3, upGood := 0, lag := 0 })
      let m := (m.raise 0x5001 die [die, 1]).faultBit (6 + die)
      let m := ((upto 16).foldl (fun m p => m.pairEval false p) m).pairsFollow
      let m := m.tear (fun n => (m.ls n).timed.isSome)
      if m.twinActive then (m.relinquish 2).1 else m
    else m)

/-- FIELD_WATCHDOG_FAILSAFE (R373, R387): 60 us without a valid frame; a timed command is discarded.
 (Assumption 93 DEDUCED) -/
def execFieldWatchdogFailsafe (die : Nat) (s : State) : Out :=
  s.pow (fun m =>
    if die < 2 ∧ !(m.die die).wdog then
      let m := m.advance ((m.die die).lastDown + 60 * US)
      let m := m.onDie die (fun d => { d with wdog := true, good := 0 })
      let m := (dieLs die).foldl (fun m n => (m.onLs n (fun c => { c with timed := none })).lsDrive n) m
      m.raise 0x5012 die [2]
    else m)

end Sys2Proof.Machine
end

