-- ==== Sys2Proof/Machine/Mirror.lean ====
section
/-! DEFINITION. The mirror frame that the ACTIVE sends at each tick boundary (R495): its content from the state, and its
numbers in order on the ligature. -/
namespace Sys2Proof.Machine

/-! ### Content (R495) -/

/-- The stop a plan is in: 0 none, 1 stop, 2 fault stop, 3 Safe Stop. -/
def stopNo : Option StopWhy → Nat
  | none => 0
  | some (.fault _) => 2
  | some .safeStop => 3
  | some _ => 1

/-- The running plan of an axis; its start is that of the move, which a change of the plan leaves (R504). -/
def Mod.mirPlan (m : Mod) (i : Nat) (mv : Move) : MirPlan where
  start := (m.obst i).planAt / 65536
  target := mv.target
  speed := mv.lim.v
  accel := mv.lim.a
  decel := mv.lim.d
  jerk := mv.lim.j
  tag := mv.tag
  seg := mv.segs.length - (segsLeft mv.segs (m.raw * 65536 - mv.start)).length
  stop := stopNo mv.stop
  next := mv.next.map (fun x => x.target)

def Mod.mirAxis (m : Mod) (i : Nat) : MirAxis :=
  let a := m.axis i
  { pcmd := a.pcmd, penc := m.pEnc i, vel := a.vel, acc := m.cmdAcc i, addr := a.addr, lead := a.lead, amp := a.amp,
    rmsA := a.A.rms2, rmsB := a.B.rms2, torque := a.torque, plan := a.mv.map (m.mirPlan i), homeRef := a.homeRef,
    posOrigin := a.posOrigin, fault := a.fault }

def Tmr.mir : Tmr → Option Nat
  | .idle => none
  | .running t => some t
  | .expired => some 0

def Mod.mirPortal (m : Mod) (p : Nat) : MirPortal :=
  let q := m.portal p
  { state := q.state, stepState := q.stepState, openReq := q.openReq, openPress := q.openPress,
    closePress := q.closePress, reversals := q.reversals, obstacle := q.obstacle, obstReact := q.obstReact,
    probe := q.probe, timers := q.timers.map Tmr.mir, armed := q.armed, user := q.user, prev := q.prev.getD [] }

def mirCtx (no : Nat) (x : Ctx) : MirCtx where
  no := no
  st := x.st
  reusable := x.reusable
  acts := x.acts
  tags := x.tags
  fab := x.fab
  c := x.c
  v := x.v
  q := x.q
  coord := x.coord
  key := x.key
  addr := x.addr
  parts := x.parts
  votes := x.votes
  decision := x.decision
  final := x.final
  order := x.order
  table := x.table

/-- The contexts the next frame carries: those that changed since they were last carried, as far as they fit.
 (Assumption 111 DEDUCED) -/
def Mod.ctxDue (m : Mod) : List Nat :=
  let due := (upto m.txn.ctx.length).filter (fun c => decide (m.txn.ctx[c]? ≠ m.tw.ctxSent[c]?))
  due.take (1 + Config.mirrorFits m.tw.mirSeqTx)

/-- A safety trip stands on a group: an axis of it is latched with cause 5 (R315). -/
def Mod.tripped (m : Mod) (g : Nat) : Bool := (upto 4).any (fun k => decide ((m.axis (4 * g + k)).fault = some 5))

/-- (Assumption 111 DEDUCED) -/
def Mod.mirFrame (m : Mod) : MirFrame where
  crcOk := true
  tick := m.raw
  seq := m.tw.mirSeqTx
  mode := m.md.num
  axes := (upto 16).map m.mirAxis
  portals := (upto 4).map m.mirPortal
  grants := (m.side.L.grant, m.side.R.grant)
  stos := (upto 4).map (fun g => (m.stoOf g).applied)
  trips := (upto 4).map m.tripped
  ls := m.io.ls.map (fun c => c.cmd)
  timed := m.io.ls.map (fun c => c.timed)
  loopsLatched := (m.saf.loops.L.latched, m.saf.loops.R.latched)
  ctxs := m.ctxDue.map (fun c => mirCtx c (m.ctx c))
  tests := m.io.di.map (fun d => d.testFailed)

/-! ### As numbers -/

/-- An optional item: 0, or 1 and the item. -/
def optInts {α : Type} (f : α → List Int) : Option α → List Int
  | none => [0]
  | some x => 1 :: f x

/-- A list: its length and its items. -/
def listInts {α : Type} (f : α → List Int) (l : List α) : List Int := (l.length : Int) :: (l.map f).flatten

def natInts (n : Nat) : List Int := [(n : Int)]
def boolInts (b : Bool) : List Int := [(b2n b : Int)]

def planInts (x : MirPlan) : List Int :=
  [(x.start : Int), x.target, (x.speed : Int), (x.accel : Int), (x.decel : Int), (x.jerk : Int), (x.tag : Int), (x.seg : Int),
    (x.stop : Int)] ++ optInts (fun n => [n]) x.next

def axisInts (x : MirAxis) : List Int :=
  [x.pcmd, x.penc, x.vel, x.acc, (x.addr : Int), x.lead, (x.amp : Int), (x.rmsA : Int), (x.rmsB : Int), (b2n x.torque : Int),
    x.homeRef, x.posOrigin] ++ optInts natInts x.fault ++ optInts planInts x.plan

def portalInts (x : MirPortal) : List Int :=
  let w : List Nat := [x.state, x.stepState, b2n x.openReq, x.openPress, x.closePress, x.reversals, x.obstacle,
    x.obstReact, x.probe]
  w.map (fun (n : Nat) => (n : Int)) ++ listInts (optInts natInts) x.timers ++ listInts boolInts x.armed
    ++ x.user ++ listInts (fun y => [(y.1 : Int), (y.2.1 : Int), y.2.2]) x.prev

def actInts (a : Action) : List Int := ((actFields a).map (fun x => [(x.1 : Int), (x.2.1 : Int), (x.2.2.1 : Int), (x.2.2.2 : Int)])).flatten

def keyInts (k : TxnKey) : List Int := [(k.coord : Int), (k.epoch : Int), (k.serial : Int)]

def ctxInts (x : MirCtx) : List Int :=
  [(x.no : Int), (x.st : Int), (b2n x.reusable : Int), x.c, x.v, x.q, (b2n x.coord : Int), (x.addr : Int), (b2n x.final : Int),
    (x.order : Int)]
    ++ listInts actInts x.acts ++ listInts natInts x.tags
    ++ listInts (fun f => [(f.kind : Int), (f.w7 : Int), f.w8]) x.fab
    ++ optInts keyInts x.key ++ listInts natInts x.parts
    ++ listInts (fun v => [(v.1 : Int), (b2n v.2.1 : Int), (v.2.2 : Int)]) x.votes
    ++ optInts boolInts x.decision ++ optInts natInts x.table

/-- The fields of a mirror frame in the order of R495; its CRC-32 is not among them. (Assumption 111 DEDUCED) -/
def frameInts (f : MirFrame) : List Int :=
  [(f.tick : Int), (f.seq : Int), (f.mode : Int)]
    ++ listInts axisInts f.axes ++ listInts portalInts f.portals
    ++ boolInts f.grants.1 ++ boolInts f.grants.2 ++ listInts boolInts f.stos ++ listInts boolInts f.trips
    ++ listInts natInts f.ls ++ listInts (optInts (fun t => [(t.1 : Int), (t.2 : Int)])) f.timed
    ++ boolInts f.loopsLatched.1 ++ boolInts f.loopsLatched.2
    ++ listInts ctxInts f.ctxs ++ listInts boolInts f.tests

/-- Send the frame of this tick and note the contexts it carried. -/
def Mod.mirrorSend (m : Mod) : Mod :=
  let m := m.onTw (fun t => { t with mirSeqTx := t.mirSeqTx + 1 })
  let due := m.ctxDue
  let m := m.sendTwin 8 0 (frameInts m.mirFrame)
  m.onTw (fun t => { t with ctxSent := (upto m.txn.ctx.length).map (fun c =>
    if due.contains c then m.ctx c else t.ctxSent.getD c Ctx.reset) })

end Sys2Proof.Machine
end

