-- ==== Sys2Proof/Machine/Tick.lean ====
section
/-! DEFINITION. PROFILE_TICK, the 100 us tick boundary (R201): what the encoders show, the generators, the sequence
tables, the per-tick checks of drive, motion and safety, and the mirror frame. -/
namespace Sys2Proof.Machine

/-! ### Measurements -/

/-- The boundary this tick stands for: the next one, or, when it has passed, the next multiple of 100 us.
 (Assumption 19 DESIGN CHOICE) -/
def Mod.tickInstant (m : Mod) : Nat := (max m.raw m.tickAt + 19999) / 20000 * 20000

/-- Speed in um/s of a history of counts over 1 ms, newest first (R317). (Assumption 87 DEDUCED) -/
def Mod.histSpeed (m : Mod) (i : Nat) (l : List Int) : Int :=
  (m.um i (m.posOf i (l.getD 0 0) - m.posOf i (l.getD 10 (l.getLastD 0)))).natAbs * 1000

/-- The counts of one axis, the two histories of the last millisecond, and the window of R314. An SSI axis takes
its position from its frames; a control die in reset takes the shadow's count, which goes on (R97, R181).
 (Assumption 63 DEDUCED) -/
def Mod.takeCount (m : Mod) (inp : TickIn) (i : Nat) : Mod :=
  let ssi := decide (m.p P.encType i = 2)
  let b := if ssi then (m.axis i).shadow else inp.shadows.getD i (m.axis i).shadow
  let m := if ssi then m
    else if m.alive then
      (m.decode i (inp.enc.getD i [])).onAx i (fun a => { a with count := a.quad.n, countAt := m.raw, shadow := b })
    else m.onAx i (fun a => { a with count := b, countAt := m.raw, quad := { a.quad with n := b }, loopCount := b, shadow := b })
  let c := (m.axis i).count
  let moved := decide (1000 ≤ (m.um i (m.posOf i b - m.posOf i (m.safAx i).stillRef)).natAbs)
  let m := m.onSafAx i (fun x => { x with
    hist := (c :: x.hist).take 11, histB := (b :: x.histB).take 11,
    stillRef := if moved then b else x.stillRef, stillAt := if moved then m.raw else x.stillAt })
  let lim := m.p P.ssStandstillSpeed 0
  let x := m.safAx i
  let slow := decide (m.histSpeed i x.hist < lim) && ((m.axis i).shadowDisc || decide (m.histSpeed i x.histB < lim))
  m.onSafAx i (fun x => { x with standAt := if slow then some (x.standAt.getD m.raw) else none })

/-! ### Values and tables that wait for a tick (R8, R162, R163, R248) -/

/-- The instance of a definition is at rest, so that a value waiting for rest is taken at this tick. -/
def Mod.restFor (m : Mod) (d : PDef) (i : Nat) : Bool :=
  match d.eff with
  | .tick => true
  | .axisRest => !m.moving i
  | .portalRest => m.portalRest (if d.inst = .pos then i / 16 else i)
  | _ => false

/-- A selected user table that cannot be used. -/
def Mod.badTable (m : Mod) (i : Nat) : Bool := decide (m.sel i ≠ 0) && ((m.axis i).userTab (m.sel i)).isNone

/-- The selection of a fingering table takes effect; an axis on the fall-back takes a table that has become valid. -/
def Mod.takeSel (m : Mod) (hit : List Nat) (i : Nat) : Mod :=
  if hit.contains i then
    let bad := m.badTable i
    let m := m.onAx i (fun a => { a with fellBack := bad })
    if bad then m.raise 0x1010 i [m.sel i] else m
  else if (m.axis i).fellBack && !m.moving i && !m.badTable i then m.onAx i (fun a => { a with fellBack := false })
  else m

def Mod.takeWaiting (m : Mod) : Mod :=
  let hit := (m.due.filterMap (fun (kv : Nat × Int) =>
    if kv.1 / 65536 = P.fingeringTable.id ∧ !m.moving (kv.1 % 65536) then some (kv.1 % 65536) else none))
  let m := m.takeDue m.restFor
  let m := m.axes.foldl (fun m i => m.takeSel hit i) m
  let m := m.portals.foldl (fun m p => match (m.portal p).held with
    | some t => if m.portalRest p then m.tableTake p t else m
    | none => m) m
  -- POINT_WRITE holds from the next tick boundary (R454)
  m.onFab (fun x => { x with
    host := x.hostNext.foldl (fun h (w : Nat × Int) => upd h (w.1 - 0x180) (fun _ => w.2)) x.host, hostNext := [] })

/-! ### Portals (R241, R244) -/

/-- The state from sensors where no table is evaluated; the leaf probes of a learn run go on.
 (Assumption 79 DEDUCED) -/
def Mod.refreshPortal (m : Mod) (p : Nat) : Mod :=
  let was := m.ob.ax
  let m := m.fromSensors p
  let m := if m.learning p then
      { m with ob := { m.ob with ax := (m.ob.ax.zip was).map (fun (x : Obst × Obst) =>
          { x.1 with probe := x.2.probe, ditherAt := x.2.ditherAt }) } }
    else m
  m.publish p

/-- The axis began a plan since a number of moves was counted. -/
def Mod.begun (m : Mod) (i n : Nat) : Bool := decide (m.recd.life.getD (lifeAxis i 0) 0 ≠ n)

/-- One axis at a tick: its generator and homing, then the supervision of R275 to R293. -/
def Mod.axisTick (m : Mod) (i : Nat) : Mod :=
  let n := m.recd.life.getD (lifeAxis i 0) 0
  let was := m.moving i
  let m := ((m.tempTick i).genTick i).homeTick i
  let m := m.inPosTick i
  let m := m.obstTick i
  let m := match m.roleOf i with
    | some (p, r) =>
      if r < 2 then m.probeTick i
      else if r = 2 then m.stepTick p was (m.begun i n) else m
    | none => m
  m.ampUpdate i

/-- A portal at a tick, in the order of R244; a SHADOW beside its peer keeps the mirrored state (R493). -/
def Mod.portalTick (m : Mod) (p : Nat) : Mod :=
  let moves := (upto 16).map (fun i => m.recd.life.getD (lifeAxis i 0) 0)
  let m := ((upto 4).map (fun k => 4 * p + k)).foldl Mod.axisTick m
  let edges := (m.edgesDue (fun i => m.begun i (moves.getD i 0))).filter (fun e => (m.edgeLeaf e).any (fun i => decide (i / 4 = p)))
  if m.enabled p then
    let m := (m.probeCombine p).lockTick p
    let m := (m.ob.learn.filter (fun l => decide (l.p = p))).foldl Mod.learnTick m
    let m := if m.md.tables then (m.fixedStep p).scan p
      else if m.md = .shadow ∧ m.tw.pairFormed ∧ m.tw.heart then m.publish p
      else m.refreshPortal p
    let m := m.edgeTick p edges
    let m := if (m.roleAxis p 2).isNone then m.stepTick p false false else m
    m.cycTick p
  else (m.onPo p (fun q => { q with state := 0xFF })).publish p

/-! ### Drive checks (R188, R190 to R192) -/

/-- Ticks outside DEV_WINDOW; AXIS_STALL declares. The end-stop criterion replaces it in a homing search, and without
torque no position is held. (Assumption 140 DEDUCED) -/
def Mod.stallTick (m : Mod) (i : Nat) : Mod :=
  let a := m.axis i
  let out := decide (toSteps (m.scale i) (m.p P.devWindow i) < ((m.err i).natAbs : Int))
  if a.torque && !a.coast && !a.encBad && !a.endStopPhase && out then
    m.onAx i (fun a => { a with stallTicks := a.stallTicks + 1 })
  else m.onAx i (fun a => { a with stallTicks := 0, stallHeld := false })

/-- ENC_CROSSCHECK on the third tick; the Bore channel's view is lost, or the Reed channel's when the control die's
count was faulty in the last second (R341). Encoders are the sensors 0x20 to 0x2F. No comparison is made while one side is
known to be without a valid count. (Assumption 141 DEDUCED) -/
def Mod.crossTick (m : Mod) (i : Nat) : Mod :=
  let a := m.axis i
  if !a.encBad && !a.shadowDisc && decide (m.p P.encCrossTol i < ((a.count - a.shadow).natAbs : Int)) then
    let m := m.onAx i (fun a => { a with cross := min (a.cross + 1) 4 })
    if a.cross = 2 then
      let m := m.raise 0x100C i [a.count, a.shadow]
      let late (t : Nat) : Bool := decide (m.raw ≤ t + SEC)
      let reed := (a.idxBadAt.map late).getD false || (decide (a.encBadAt ≠ 0) && late a.encBadAt)
      m.loseView (!reed) (0x20 + i)
    else m
  else m.onAx i (fun a => { a with cross := 0 })

/-- LOST_STEP (R192): once, until the error is below 512 microsteps again. (Assumption 69 DEDUCED) -/
def Mod.lostTick (m : Mod) (i : Nat) : Mod :=
  let a := m.axis i
  let e := m.err i
  if a.torque && !a.encBad && m.openLoop i && decide (512 ≤ e.natAbs) then
    if a.lost then m
    else
      let n := roundDiv e 1024
      (m.onAx i (fun a => { a with lost := true })).raise 0x1002 i [if n = 0 then sgn e else n]
  else m.onAx i (fun a => { a with lost := false })

/-! ### Safety checks (R314, R317, R336, R338) -/

/-- The envelope speed in um/s at an instant (R317). (Assumption 87 DEDUCED) -/
def Mod.envelope (m : Mod) (i t0 : Nat) (v0 : Int) : Int :=
  let d := m.pn P.ssEnvDelay 0 * MS
  let top := v0 + m.p P.ssSpeedTol i
  if m.raw < t0 + d then top
  else max 0 (top - m.p P.ssEnvDecel i * ((m.raw : Int) - t0 - d) / (SEC : Int))

/-- One axis against its envelope: a crossing on two consecutive checks of either channel is a safety trip. For an axis
whose encoder has failed the Reed channel checks the stop plan (R319). (Assumptions 85 DEDUCED, 87 DEDUCED) -/
def Mod.envTick (m : Mod) (i : Nat) : Mod :=
  let x := m.safAx i
  match x.mon with
  | none => m
  | some k =>
    let a := m.axis i
    let vr : Int := if a.encBad then (ofQ (m.scale i) a.vel.natAbs : Nat) else m.histSpeed i x.hist
    let vb := m.histSpeed i x.histB
    let nr := if m.envelope i k.t0 k.v0R < vr then k.overR + 1 else 0
    let nb := match k.v0B with
      | some v0 => if m.envelope i k.t0 v0 < vb && !a.shadowDisc then k.overB + 1 else 0
      | none => 0
    let m := m.onSafAx i (fun x => { x with mon := some { k with overR := nr, overB := nb } })
    if 2 ≤ nr ∨ 2 ≤ nb then
      let g := i / 4
      let m := m.raise 0x400B i [if 2 ≤ nr then 0 else 1, if 2 ≤ nr then vr else vb]
      let m := (upto 4).foldl (fun m j => m.onSafAx (4 * g + j) (fun x => { x with mon := none })) m
      (m.onSaf (fun f => { f with ss := upd f.ss g (fun _ => false) })).trip g 7
    else m

/-- A position in microsteps lies outside LOCK_ZONE around the lock's POS0. (Assumption 90 DEDUCED) -/
def Mod.outOfZone (m : Mod) (p i : Nat) (x : Int) : Bool :=
  match m.posUm p 3 0 with
  | some z => decide (m.p P.lockZone p < ((m.hostPos i x - z).natAbs : Int))
  | none => false

/-- Lock-zone supervision (R336): the exit counts, and only a referenced lock is supervised.
 (Assumption 90 DEDUCED) -/
def Mod.zoneTick (m : Mod) (p : Nat) : Mod :=
  match (if m.enabled p then m.roleAxis p 3 else none) with
  | none => m
  | some i =>
    let a := m.axis i
    let was := m.saf.lockOut.getD p false
    let oR := m.outOfZone p i (m.pEnc i)
    let oB := !a.shadowDisc && m.outOfZone p i (m.posOf i a.shadow)
    let out := !a.referenced || oR || oB
    let m := m.onSaf (fun f => { f with lockOut := upd f.lockOut p (fun _ => out) })
    let r := m.saf.rel.get (m.sideOf p)
    let reed := oR && !r.reed
    let bore := oB && !r.bore
    if m.md.active && a.referenced && !was && (reed || bore) && !(m.stoOf (i / 4)).applied then
      (m.raise 0x4011 i [p, if reed then 0 else 1]).trip (i / 4) 9
    else m

/-- A cause of R313 still stands on group `g`. (Assumptions 75 DEDUCED, 86 DEDUCED) -/
def Mod.stands (m : Mod) (g c : Nat) : Bool :=
  let st := (m.portal g).state
  match c with
  | 1 => !m.modeTorque && decide (m.md ≠ .shadow)
  | 2 => decide (st = 9)
  | 3 => decide (st = 8)
  | 4 => (upto 4).any (fun k => decide ((m.axis (4 * g + k)).fault = some 1))
  | 5 => decide (m.md = .starting)
  | 6 => decide (m.md = .shadow) || !m.modeTorque || decide (st = 8) || decide (st = 9)
  | 11 => m.saf.reedLost.isSome && m.saf.boreLost.isSome
  | 13 => decide (m.md = .shadow) && (upto 4).any (fun k => decide ((m.axis (4 * g + k)).iso = .failed))
  | _ => true

/-- Release of STO (R314). (Assumptions 75 DEDUCED, 85 DEDUCED, 86 DEDUCED) -/
def Mod.stoTick (m : Mod) (g : Nat) : Mod :=
  let t := m.stoOf g
  let r := t.reed.filter (m.stands g)
  let b := t.bore.filter (m.stands g)
  let trips := (upto 4).any (fun k => decide ((m.axis (4 * g + k)).fault = some 5))
  let free := t.applied && r.isEmpty && b.isEmpty && m.still g && !trips
  let back := match t.restoring with
    | some s => if s + 5 * MS < m.raw then none else some s
    | none => none
  let m := m.onSaf (fun f => { f with sto := upd f.sto g (fun _ =>
    ⟨r, b, t.applied && !free, if free then some m.raw else back⟩) })
  if free && (t.reed ++ t.bore).any (fun c => decide (c ≠ 13)) then m.raise 0x4008 g [] else m

/-! ### Isolators and torque (R77, R179, R219, R511) -/

/-- The isolators of one axis follow the mode: they close at the start of a drive unless a phase wire is live, and open
when the mode takes the torque away. A takeover closes its own (R503). (Assumptions 21 DEDUCED, 60 DEDUCED) -/
def Mod.isoTick (m : Mod) (i : Nat) : Mod :=
  let a := m.axis i
  if m.modeTorque then
    if decide (a.iso = .opened) && !a.gateOff && m.tw.closeBy.isNone && decide (m.md ≠ .shadow) then
      match a.hotWire with
      | none => m.onAx i (fun a => { a with iso := .closing })
      | some (w, v) =>
        if m.twinConf then (m.raise 0x100E i [w, v]).latch i 3
        else if m.mode.trigs.contains (.safeHold 4) then m
        else (m.raise 0x900B i [w, v]).trig (.safeHold 4)
    else if decide (a.iso = .closed) && !a.torque && m.mayDrive i && !m.tw.resume.contains i then m.gainTorque i
    else m
  else if m.saf.ss.getD (i / 4) false then m
  else (if a.torque then m.dropTorque i else m).openIso i

/-! ### What a tick leaves for others -/

/-- A word of two 16-bit halves. -/
def half2 (lo hi : Int) : Nat := toBits 16 lo + 65536 * toBits 16 hi

/-- The 72 words of an incident frame; the recorder puts MARK when it takes the frame (R530). -/
def Mod.frameWords (m : Mod) : List Nat :=
  let g (k : Nat) : Bool := (m.stoOf k).applied
  let status := m.md.num + 16 * supNum m.sup.st + 64 * b2n (decide (m.md = .degraded))
    + 256 * b2n m.side.L.released + 512 * b2n m.side.R.released + 1024 * mask 4 g
    + 16384 * b2n m.saf.loops.L.shows + 32768 * b2n m.saf.loops.R.shows
  let ts := m.now
  let head : List Nat := [0, status, (ts % 1000000000).toNat, toBits 32 (ts / 1000000000),
    half2 m.sup.vbus m.sup.tbp,
    (upto 4).foldl (fun w p => w + (m.portal p).state % 256 * 256 ^ p) 0,
    mask 24 (fun n => (m.ls n).out),
    mask 16 (fun k => decide ((m.saf.pairs.getD k Pair.reset).reed = 1))]
  let ax (i : Nat) : List Nat :=
    let a := m.axis i
    let e := clampI (-32768) 32767 (m.err i)
    let flags : Nat := a.amp % 4096 + 4096 * b2n a.torque + 8192 * b2n a.mv.isSome + 16384 * b2n a.fault.isSome
      + 32768 * b2n (decide (a.iso = .closed))
    [toBits 32 a.pcmd, half2 e a.iq, half2 ((m.obst i).fEst.getD 0) flags, toBits 32 (truncDiv a.vel 65536)]
  head ++ ((upto 16).map ax).flatten

/-- The end of a tick: the frame words, the torque time, the published values and the mirror frame. -/
def Mod.tickEnd (m : Mod) : Mod :=
  let m := m.axes.foldl (fun m i => m.onAx i (fun a => if a.torque then { a with onTicks := a.onTicks + 1 } else a)) m
  let words := m.frameWords
  let m := m.onRec (fun r => { r with tickFrame := words })
  let vals := ((upto 512).filter (fun n => decide (m.fab.pub.getD n 0 ≠ 0))).map (fun n => (n, m.ownPoint n))
  let m := m.onFab (fun x => { x with pubVals := vals })
  if m.twinActive && m.tw.pairFormed && decide (m.md ≠ .shadow) then
    m.mirrorSend
  else m

/-- The tick of a living control die. -/
def Mod.fullTick (m : Mod) (inp : TickIn) : Mod :=
  let m := (m.reserveTick inp.power).onSup (fun x => { x with vbus := inp.vbus })
  let m := m.onAxes (fun i a => { a with wires := (inp.wireVolt.drop (4 * i)).take 4 })
  let m := m.takeWaiting.twinTick
  let m := if m.md = .starting ∧ m.start.step = 12 then m.homeNext else m
  let m := m.axes.foldl (fun m i => if m.torqueDue i then m.gainTorque i else m) m
  let m := m.portals.foldl Mod.portalTick m
  let m := m.axes.foldl (fun m i => (((m.stallTick i).crossTick i).lostTick i).envTick i) m
  let m := m.portals.foldl (fun m p => (m.zoneTick p).stepDeploy p) m
  let m := m.loopEval
  let m := (upto 4).foldl Mod.stoTick m
  let m := m.axes.foldl (fun m i => m.isoTick i) m
  m.tickEnd

/-- PROFILE_TICK (R201). While the control die is in reset the Bore channel's own counters go on. -/
def execProfileTick (inp : TickIn) (s : State) : Out :=
  s.pow (fun m =>
    let t := m.tickInstant
    let m : Mod := { m.advance t with tickAt := t + 20000 }
    let m := m.axes.foldl (fun m i => m.takeCount inp i) m
    if m.alive then m.fullTick inp else m)

end Sys2Proof.Machine
end

