-- ==== Sys2Proof/Machine/LongStep.lean ====
section
/-! DEFINITION. LONG_OP_STEP: a step of a long operation ends (R139 to R142), and what its last step brings
(R101, R348, R536, R547, R562). -/
namespace Sys2Proof.Machine

/-- An IN_PROGRESS completion: at most one per 10 ms, into a slot beyond the reservations; a skipped one marks the next
(R134, R141). -/
def Mod.progress (m : Mod) (slot : Nat) (o : LongOp) : Mod :=
  let put (m : Mod) (f : LongOp → LongOp) : Mod := m.onHost (fun x => { x with ops := upd x.ops slot f })
  match o.hdr with
  | none => m
  | some h =>
    let due := match o.lastProg with
      | some t => decide (t + 10 * MS ≤ m.raw)
      | none => true
    if h.noProg || !due || m.isGone h then m
    else if (m.ring h.ring).active && decide (1 ≤ (m.ring h.ring).free) then
      let m := m.writeCpl (m.cplOf h
        { status := if o.skipped then 0x5001 else 0x5000, res := res2 o.steps o.est } false)
      put m (fun o => { o with lastProg := some m.raw, skipped := false })
    else put m (fun o => { o with skipped := true })

/-- What a cancel or a disable ends of an operation's own course (R142, R224, R270). (Assumption 56 DEDUCED) -/
def Mod.longStop (m : Mod) (k : LongKind) : Mod :=
  match k with
  | .home inst portal => m.homeDrop (m.homeAxes inst portal)
  | .learn p => m.learnStop p
  | _ => m

/-- The operation leaves its slot. (Assumption 56 DEDUCED) -/
def Mod.takeOp (m : Mod) (slot : Nat) : Mod :=
  m.onHost (fun x => { x with ops := x.ops.eraseIdx slot })

/-- The records a JOURNAL_READ delivers (R535, R536): from the oldest kept on, as many as its buffer takes; with a corrupt
one, those before it, and that one. -/
def Mod.journalGot (m : Mod) (ring first len : Nat) (r : LongEnd) : List JRec × Option JRec :=
  let j := m.recd.ring (decide (ring = 0))
  let all := (j.recs.filter (fun x => decide (max first j.floor ≤ x.seq))).take (len / 256)
  if r.ok then (all, none) else (all.take r.count, all[(all.take r.count).length]?)

/-- The read ends; a corrupt record is reported. (Assumptions 57 DEDUCED, 116 DEDUCED) -/
def Mod.journalEnd (m : Mod) (h : Option Hdr) (ring first len : Nat) (r : LongEnd) : Mod :=
  let j := m.recd.ring (decide (ring = 0))
  let skipped := if first = 0 then 0 else max first j.floor - first
  let x := m.journalGot ring first len r
  let m := match x.2 with
    | some b => m.raise 0xA008 0 [ring, b.seq]
    | none => m
  let fst : Nat := (x.1.head?.map (fun y => y.seq)).getD 0
  m.completeTo h {
    status := if x.2.isSome || decide (0 < skipped) then 0x0050 else 0, res := res2 fst x.1.length,
    detail := skipped % 65536, buf := (x.1.map JRec.bytes).flatten }

/-- The erase of RESTORE_FACTORY (R101, R231): the user calibration and the configuration; then ASSEMBLY through a warm
start. (Assumption 46 DEDUCED) -/
def Mod.restoreEnd (m : Mod) (h : Option Hdr) : Mod :=
  let m := m.eraseAreas
  let m := m.axes.foldl (fun m i => m.loseRef i 5) m
  let m := m.onMode (fun x => { x with resume := .assembly })
  let m := m.raise 0x4E0F 0 [0]
  (m.completeTo h okReply).dieReset .restoreFactory

/-- The last step of an operation, with its own outcome. Homing and discovery end by the ticks and by DISCOVERY_COMPLETE,
so no step of theirs is a last one; a learn run ends with its writing step. (Assumption 56 DEDUCED) -/
def Mod.longEnd (m : Mod) (slot : Nat) (o : LongOp) (r : LongEnd) (b : Boot) (par : PStore) : Boot × PStore × Mod :=
  match o.kind with
  | .home _ _ => (b, par, m)
  | .discover => (b, par, m)
  | .learn p =>
    (match m.ob.learn.find? (fun l => decide (l.p = p)) with
      | some l => (b, par, m.learnWrite l)
      | none => (b, par, m))
  | .checkValue =>
    let v := m.checkValue par
    let m : Mod := { m.takeOp slot with nv := { m.nv with computed := some v } }
    (b, par, (m.raise 0x4013 0 [(v.toNat : Int)]).completeTo o.hdr { status := 0, res := v.toNat })
  | .restoreFactory => (b, [], (m.takeOp slot).restoreEnd o.hdr)
  | .journalRead ring first len => (b, par, (m.takeOp slot).journalEnd o.hdr ring first len r)
  | .attest body =>
    let report := body ++ Config.slhSign body
    let m := (m.takeOp slot).onSec (fun x => { x with reportCount := sat32 (x.reportCount + 1) })
    let m := m.raise 0xB00D 0 [m.sec.reportCount]
    (b, par, match o.hdr with
      | some h => m.complete h { status := 0, buf := report }
      | none => m.svcAnswer 0xB010 0 (ofLe report : Int))
  | .auth c nonce fresh sig => (b, par, (m.takeOp slot).authEnd c nonce fresh sig)
  | .updateVerify =>
    let x := (m.takeOp slot).verifyEnd b
    (x.1, par, x.2)

/-- The module signs one report at a time (R548). (Assumptions 56 DEDUCED, 103 DEDUCED) -/
def Mod.waits (m : Mod) (slot : Nat) (o : LongOp) : Bool :=
  let sign (o : LongOp) : Bool := match o.kind with
    | .attest _ => true
    | _ => false
  sign o && (m.host.ops.take slot).any sign

/-- The slot whose turn it is (R140): of the operations that do not wait, the one whose last turn lies furthest back.
 (Assumption 56 DEDUCED) -/
def Mod.turnSlot (m : Mod) : Option Nat :=
  (upto m.host.ops.length).foldl (fun (best : Option Nat) k =>
    match m.host.ops[k]?, best.bind (fun b => m.host.ops[b]?) with
    | some o, none => if m.waits k o then best else some k
    | some o, some b => if m.waits k o || decide (b.turn ≤ o.turn) then best else some k
    | none, _ => best) none

/-- Charge work to a class: (SRAM, Reed); a class left without one of its budgets is suspended (R26, R29).
 -/
def Mod.charge (m : Mod) (cls sram reed : Nat) : Mod :=
  let k := cls - 1
  let x := m.gov.left.getD k (0, 0)
  let m := m.onGov (fun g => { g with
    left := upd g.left k (fun y => (y.1 - sram, y.2 - reed)),
    overshoot := upd g.overshoot k (fun y => (max y.1 (sram - x.1), max y.2 (reed - x.2))) })
  if x.1 ≤ sram ∨ x.2 ≤ reed then m.exhaust k else m

/-- Records that class 7 can still copy in this period: 1,250 CORE cycles and 80 port cycles each (R26, R536). -/
def Mod.copyRoom (m : Mod) : Nat :=
  let x := m.gov.left.getD 6 (0, 0)
  min (x.1 / 80) (x.2 / 1250)

/-- The copying that a step of a JOURNAL_READ does, charged to class 7 (R26, R536): at most 1 ms of Reed time (R139), at
most what the class has left. -/
def Mod.journalCopy (m : Mod) (slot : Nat) (o : LongOp) (r : LongEnd) : Mod × LongOp :=
  match o.kind with
  | .journalRead ring first len =>
    let n := min (min 480 m.copyRoom) ((m.journalGot ring first len r).1.length - o.moved)
    let o : LongOp := { o with moved := o.moved + n }
    ((m.charge 7 (80 * n) (1250 * n)).onHost (fun x => { x with ops := upd x.ops slot (fun _ => o) }), o)
  | _ => (m, o)

/-- One step of the operation in a slot, when it is its turn; a signature ends with its 300th step (R548). A registered cancel takes effect at the boundary unless this
was the last step. (Assumptions 56 DEDUCED, 103 DEDUCED) -/
def Mod.longStep (m : Mod) (slot : Nat) (r : LongEnd) (b : Boot) (par : PStore) : Boot × PStore × Mod :=
  match m.host.ops[slot]? with
  | none => (b, par, m)
  | some o0 =>
    if decide (m.turnSlot ≠ some slot) || !m.runs 7 then (b, par, m)
    else
      let o : LongOp := { o0 with steps := o0.steps + 1, turn := m.host.stepNo + 1 }
      let m := m.onHost (fun x => { x with ops := upd x.ops slot (fun _ => o), stepNo := x.stepNo + 1 })
      let y := m.journalCopy slot o r
      let m := y.1
      let o := y.2
      let own : Bool := match o.kind with
        | .home _ _ => false
        | .discover => false
        | .learn p => r.last && m.ob.learn.any (fun l => decide (l.p = p) && decide (l.ph = .write))
        | .journalRead ring first len => r.last && decide ((m.journalGot ring first len r).1.length ≤ o.moved)
        | .attest _ => r.last || decide (300 ≤ o.steps)
        | _ => r.last
      if own then m.longEnd slot o r b par
      else match o.cancel with
        | some d => (b, par, ((m.longStop o.kind).takeOp slot).completeTo o.hdr { status := 0x4002, detail := d })
        | none => (b, par, m.progress slot o)

/-- LONG_OP_STEP (R139 to R142): `slot` counts the running operations from 0, oldest first. -/
def execLongOpStep (slot : Nat) (r : LongEnd) (s : State) : Out :=
  if s.m.alive then
    let x := s.m.longStep slot r s.boot s.par
    s.put x.1 x.2.1 x.2.2
  else .next s

end Sys2Proof.Machine
end

