-- ==== Sys2Proof/Machine/Registers.lean ====
section
/-! DEFINITION. Writes to BAR0 registers (R115 to R118), and the workbench commands of R80 and R82: the loop test and the
configuration file. -/
namespace Sys2Proof.Machine

/-! ### Register writes

A register with a command of its own acts as that command does; the others store their fields. A field without write
access, a reserved field and an offset with no register ignore the write (R116). -/

/-- A write to a ring's set-up word (R125, R126): only ENABLE is taken while the ring is active. -/
def Mod.ringWrite (m : Mod) (i off v : Nat) : Mod :=
  let hi (old : Nat) : Nat := old % 4294967296 + v * 4294967296
  let lo (old : Nat) : Nat := old / 4294967296 * 4294967296 + v / 4096 * 4096
  if off = 0x10 then (if bit v 31 then m.ringEnable i v else m.ringDisable i v)
  else if (m.ring i).active then m
  else if off = 0x00 then m.onRing i (fun r => { r with base := lo r.base })
  else if off = 0x04 then m.onRing i (fun r => { r with base := hi r.base })
  else if off = 0x08 then m.onRing i (fun r => { r with cplBase := lo r.cplBase })
  else if off = 0x0C then m.onRing i (fun r => { r with cplBase := hi r.cplBase })
  else if off = 0x14 then m.onRing i (fun r => { r with evtMask := v % 65536 })
  else if off = 0x1C then m.onRing i (fun r => { r with coalUs := v % 65536 })
  else m

/-- A write to an MSI-X entry (R143). -/
def Mod.msixWrite (m : Mod) (k off v : Nat) : Mod :=
  let on (f : Msix → Msix) : Mod := m.onHost (fun x => { x with msix := upd x.msix k f })
  if off = 0 then on (fun e => { e with addrLo := v / 4 * 4 })
  else if off = 4 then on (fun e => { e with addrHi := v })
  else if off = 8 then on (fun e => { e with data := v })
  else if bit v 0 then on (fun e => { e with mask := true })
  else m.unmask k

/-- A write to the breath-budget block (R145). -/
def Mod.govWrite (m : Mod) (off v : Nat) : Mod :=
  if off < 0x1840 then
    let k := (off - 0x1800) / 8
    let x := field v 0 20
    m.onGov (fun g => { g with
      staged := upd g.staged k (fun (p : Nat × Nat) => if off % 8 = 0 then (x, p.2) else (p.1, x)) })
  else if off = 0x1840 then (if bit v 0 then m.budgetApply else m)
  else if off = 0x1920 then m.overrunClear v
  else m

/-- A write to a CAN port's block (R401): the timing and mode fields take nothing while PORT_EN is 1. -/
def Mod.canWrite (m : Mod) (p off v : Nat) : Mod :=
  let set (f : CanPort → CanPort) : Mod := if (m.canPort p).en then m else m.onCan p f
  if off = 0x00 then set (fun c => { c with nbtp := v &&& 0xFFFF7FFF })
  else if off = 0x04 then set (fun c => { c with dbtp := v &&& 0x009F1FFF })
  else if off = 0x08 then set (fun c => { c with tdcr := c.tdcr &&& 0x007F0000 ||| v &&& 0x00007F7F })
  else if off = 0x0C then (if bit v 31 then m.canEnable p v else m.canDisable p v)
  else if off = 0x28 then
    let m := if bit v 1 then m.canRecover p else m
    if bit v 0 then m.canClear p else m
  else m

/-- A write to the twin block (R513). -/
def Mod.twinWrite (m : Mod) (off v : Nat) : Mod :=
  if off = 0x3800 then m.onTw (fun t => { t with returnInhibit := bit v 0 })
  else if off = 0x3820 ∧ bit v 0 then m.twinClear
  else m

/-- The observation outputs may be driven (R104). (Assumption 52 DEDUCED) -/
def Mod.obsMay (m : Mod) : Bool := m.md.debug && m.debugOn

/-- A write to the observation mux (R105): OBS_EN takes a 1 only while R104 allows output. (Assumption 52 DEDUCED) -/
def Mod.obsWrite (m : Mod) (off v : Nat) : Mod :=
  if off < 0x4010 then
    let k := (off - 0x4000) / 4
    let may := m.obsMay
    let o : Obs := {
      sel := upd m.obs.sel k (fun _ => v % 256)
      en := upd m.obs.en k (fun old => if bit v 8 then old || may else false) }
    { m with obs := o }
  else m

/-- HOST_WDOG_MS: 0, or the nearest limit of 10 to 10,000 ms (R148). (Assumption 52 DEDUCED) -/
def wdogOf (n : Nat) : Nat := if n = 0 then 0 else max 10 (min 10000 n)

/-- A write to the health summary (R148, R150): a change of HOST_HEARTBEAT starts the watchdog's time again.
 (Assumption 52 DEDUCED) -/
def Mod.healthWrite (m : Mod) (off v : Nat) : Mod :=
  if off = 0x5024 then m.clearFaults v
  else if off = 0x5030 then
    (if v = m.host.heartbeat then m
     else m.onHost (fun x => { x with heartbeat := v, wdogSince := m.raw, silentDone := false }))
  else if off = 0x5034 then m.onHost (fun x => { x with
      wdogMs := wdogOf (v % 65536), wdogSince := if x.wdogMs = 0 then m.raw else x.wdogSince })
  else if off = 0x5038 then m.onHost (fun x => { x with irqEn := bit v 31, irqVec := v % 32 })
  else if off = 0x5040 then
    let m := if bit v 0 then m.clearSramCe else m
    if bit v 1 then m.clearRegLocked else m
  else m

/-- One aligned 32-bit write (R116, R118). (Assumption 52 DEDUCED) -/
def Mod.regWrite (m : Mod) (off v : Nat) : Mod :=
  let v := v % 4294967296
  if off % 4 ≠ 0 then m
  else if off = 0x0060 then m.verReq v
  else if off < 0x0400 then m
  else if off < 0x0800 then m.ringWrite ((off - 0x0400) / 32) (off % 32) v
  else if off < 0x0900 then
    (if off % 8 = 0 then m.bellHost ((off - 0x0800) / 8) v else m.bellCpl ((off - 0x0800) / 8) v)
  else if off < 0x1000 then m
  else if off < 0x1200 then m.msixWrite ((off - 0x1000) / 16) (off % 16) v
  else if off < 0x1800 then m
  else if off < 0x2000 then m.govWrite off v
  else if off = 0x2040 then m.capture
  else if off = 0x2870 then (if bit v 0 then m.fabricClear else m)
  else if off < 0x3000 then m
  else if off < 0x3080 then m.canWrite ((off - 0x3000) / 64) (off % 64) v
  else if off < 0x3800 then m
  else if off < 0x4000 then m.twinWrite off v
  else if off < 0x4800 then m.obsWrite off v
  else if off < 0x5000 then m
  else m.healthWrite off v

/-- REGISTER_WRITE (R115, R116): a 64-bit access acts as two, the lower address first; a narrower one is ignored. No
register of the block has the access code RWL, so REG_WRITE_LOCKED_COUNT counts nothing here. -/
def execRegisterWrite (off value bytes : Nat) (s : State) : Out :=
  s.live (fun m =>
    if bytes = 4 then m.regWrite off value
    else if bytes = 8 then (m.regWrite off (value % 4294967296)).regWrite (off + 4) (value / 4294967296)
    else m)

/-! ### The loop test of COMMISSION (R80) -/

/-- LOOP_TEST: one loop closes for at most 10 s. (Assumption 45 DEDUCED) -/
def execLoopTest (side : Side) (s : State) : Out :=
  s.live (fun m =>
    let other : Side := match side with
      | .L => .R
      | .R => .L
    if m.testMay side && (m.saf.loops.get other).test.isNone && (m.saf.loops.get side).test.isNone then
      let was := (m.saf.loops.get side).closed
      (m.onLoop side (fun l => { l with test := some (m.raw + 10 * SEC), reed := true, bore := true })).loopEvent was side 1
    else m)

/-- LOOP_TEST_TIMEOUT: the loop opens at the limit. (Assumption 45 DEDUCED) -/
def execLoopTestTimeout (side : Side) (s : State) : Out :=
  s.live (fun m => match (m.saf.loops.get side).test with
    | some t =>
      let m := m.advance t
      let was := (m.saf.loops.get side).closed
      (m.onLoop side (fun l => { l with test := none, reed := false, bore := false })).loopEvent was side 2
    | none => m)

/-! ### The configuration file (R82) -/

/-- The store a file stands for: what it does not list stands at its default. None where it names an undefined
parameter or an absent instance. (Assumption 44 DEDUCED) -/
def fileStore (part : Part) (l : List (Nat × Nat × Int)) : Option PStore :=
  l.foldl (fun (st : Option PStore) (x : Nat × Nat × Int) => match st, pFind x.1 with
    | some st, some d => if d.inst.has part x.2.1 then some (st.set d x.2.1 x.2.2) else none
    | _, _ => none) (some [])

/-- The table a file gives a portal: blank where it gives none. (Assumption 44 DEDUCED) -/
def fileTable (f : ConfigFile) (p : Nat) : List (List Nat) :=
  match f.tables.find? (fun x => x.1 == p) with
  | some x => x.2
  | none => []

/-- The values and tables of a file as written, on a module at rest: each value is scheduled as a write of it would be.
 (Assumption 44 DEDUCED) -/
def Mod.fileLoaded (m : Mod) (old new : PStore) (f : ConfigFile) : Mod :=
  let m := (old ++ new).foldl (fun m (kv : Nat × Int) => match keyDef kv.1 with
    | some (d, i) => if old.get d i = new.get d i then m else m.paramTaken d i (new.get d i)
    | none => m) m
  let m := m.portals.foldl (fun m p => m.tableHeld p (fileTable f p)) m
  m.canonChanged.calSave.cfgSave

/-- CONFIGURATION_FILE_LOAD (R82): in ASSEMBLY, checked as a whole, all or nothing (a table of an absent portal refuses
the whole file, R2); COMMISSION follows at the next
period boundary. (Assumptions 14 DESIGN CHOICE, 44 DEDUCED) -/
def execConfigurationFileLoad (f : ConfigFile) (s : State) : Out :=
  let m := s.m
  if m.alive ∧ m.md = .assembly ∧ ¬ m.nv.eraseOwed then
    match fileStore m.id.part f.params with
    | some st =>
      if f.tables.any (fun x => !m.portals.contains x.1) then .next s else
      let m' := m.fileLoaded s.par st f
      if (m'.configFault st).isNone then
        s.put s.boot st (m'.trig (.request .commission none))
      else .next s
    | none => .next s
  else .next s

end Sys2Proof.Machine
end

