-- ==== Sys2Proof/Machine/Dispatch.lean ====
section
/-! DEFINITION. The dispatch: one arm per command, each one direct call of that command's meaning. -/
namespace Sys2Proof.Machine

/-- The effect of a command on everything but the queue. -/
def exec (i : Instr) (s : State) : Host.Outcome State Fault Refusal :=
  match i with
  | .lockstepMismatch pair => Sys2Proof.Machine.execLockstepMismatch pair s
  | .pllLockLoss mems => Sys2Proof.Machine.execPllLockLoss mems s
  | .clockRatioWindowEnd count => Sys2Proof.Machine.execClockRatioWindowEnd count s
  | .boreWindowMarker ticks => Sys2Proof.Machine.execBoreWindowMarker ticks s
  | .budgetPeriodBoundary => Sys2Proof.Machine.execBudgetPeriodBoundary s
  | .classBudgetExhausted cls reed ov => Sys2Proof.Machine.execClassBudgetExhausted cls reed ov s
  | .budgetApply => Sys2Proof.Machine.execBudgetApply s
  | .overrunClear mask => Sys2Proof.Machine.execOverrunClear mask s
  | .sramScrub corrected => Sys2Proof.Machine.execSramScrub corrected s
  | .sramUncorrectableError region => Sys2Proof.Machine.execSramUncorrectableError region s
  | .supplySag vbus => Sys2Proof.Machine.execSupplySag vbus s
  | .supplyInterrupted vbus svc24 => Sys2Proof.Machine.execSupplyInterrupted vbus svc24 s
  | .dcLinkCollapse => Sys2Proof.Machine.execDcLinkCollapse s
  | .supplyRestored vbus riseAt => Sys2Proof.Machine.execSupplyRestored vbus riseAt s
  | .powerFail vbus => Sys2Proof.Machine.execPowerFail vbus s
  | .holdupReserveLevel => Sys2Proof.Machine.execHoldupReserveLevel s
  | .serviceSupplyLoss vbus => Sys2Proof.Machine.execServiceSupplyLoss vbus s
  | .serviceSupplyBusReturn vbus => Sys2Proof.Machine.execServiceSupplyBusReturn vbus s
  | .holdupExhausted => Sys2Proof.Machine.execHoldupExhausted s
  | .busPowerLimit power => Sys2Proof.Machine.execBusPowerLimit power s
  | .busPowerLowering power => Sys2Proof.Machine.execBusPowerLowering power s
  | .busPowerLimitClear power => Sys2Proof.Machine.execBusPowerLimitClear power s
  | .peakReserveEmpty => Sys2Proof.Machine.execPeakReserveEmpty s
  | .regenClamp vbus => Sys2Proof.Machine.execRegenClamp vbus s
  | .busOvervoltage vbus => Sys2Proof.Machine.execBusOvervoltage vbus s
  | .overvoltageRecovery vbus => Sys2Proof.Machine.execOvervoltageRecovery vbus s
  | .baseplateTempSample t => Sys2Proof.Machine.execBaseplateTempSample t s
  | .encoderSupplyFault conn => Sys2Proof.Machine.execEncoderSupplyFault conn s
  | .logicPowerOn svc24 srstLow => Sys2Proof.Machine.execLogicPowerOn svc24 srstLow s
  | .controlDieReset cause => Sys2Proof.Machine.execControlDieReset cause s
  | .startStep r => Sys2Proof.Machine.execStartStep r s
  | .startComplete => Sys2Proof.Machine.execStartComplete s
  | .startFailed => Sys2Proof.Machine.execStartFailed s
  | .autoRestart => Sys2Proof.Machine.execAutoRestart s
  | .loopVoltageAppears side reedPass borePass => Sys2Proof.Machine.execLoopVoltageAppears side reedPass borePass s
  | .resetLoopHoldExpiry => Sys2Proof.Machine.execResetLoopHoldExpiry s
  | .srstPress afterHigh => Sys2Proof.Machine.execSrstPress afterHigh s
  | .srstStuck => Sys2Proof.Machine.execSrstStuck s
  | .modeRequest h target => Sys2Proof.Machine.execModeRequest h target s
  | .startRequest h => Sys2Proof.Machine.execStartRequest h s
  | .restoreFactory h word => Sys2Proof.Machine.execRestoreFactory h word s
  | .evacuate h set => Sys2Proof.Machine.execEvacuate h set s
  | .dormantWake src pass => Sys2Proof.Machine.execDormantWake src pass s
  | .hostLinkReset cause => Sys2Proof.Machine.execHostLinkReset cause s
  | .hostLinkUp width speed => Sys2Proof.Machine.execHostLinkUp width speed s
  | .hostVerReq value => Sys2Proof.Machine.execHostVerReq value s
  | .ringEnable ring cfg => Sys2Proof.Machine.execRingEnable ring cfg s
  | .ringDisable ring cfg => Sys2Proof.Machine.execRingDisable ring cfg s
  | .ringDrained ring => Sys2Proof.Machine.execRingDrained ring s
  | .doorbellHostIndex ring idx => Sys2Proof.Machine.execDoorbellHostIndex ring idx s
  | .doorbellCplConsumed ring idx => Sys2Proof.Machine.execDoorbellCplConsumed ring idx s
  | .descriptorFetch ring words => Sys2Proof.Machine.execDescriptorFetch ring words s
  | .hostDmaError ring what => Sys2Proof.Machine.execHostDmaError ring what s
  | .interruptCoalesceTimeout ring => Sys2Proof.Machine.execInterruptCoalesceTimeout ring s
  | .msixVectorUnmask k => Sys2Proof.Machine.execMsixVectorUnmask k s
  | .paramRead h dom id inst => Sys2Proof.Machine.execParamRead h dom id inst s
  | .paramWrite h dom id inst value => Sys2Proof.Machine.execParamWrite h dom id inst value s
  | .paramReadBlock h dom tid inst off len => Sys2Proof.Machine.execParamReadBlock h dom tid inst off len s
  | .paramWriteBlock h dom tid inst off data => Sys2Proof.Machine.execParamWriteBlock h dom tid inst off data s
  | .nop h => Sys2Proof.Machine.execNop h s
  | .longOpCancel h ring idx => Sys2Proof.Machine.execLongOpCancel h ring idx s
  | .longOpQuery h ring idx => Sys2Proof.Machine.execLongOpQuery h ring idx s
  | .longOpStep slot r => Sys2Proof.Machine.execLongOpStep slot r s
  | .timeNsRead => Sys2Proof.Machine.execTimeNsRead s
  | .rawLoRead => Sys2Proof.Machine.execRawLoRead s
  | .offsetLoRead => Sys2Proof.Machine.execOffsetLoRead s
  | .timeCapture => Sys2Proof.Machine.execTimeCapture s
  | .healthFaultBitsClear mask => Sys2Proof.Machine.execHealthFaultBitsClear mask s
  | .clearRegLocked => Sys2Proof.Machine.execClearRegLocked s
  | .clearSramCe => Sys2Proof.Machine.execClearSramCe s
  | .hostWatchdogExpiry => Sys2Proof.Machine.execHostWatchdogExpiry s
  | .registerWrite off value bytes => Sys2Proof.Machine.execRegisterWrite off value bytes s
  | .profileTick inp => Sys2Proof.Machine.execProfileTick inp s
  | .currentLoopUpdate ax x enc => Sys2Proof.Machine.execCurrentLoopUpdate ax x enc s
  | .chopperCycle ax phase onTicks reached => Sys2Proof.Machine.execChopperCycle ax phase onTicks reached s
  | .currentNotReached ax phase count => Sys2Proof.Machine.execCurrentNotReached ax phase count s
  | .phaseOvercurrent ax phase ma => Sys2Proof.Machine.execPhaseOvercurrent ax phase ma s
  | .phaseOpen ax phase => Sys2Proof.Machine.execPhaseOpen ax phase s
  | .isolatorClosureConfirmed ax => Sys2Proof.Machine.execIsolatorClosureConfirmed ax s
  | .isolatorOpenConfirmed ax => Sys2Proof.Machine.execIsolatorOpenConfirmed ax s
  | .isolatorFault ax wire => Sys2Proof.Machine.execIsolatorFault ax wire s
  | .encLineBreak ax sig => Sys2Proof.Machine.execEncLineBreak ax sig s
  | .encIllegalTransition ax count => Sys2Proof.Machine.execEncIllegalTransition ax count s
  | .encOverspeed ax count => Sys2Proof.Machine.execEncOverspeed ax count s
  | .encIndexCapture ax count revCounts => Sys2Proof.Machine.execEncIndexCapture ax count revCounts s
  | .ssiFrame ax f => Sys2Proof.Machine.execSsiFrame ax f s
  | .axisStall ax => Sys2Proof.Machine.execAxisStall ax s
  | .holdDelayExpiry ax => Sys2Proof.Machine.execHoldDelayExpiry ax s
  | .driveStatus h ax len => Sys2Proof.Machine.execDriveStatus h ax len s
  | .axisFaultClear h ax passes => Sys2Proof.Machine.execAxisFaultClear h ax passes s
  | .phaseTest h ax => Sys2Proof.Machine.execPhaseTest h ax s
  | .phaseTestDone ax r => Sys2Proof.Machine.execPhaseTestDone ax r s
  | .move h ax m => Sys2Proof.Machine.execMove h ax m s
  | .setMotionLimits h ax l => Sys2Proof.Machine.execSetMotionLimits h ax l s
  | .stop h ax => Sys2Proof.Machine.execStop h ax s
  | .home h inst portal => Sys2Proof.Machine.execHome h inst portal s
  | .jog h ax pos redirect speed => Sys2Proof.Machine.execJog h ax pos redirect speed s
  | .positionRead h ax => Sys2Proof.Machine.execPositionRead h ax s
  | .axisInPosition ax => Sys2Proof.Machine.execAxisInPosition ax s
  | .jogTimeout ax => Sys2Proof.Machine.execJogTimeout ax s
  | .homeAlignHoldEnd ax count => Sys2Proof.Machine.execHomeAlignHoldEnd ax count s
  | .homeEndStopDetected ax => Sys2Proof.Machine.execHomeEndStopDetected ax s
  | .homeConfirmTimeout ax => Sys2Proof.Machine.execHomeConfirmTimeout ax s
  | .homeTimeout ax => Sys2Proof.Machine.execHomeTimeout ax s
  | .portalTimerExpiry p t => Sys2Proof.Machine.execPortalTimerExpiry p t s
  | .lockConfirmTimeout p => Sys2Proof.Machine.execLockConfirmTimeout p s
  | .stepConfirmTimeout p => Sys2Proof.Machine.execStepConfirmTimeout p s
  | .loadTemplate h p n => Sys2Proof.Machine.execLoadTemplate h p n s
  | .portalReset h p => Sys2Proof.Machine.execPortalReset h p s
  | .portalRequest h p close => Sys2Proof.Machine.execPortalRequest h p close s
  | .sideRelease h mask grant => Sys2Proof.Machine.execSideRelease h mask grant s
  | .obstacleForceDetect ax => Sys2Proof.Machine.execObstacleForceDetect ax s
  | .obstacleErrGrowth ax => Sys2Proof.Machine.execObstacleErrGrowth ax s
  | .edgeMeasurement e ohm => Sys2Proof.Machine.execEdgeMeasurement e ohm s
  | .edgeFault e cause => Sys2Proof.Machine.execEdgeFault e cause s
  | .edgePwTestEnd e pass => Sys2Proof.Machine.execEdgePwTestEnd e pass s
  | .edgeFaultCleared e => Sys2Proof.Machine.execEdgeFaultCleared e s
  | .obstacleSupervisionLate ax => Sys2Proof.Machine.execObstacleSupervisionLate ax s
  | .probeDecision ax compliance periods => Sys2Proof.Machine.execProbeDecision ax compliance periods s
  | .profileSaveInterval => Sys2Proof.Machine.execProfileSaveInterval s
  | .profileReloadDone ax ok => Sys2Proof.Machine.execProfileReloadDone ax ok s
  | .learnRun h p => Sys2Proof.Machine.execLearnRun h p s
  | .profileSave h => Sys2Proof.Machine.execProfileSave h s
  | .safetyExchange reed bore => Sys2Proof.Machine.execSafetyExchange reed bore s
  | .inputSample raw => Sys2Proof.Machine.execInputSample raw s
  | .pairDiscrepancy p => Sys2Proof.Machine.execPairDiscrepancy p s
  | .inputStuckSuspect n => Sys2Proof.Machine.execInputStuckSuspect n s
  | .stoDemand g cause chan => Sys2Proof.Machine.execStoDemand g cause chan s
  | .stoReadbackTimeout g presentWhileCut boreMeans => Sys2Proof.Machine.execStoReadbackTimeout g presentWhileCut boreMeans s
  | .safeStopEnd g => Sys2Proof.Machine.execSafeStopEnd g s
  | .sflTrip ax chan ma => Sys2Proof.Machine.execSflTrip ax chan ma s
  | .currentViewLost ax reedMa boreMa => Sys2Proof.Machine.execCurrentViewLost ax reedMa boreMa s
  | .loopClose side chan => Sys2Proof.Machine.execLoopClose side chan s
  | .loopCurrentLimitTrip side => Sys2Proof.Machine.execLoopCurrentLimitTrip side s
  | .loopRetry side => Sys2Proof.Machine.execLoopRetry side s
  | .loopReset h side => Sys2Proof.Machine.execLoopReset h side s
  | .offpulseStart voltL voltR => Sys2Proof.Machine.execOffpulseStart voltL voltR s
  | .offpulseEnd voltL voltR => Sys2Proof.Machine.execOffpulseEnd voltL voltR s
  | .offpulseSuspended => Sys2Proof.Machine.execOffpulseSuspended s
  | .releaseEnableMismatch side => Sys2Proof.Machine.execReleaseEnableMismatch side s
  | .degradedTimeWrite => Sys2Proof.Machine.execDegradedTimeWrite s
  | .degradedLimitReached => Sys2Proof.Machine.execDegradedLimitReached s
  | .checkValueCompute h => Sys2Proof.Machine.execCheckValueCompute h s
  | .pairStatus h => Sys2Proof.Machine.execPairStatus h s
  | .fieldUpstreamFrame die f => Sys2Proof.Machine.execFieldUpstreamFrame die f s
  | .fieldDownstreamFrame die ok => Sys2Proof.Machine.execFieldDownstreamFrame die ok s
  | .fieldLinkStale die => Sys2Proof.Machine.execFieldLinkStale die s
  | .fieldWatchdogFailsafe die => Sys2Proof.Machine.execFieldWatchdogFailsafe die s
  | .lsTimedSwitch n => Sys2Proof.Machine.execLsTimedSwitch n s
  | .lsFlashToggle n => Sys2Proof.Machine.execLsFlashToggle n s
  | .lsLimitTrip n ma => Sys2Proof.Machine.execLsLimitTrip n ma s
  | .lsFuseUpdate n ma => Sys2Proof.Machine.execLsFuseUpdate n ma s
  | .groupCheck g avg => Sys2Proof.Machine.execGroupCheck g avg s
  | .lsOpenLoad n cur => Sys2Proof.Machine.execLsOpenLoad n cur s
  | .lsThermalLatchSet n => Sys2Proof.Machine.execLsThermalLatchSet n s
  | .lsThermalLatchClear n => Sys2Proof.Machine.execLsThermalLatchClear n s
  | .lsRetry n => Sys2Proof.Machine.execLsRetry n s
  | .lsRetryCounterReset n => Sys2Proof.Machine.execLsRetryCounterReset n s
  | .lsSet h n st => Sys2Proof.Machine.execLsSet h n st s
  | .lsClear h n => Sys2Proof.Machine.execLsClear h n s
  | .ioStatus h len => Sys2Proof.Machine.execIoStatus h len s
  | .feedSagOff f volt => Sys2Proof.Machine.execFeedSagOff f volt s
  | .feedRestored f volt => Sys2Proof.Machine.execFeedRestored f volt s
  | .feedAbsent f volt => Sys2Proof.Machine.execFeedAbsent f volt s
  | .canPortEnable p cfg => Sys2Proof.Machine.execCanPortEnable p cfg s
  | .canPortDisable p cfg => Sys2Proof.Machine.execCanPortDisable p cfg s
  | .canBusOffRecover p => Sys2Proof.Machine.execCanBusOffRecover p s
  | .canCounterClear p => Sys2Proof.Machine.execCanCounterClear p s
  | .canTx h p buf a => Sys2Proof.Machine.execCanTx h p buf a s
  | .canTxCancel h p src => Sys2Proof.Machine.execCanTxCancel h p src s
  | .canObjWrite h p obj sendNow data => Sys2Proof.Machine.execCanObjWrite h p obj sendNow data s
  | .canObjRead h p obj len => Sys2Proof.Machine.execCanObjRead h p obj len s
  | .canArbitration p tdc => Sys2Proof.Machine.execCanArbitration p tdc s
  | .canTxAttemptEnd p r => Sys2Proof.Machine.execCanTxAttemptEnd p r s
  | .canRxFrame p f => Sys2Proof.Machine.execCanRxFrame p f s
  | .canBusOffRecovered p => Sys2Proof.Machine.execCanBusOffRecovered p s
  | .canTxdTimeout p => Sys2Proof.Machine.execCanTxdTimeout p s
  | .canPeriodicSend p obj => Sys2Proof.Machine.execCanPeriodicSend p obj s
  | .canStatusFrame p => Sys2Proof.Machine.execCanStatusFrame p s
  | .fabricLinkUp port => Sys2Proof.Machine.execFabricLinkUp port s
  | .fabricLinkLoss port => Sys2Proof.Machine.execFabricLinkLoss port s
  | .fabricHelloSend => Sys2Proof.Machine.execFabricHelloSend s
  | .fabricHelloRx port m => Sys2Proof.Machine.execFabricHelloRx port m s
  | .topologyRecordRx r => Sys2Proof.Machine.execTopologyRecordRx r s
  | .discoveryComplete => Sys2Proof.Machine.execDiscoveryComplete s
  | .fabricFrameArrival port pcp len f => Sys2Proof.Machine.execFabricFrameArrival port pcp len f s
  | .publicationSend cls => Sys2Proof.Machine.execPublicationSend cls s
  | .publicationRx f => Sys2Proof.Machine.execPublicationRx f s
  | .fabricLoadMeasure load1 load2 => Sys2Proof.Machine.execFabricLoadMeasure load1 load2 s
  | .fabricDiscover h => Sys2Proof.Machine.execFabricDiscover h s
  | .pointWrite h pt v => Sys2Proof.Machine.execPointWrite h pt v s
  | .pointRead h pt sel => Sys2Proof.Machine.execPointRead h pt sel s
  | .topologyRead h len => Sys2Proof.Machine.execTopologyRead h len s
  | .sessionOpen h peer => Sys2Proof.Machine.execSessionOpen h peer s
  | .sessionSend h sess data => Sys2Proof.Machine.execSessionSend h sess data s
  | .sessionRecv h sess len => Sys2Proof.Machine.execSessionRecv h sess len s
  | .sessionClose h sess => Sys2Proof.Machine.execSessionClose h sess s
  | .sessionDataRx peer kind sess seq data => Sys2Proof.Machine.execSessionDataRx peer kind sess seq data s
  | .sessionAckRx sess seq => Sys2Proof.Machine.execSessionAckRx sess seq s
  | .sessionRtoExpiry sess => Sys2Proof.Machine.execSessionRtoExpiry sess s
  | .fabricCommand h dest cmd => Sys2Proof.Machine.execFabricCommand h dest cmd s
  | .fabricCommandRx f cmd => Sys2Proof.Machine.execFabricCommandRx f cmd s
  | .ptpSyncRx o => Sys2Proof.Machine.execPtpSyncRx o s
  | .gmLossTimeout => Sys2Proof.Machine.execGmLossTimeout s
  | .gmSelected id there self => Sys2Proof.Machine.execGmSelected id there self s
  | .holdoverTrustExpiry => Sys2Proof.Machine.execHoldoverTrustExpiry s
  | .fabricCounterClear => Sys2Proof.Machine.execFabricCounterClear s
  | .txnOpen h reusable => Sys2Proof.Machine.execTxnOpen h reusable s
  | .txnStageAction h ctx a buf => Sys2Proof.Machine.execTxnStageAction h ctx a buf s
  | .txnFabricAction h ctx a => Sys2Proof.Machine.execTxnFabricAction h ctx a s
  | .txnCommit h ctx fabric atTime parts => Sys2Proof.Machine.execTxnCommit h ctx fabric atTime parts s
  | .txnAbort h ctx => Sys2Proof.Machine.execTxnAbort h ctx s
  | .txnResult h ctx => Sys2Proof.Machine.execTxnResult h ctx s
  | .txnClose h ctx => Sys2Proof.Machine.execTxnClose h ctx s
  | .txnStatus h ctx => Sys2Proof.Machine.execTxnStatus h ctx s
  | .txnCheckInstant ctx => Sys2Proof.Machine.execTxnCheckInstant ctx s
  | .txnCommitInstant ctx => Sys2Proof.Machine.execTxnCommitInstant ctx s
  | .txnPrepareRx f m => Sys2Proof.Machine.execTxnPrepareRx f m s
  | .txnVoteRx f m => Sys2Proof.Machine.execTxnVoteRx f m s
  | .txnVoteDeadline ctx => Sys2Proof.Machine.execTxnVoteDeadline ctx s
  | .txnTwinAckRx ctx => Sys2Proof.Machine.execTxnTwinAckRx ctx s
  | .txnTwinAckTimeout ctx => Sys2Proof.Machine.execTxnTwinAckTimeout ctx s
  | .txnDecisionRx f m => Sys2Proof.Machine.execTxnDecisionRx f m s
  | .txnResendTimer ctx => Sys2Proof.Machine.execTxnResendTimer ctx s
  | .txnQueryRx f m => Sys2Proof.Machine.execTxnQueryRx f m s
  | .txnAnswerRx f m => Sys2Proof.Machine.execTxnAnswerRx f m s
  | .txnLateApply ctx => Sys2Proof.Machine.execTxnLateApply ctx s
  | .txnQueryTimeout ctx => Sys2Proof.Machine.execTxnQueryTimeout ctx s
  | .txnContextExpiry ctx => Sys2Proof.Machine.execTxnContextExpiry ctx s
  | .ligatureLinkUp peer => Sys2Proof.Machine.execLigatureLinkUp peer s
  | .ligatureHeartbeatSend => Sys2Proof.Machine.execLigatureHeartbeatSend s
  | .ligatureHeartbeatRx lane mode peerRaw mirSeq => Sys2Proof.Machine.execLigatureHeartbeatRx lane mode peerRaw mirSeq s
  | .ligatureLaneLoss lane => Sys2Proof.Machine.execLigatureLaneLoss lane s
  | .twinHeartbeatLost => Sys2Proof.Machine.execTwinHeartbeatLost s
  | .mirrorFrameRx f => Sys2Proof.Machine.execMirrorFrameRx f s
  | .twinMirrorLate => Sys2Proof.Machine.execTwinMirrorLate s
  | .twinLsCommandRx n st inst => Sys2Proof.Machine.execTwinLsCommandRx n st inst s
  | .twinCurrentExchange currents => Sys2Proof.Machine.execTwinCurrentExchange currents s
  | .twinProfileRx ax bins ref => Sys2Proof.Machine.execTwinProfileRx ax bins ref s
  | .twinDecisionWriteRx key commit => Sys2Proof.Machine.execTwinDecisionWriteRx key commit s
  | .takeoverCheckDone switching => Sys2Proof.Machine.execTakeoverCheckDone switching s
  | .twinOrphanTimeout => Sys2Proof.Machine.execTwinOrphanTimeout s
  | .relinquishRx handover cause => Sys2Proof.Machine.execRelinquishRx handover cause s
  | .handoverInstant => Sys2Proof.Machine.execHandoverInstant s
  | .isolatorsOpenReportRx => Sys2Proof.Machine.execIsolatorsOpenReportRx s
  | .twinPeerWaitExpiry => Sys2Proof.Machine.execTwinPeerWaitExpiry s
  | .twinReturn => Sys2Proof.Machine.execTwinReturn s
  | .twinHealthReport self peer => Sys2Proof.Machine.execTwinHealthReport self peer s
  | .twinCounterClear => Sys2Proof.Machine.execTwinCounterClear s
  | .recordCommit cycleRing readback => Sys2Proof.Machine.execRecordCommit cycleRing readback s
  | .eventBlockClose => Sys2Proof.Machine.execEventBlockClose s
  | .incidentFrameSample => Sys2Proof.Machine.execIncidentFrameSample s
  | .preTriggerCopied => Sys2Proof.Machine.execPreTriggerCopied s
  | .incidentFull => Sys2Proof.Machine.execIncidentFull s
  | .lifetimeCounterWrite => Sys2Proof.Machine.execLifetimeCounterWrite s
  | .twinRecordRx cycleRing body => Sys2Proof.Machine.execTwinRecordRx cycleRing body s
  | .recorderStatus h => Sys2Proof.Machine.execRecorderStatus h s
  | .journalRead h ring first len => Sys2Proof.Machine.execJournalRead h ring first len s
  | .incidentRead h part off len => Sys2Proof.Machine.execIncidentRead h part off len s
  | .incidentTrigger h => Sys2Proof.Machine.execIncidentTrigger h s
  | .incidentRearm h no => Sys2Proof.Machine.execIncidentRearm h no s
  | .countersRead h len => Sys2Proof.Machine.execCountersRead h len s
  | .sentinelRead h len => Sys2Proof.Machine.execSentinelRead h len s
  | .sentinelClear h => Sys2Proof.Machine.execSentinelClear h s
  | .attest src nonce len => Sys2Proof.Machine.execAttest src nonce len s
  | .certRead src len => Sys2Proof.Machine.execCertRead src len s
  | .svcConnectionOpen major minor prevMinor => Sys2Proof.Machine.execSvcConnectionOpen major minor prevMinor s
  | .svcConnectionClose => Sys2Proof.Machine.execSvcConnectionClose s
  | .svcNetworkFrame icmp ip => Sys2Proof.Machine.execSvcNetworkFrame icmp ip s
  | .svcChallenge => Sys2Proof.Machine.execSvcChallenge s
  | .svcAuthenticate c nonce sig => Sys2Proof.Machine.execSvcAuthenticate c nonce sig s
  | .authLockoutExpiry => Sys2Proof.Machine.execAuthLockoutExpiry s
  | .checkValueConfirm value => Sys2Proof.Machine.execCheckValueConfirm value s
  | .debugUnlock => Sys2Proof.Machine.execDebugUnlock s
  | .debugLock => Sys2Proof.Machine.execDebugLock s
  | .debugUnlockExpiry => Sys2Proof.Machine.execDebugUnlockExpiry s
  | .updateHeader hd => Sys2Proof.Machine.execUpdateHeader hd s
  | .updateData off data readback => Sys2Proof.Machine.execUpdateData off data readback s
  | .updateVerify => Sys2Proof.Machine.execUpdateVerify s
  | .updateActivate => Sys2Proof.Machine.execUpdateActivate s
  | .updateConfirm => Sys2Proof.Machine.execUpdateConfirm s
  | .updateAbort => Sys2Proof.Machine.execUpdateAbort s
  | .trialWindowExpiry => Sys2Proof.Machine.execTrialWindowExpiry s
  | .updateIdleTimeout => Sys2Proof.Machine.execUpdateIdleTimeout s
  | .twinUpdateForwardRx hd rxAt => Sys2Proof.Machine.execTwinUpdateForwardRx hd rxAt s
  | .powerFailRestart => Sys2Proof.Machine.execPowerFailRestart s
  | .peakReserveRecovered => Sys2Proof.Machine.execPeakReserveRecovered s
  | .safetyRailLoss => Sys2Proof.Machine.execSafetyRailLoss s
  | .loopTest side => Sys2Proof.Machine.execLoopTest side s
  | .loopTestTimeout side => Sys2Proof.Machine.execLoopTestTimeout side s
  | .configurationFileLoad f => Sys2Proof.Machine.execConfigurationFileLoad f s
  | .powerStateChange d3 => Sys2Proof.Machine.execPowerStateChange d3 s
  | .canReceiveError p e => Sys2Proof.Machine.execCanReceiveError p e s
  | .ptpMessageSend kind => Sys2Proof.Machine.execPtpMessageSend kind s
  | .ptpDelayMessageRx kind t => Sys2Proof.Machine.execPtpDelayMessageRx kind t s

end Sys2Proof.Machine
end

