-- ==== Sys2Proof/Machine/Step.lean ====
section
/-! DEFINITION. One step: the command at the front of the queue, or one MOT tick of idling. -/
namespace Sys2Proof.Machine

/-- Take the front command and run it with the queue's rest; an empty queue lets one MOT tick of 5 ns pass
(DESIGN CHOICE). (Assumptions 1 DESIGN CHOICE, 2 DESIGN CHOICE) -/
def step (s : State) : Host.Outcome State Fault Refusal :=
  match s.pending with
  | [] => .next { s with m := { s.m with raw := s.m.raw + 1 } }
  | c :: rest => exec c { s with pending := rest }

/-- Put the command that a word spells at the front of the queue.
 (Assumptions 126 DESIGN CHOICE, 127 DESIGN CHOICE) -/
def State.withFetchWord (s : State) (nbits w : Nat) : State :=
  match Sys2Proof.decodeTableWord nbits w with
  | some c => { s with pending := c :: s.pending }
  | none => s

end Sys2Proof.Machine
end

