-- ==== Sys2Proof/Machine/Obs.lean ====
section
/-! DEFINITION. The observation outputs OBS0 to OBS3 (R104, R105): the signal each selection stands for and what it shows. -/
namespace Sys2Proof.Machine

/-- A signal of the OBS_SEL table (R105). -/
inductive ObsSig where
  | low
  | period
  | second
  | chopper (ax : Nat) (b : Bool)
  | enc (ax : Nat) (b : Bool)
  /-- the encoder index, or the SSI clock of an SSI axis -/
  | index (ax : Nat)
  | moving (ax : Nat)
  | di (i : Nat)
  | edge (e : Nat)
  | ls (j : Nat)
  | loopSwitch (side : Side) (bore : Bool)
  | readBack (side : Side)
  | sto (p : Nat)
  | can (port : Nat) (rx : Bool)
  /-- a received frame: F1, F2, the ligature heartbeat, field link A, field link B -/
  | strobe (k : Nat)
  deriving DecidableEq, Repr

/-- The signal of a selection: every value the table does not name, and an axis or portal the part does not have, is a
constant low (R105). -/
def obsSig (p : Part) (sel : Nat) : ObsSig :=
  let ax (n : Nat) (g : ObsSig) : ObsSig := if n < InstK.axis.count p then g else .low
  if sel = 0x01 then .period
  else if sel = 0x02 then .second
  else if sel < 0x10 then .low
  else if sel < 0x30 then ax ((sel - 0x10) / 2) (.chopper ((sel - 0x10) / 2) (sel % 2 == 1))
  else if sel < 0x50 then ax ((sel - 0x30) / 2) (.enc ((sel - 0x30) / 2) (sel % 2 == 1))
  else if sel < 0x60 then ax (sel - 0x50) (.index (sel - 0x50))
  else if sel < 0x70 then ax (sel - 0x60) (.moving (sel - 0x60))
  else if sel < 0xB0 then .di (sel - 0x70)
  else if sel < 0xB8 then .edge (sel - 0xB0)
  else if sel < 0xD0 then .ls (sel - 0xB8)
  else if sel < 0xD2 then .loopSwitch .L (sel == 0xD1)
  else if sel < 0xD4 then .loopSwitch .R (sel == 0xD3)
  else if sel = 0xD4 then .readBack .L
  else if sel = 0xD5 then .readBack .R
  else if sel < 0xDA then (if sel - 0xD6 < InstK.portal.count p then .sto (sel - 0xD6) else .low)
  else if 0xE0 ≤ sel ∧ sel < 0xE4 then .can ((sel - 0xE0) / 2) (sel % 2 == 1)
  else if 0xE4 ≤ sel ∧ sel < 0xE9 then .strobe (sel - 0xE4)
  else .low

/-- The level a signal shows, where it stands between two commands; the pulses, strobes and bus lines of the table pass
within one. -/
def Mod.obsLevel (m : Mod) : ObsSig → Option Bool
  | .low => some false
  | .chopper i b => some (match m.bridge i (if b then (m.axis i).B else (m.axis i).A) with
    | .drive _ => true
    | _ => false)
  | .enc i b => some (if b then (m.axis i).quad.b else (m.axis i).quad.a)
  | .moving i => some (m.moving i)
  | .di i => some (m.di i).filt
  | .edge e => some (m.edge e).pressed
  | .ls j => some (decide ((m.ls j).cmd ≠ 0))
  | .loopSwitch s bore => some (if bore then (m.saf.loops.get s).bore else (m.saf.loops.get s).reed)
  | .readBack s => some ((m.saf.loops.get s).shows)
  | .sto p => some (m.stoOf p).applied
  | .period | .second | .index _ | .can _ _ | .strobe _ => none

/-- The signal on output OBSk: held low unless R104 allows output and OBS_EN is set. -/
def Mod.obsOut (m : Mod) (k : Nat) : ObsSig :=
  if m.obsMay && m.obs.en.getD k false then obsSig m.id.part (m.obs.sel.getD k 0) else .low

end Sys2Proof.Machine
end

