-- ==== Sys2Proof/Machine/BarRead.lean ====
section
/-! DEFINITION. What a read of a BAR0 register returns (R116 to R119): the registers as a view of the state. A read has
no row of the table but where it latches something (TIME_NS_READ, RAW_LO_READ, OFFSET_LO_READ). -/
namespace Sys2Proof.Machine

/-- The low 32 bits of a signed value. -/
def lo32 (x : Int) : Nat := toBits 32 x

/-- Identity and versions (R119, R120). -/
def Mod.readIdent (m : Mod) (off : Nat) : Nat :=
  if off = 0x0000 then 0xD516 * 65536 + (if m.id.part = .A then 0x0A else 0x0B) * 256 + m.id.hwRev % 256
  else if off = 0x0004 then m.id.serial % 4294967296
  else if off = 0x0008 then m.id.serial / 4294967296 % 4294967296
  else if off = 0x000C then m.fw.version % 4294967296
  else if off = 0x0010 then 4 * b2n m.fw.trial + m.fw.slot % 4
  else if off = 0x0014 then (2 ^ m.portals.length - 1) * 65536 + (2 ^ m.axes.length - 1)
  else if off = 0x0018 then (match m.fab.addr with
    | some a => 512 + a % 512
    | none => 0)
  else if 0x0020 ≤ off ∧ off < 0x0050 then
    (let p := (off - 0x0020) / 8
     let o := ownVer p
     if off % 8 = 0 then o.major * 16777216 + o.minor * 65536 + (o.prev.getD 0xFF) * 256
     else match m.host.neg.getD p none with
       | some n => 2147483648 + n.1 * 256 + n.2
       | none => 0)
  else if off = 0x0060 then m.host.verReq.1 * 256 + m.host.verReq.2
  else if off = 0x0064 then b2n (!m.md.rwl)
  else 0

/-- RING_CFG as a word (R125). -/
def Ring.cfgWord (r : Ring) : Nat :=
  b2n r.enable * 2147483648 + b2n r.eventKind * 1073741824 + r.prio * 268435456 + r.coalCount * 65536 + r.vector * 256 + r.log2

/-- A ring's set-up words (R125). -/
def Mod.readRing (m : Mod) (i off : Nat) : Nat :=
  let r := m.ring i
  if off = 0x00 then r.base % 4294967296
  else if off = 0x04 then r.base / 4294967296
  else if off = 0x08 then r.cplBase % 4294967296
  else if off = 0x0C then r.cplBase / 4294967296
  else if off = 0x10 then r.cfgWord
  else if off = 0x14 then r.evtMask
  else if off = 0x18 then b2n r.active * 2147483648 + b2n r.halted * 1073741824 + r.haltCause * 16777216 + r.modIdx
  else r.cplIdx * 65536 + r.coalUs

/-- MSI-X table and PBA (R143). -/
def Mod.readMsix (m : Mod) (off : Nat) : Nat :=
  if off = 0x1400 then
    (upto 32).foldl (fun n k => n + b2n (m.host.msix.getD k Msix.reset).pending * 2 ^ k) 0
  else if off < 0x1200 then
    (let e := m.host.msix.getD ((off - 0x1000) / 16) Msix.reset
     match off % 16 with
     | 0 => e.addrLo
     | 4 => e.addrHi
     | 8 => e.data
     | _ => b2n e.mask)
  else 0

/-- The breath-budget block (R145). -/
def Mod.readGov (m : Mod) (off : Nat) : Nat :=
  let pick (l : List (Nat × Nat)) (base : Nat) : Nat :=
    let x := l.getD ((off - base) / 8) (0, 0)
    if off % 8 = 0 then x.1 else x.2
  if off < 0x1840 then pick m.gov.staged 0x1800
  else if off = 0x1840 then 4 * b2n m.gov.lastRejected + 2 * b2n m.gov.pendingSet.isSome
  else if off < 0x1880 then 0
  else if off < 0x18C0 then pick m.gov.active 0x1880
  else if off < 0x1900 then 0
  else if off < 0x1920 then m.gov.overrun.getD ((off - 0x1900) / 4) 0
  else if off = 0x1940 then 1500 * m.leafCount * 65536 + 1000 * m.leafCount
  else 0

/-- Clock and time (R146, R147). (Assumption 17 DESIGN CHOICE) -/
def Mod.readTime (m : Mod) (off : Nat) : Nat :=
  if off = 0x2000 then (m.now % 1000000000).toNat
  else if off = 0x2004 then m.host.timeSec % 4294967296
  else if off = 0x2008 then m.host.timeSec / 4294967296 % 65536
  else if off = 0x2010 then m.raw % 4294967296
  else if off = 0x2014 then m.host.rawHi % 4294967296
  else if off = 0x2018 then
    sat16 m.time.jumps * 65536 + m.time.profile % 4 * 16 + 8 * b2n m.time.gm.isSome + syncNum m.time.sync
  else if off = 0x201C then lo32 m.time.rate
  else if off = 0x2020 then toBits 64 m.time.offset % 4294967296
  else if off = 0x2024 then m.host.offHi % 4294967296
  else if off = 0x2028 then lo32 (clampI (-2147483648) 2147483647 m.time.lastMeas)
  else if off = 0x2030 then
    8 * b2n m.clk.crosscheckOk + 4 * b2n m.clk.boreClockOk + 2 * b2n m.clk.memsOk + b2n m.clk.pllLock
  else if off = 0x2034 then m.clk.markerTicks % 262144
  else if off = 0x2044 then (m.host.cap % 1000000000).toNat
  else if off = 0x2048 then (m.host.cap / 1000000000).toNat % 4294967296
  else if off = 0x204C then (m.host.cap / 1000000000).toNat / 4294967296 % 65536
  else 0

/-- Fabric set-up (R452). (Assumption 53 DEDUCED) -/
def Mod.readFab (m : Mod) (off : Nat) : Nat :=
  let f := m.fab
  let link (k : Nat) : Bool := (m.fport k).up && (m.fport k).ver.isSome
  if off = 0x2800 then
    f.topology % 4 * 1073741824 + f.disc % 4 * 268435456 + f.count % 1024 * 65536 + b2n f.anchorSelf * 2048
      + b2n f.conflict * 1024 + b2n (link 2) * 512 + b2n (link 1) * 256
  else if off = 0x2804 then
    (let half (x : Option Nat) : Nat := match x with
      | some a => 32768 + a % 512
      | none => 0
     half (m.fport 2).neighAddr * 65536 + half (m.fport 1).neighAddr)
  else if off = 0x2808 then f.anchorSerial % 4294967296
  else if 0x2810 ≤ off ∧ off < 0x2830 then
    (let q := m.fport ((off - 0x2810) / 16 + 1)
     match off % 16 with
     | 0 => q.rxFrames
     | 4 => q.txFrames
     | 8 => q.rxErrors
     | _ => q.downCount % 65536 * 65536 + q.load % 65536)
  else if 0x2840 ≤ off ∧ off < 0x2860 then f.drops.getD ((off - 0x2840) / 4) 0
  else if off = 0x2860 then f.bcReject
  else if off = 0x2864 then (f.sess.filter (fun x => x.used)).length
  else 0

/-- A CAN port's block (R401). -/
def Mod.readCan (m : Mod) (p off : Nat) : Nat :=
  let c := m.canPort p
  if off = 0x00 then c.nbtp
  else if off = 0x04 then c.dbtp
  else if off = 0x08 then c.tdcr
  else if off = 0x0C then c.cfg
  else if off = 0x10 then
    c.errState * 1073741824 + b2n c.recovering * 536870912 + b2n c.cfgRejected * 268435456 + c.lec * 16777216
      + b2n (decide (128 ≤ c.recErr)) * 8388608 + min c.recErr 127 * 65536 + c.tec % 256 * 256
      + (upto 3).foldl (fun n k => n + b2n (c.txb.getD k none).isSome * 2 ^ k) 0
  else if off = 0x14 then c.txOk
  else if off = 0x18 then c.rxOk
  else if off = 0x1C then c.errors
  else if off = 0x20 then c.rxDropped
  else if off = 0x24 then sat16 c.collisions * 65536 + sat16 c.busOffs
  else 0

/-- Seconds until R509 may act; 0xFFFF while blocked. (Assumption 53 DEDUCED) -/
def Mod.returnIn (m : Mod) : Nat :=
  match m.tw.healthySince with
  | some t =>
    if m.primary ∧ m.md = .shadow ∧ m.p P.twinReturnDelay 0 ≠ 0 ∧ !m.tw.returnInhibit then
      min ((t + m.pn P.twinReturnDelay 0 * SEC - m.raw) / SEC) 65534
    else 65535
  | none => 65535

/-- The twin block (R513). (Assumption 53 DEDUCED) -/
def Mod.readTwin (m : Mod) (off : Nat) : Nat :=
  let t := m.tw
  let role : Nat := if m.twinActive then 1 else if m.md = .shadow then 2 else 0
  if off = 0x3800 then
    m.pn P.twinRole 0 % 4 * 1073741824 + role * 268435456
      + (if t.heart then (t.lanes.filter (fun x => x.1)).length else 0) * 67108864
      + b2n t.pairFormed * 33554432 + b2n t.orphan * 16777216 + b2n (bit t.selfHealth 31) * 8388608
      + b2n (bit t.peerHealth 31) * 4194304 + (if t.heart then t.peerMode else 0) % 16 * 256 + b2n t.returnInhibit
  else if off = 0x3804 then t.peerSerial % 4294967296
  else if off = 0x3808 then t.selfHealth
  else if off = 0x380C then t.peerHealth
  else if off = 0x3810 then
    m.returnIn * 65536 + (if t.mir.isSome then sat16 ((m.raw - t.mirAt) / US) else 65535)
  else if off = 0x3814 then sat16 t.returns * 65536 + sat16 t.switchOvers
  else if off = 0x3818 then sat16 t.laneLosses * 65536 + sat16 t.lastGap
  else if off = 0x381C then t.lateCount
  else 0

/-- The observation mux (R104, R105). -/
def Mod.readObs (m : Mod) (off : Nat) : Nat :=
  if off < 0x4010 then
    (let k := (off - 0x4000) / 4
     b2n (m.obs.en.getD k false) * 256 + m.obs.sel.getD k 0)
  else if off = 0x4010 then
    (upto 4).foldl (fun n k => n + b2n (m.obsMay && m.obs.en.getD k false) * 2 ^ (k + 2)) 0
      + 2 * b2n m.md.debug + b2n m.debugOn
  else 0

/-- Update and service status (R571). -/
def State.readUpd (s : State) (off : Nat) : Nat :=
  let u := s.m.fw
  let c := s.m.sec
  let left (x : Option Nat) (unit : Nat) : Nat := match x with
    | some t => sat16 ((t - s.m.raw + unit - 1) / unit)
    | none => 0
  if off = 0x4800 then
    u.stage * 268435456 + u.source * 67108864 + b2n u.pairSession * 33554432 + (u.target.getD 3) % 4 * 262144
      + s.boot.trialFails % 4 * 65536 + left u.windowEnd SEC
  else if off = 0x4804 then u.offset
  else if off = 0x4808 then u.fileLen
  else if off = 0x480C then u.stagedVersion
  else if off = 0x4810 then s.boot.antiRollback
  else if off = 0x4814 then s.boot.seq % 4294967296
  else if off = 0x4818 then
    s.boot.revoked.toNat * 256
      + (upto 3).foldl (fun n k => n + (s.boot.slots.getD k ⟨0, none, []⟩).st % 4 * 4 ^ k) 0
  else if off = 0x481C then u.lastStatus % 65536
  else if off = 0x4820 then
    b2n c.svcLink * 2147483648 + b2n c.roles.isSome * 1073741824 + (c.roles.getD 0) % 16 * 67108864
      + b2n c.timeUnchecked * 33554432 + b2n (c.lockUntil.any (fun t => decide (s.m.raw < t))) * 16777216 + left c.debugUntil (60 * SEC)
  else if off = 0x4824 then c.authFails
  else if off = 0x4828 then c.debugCount
  else if off = 0x482C then c.reportCount
  else 0

/-- The health summary (R148). -/
def Mod.readHealth (m : Mod) (off : Nat) : Nat :=
  if off = 0x5000 then m.h5000
  else if off = 0x5004 then m.h5004
  else if off = 0x5008 then m.h5008
  else if off = 0x500C then m.h500C
  else if off = 0x5010 then m.saf.deg / SEC
  else if off = 0x5014 then toBits 16 m.sup.tbp
  else if off = 0x5018 then m.sup.vbus % 65536
  else if off = 0x501C then m.clk.ceCount
  else if off = 0x5020 then m.host.regLocked
  else if off = 0x5024 then m.host.faultBits
  else if off = 0x5030 then m.host.heartbeat
  else if off = 0x5034 then m.host.wdogMs
  else if off = 0x5038 then b2n m.host.irqEn * 2147483648 + m.host.irqVec
  else 0

/-- The word at an aligned offset; an offset with no register, and every write-only field, reads 0.
 (Assumption 53 DEDUCED) -/
def State.bar0 (s : State) (off : Nat) : Nat :=
  let m := s.m
  if off % 4 ≠ 0 then 0
  else if off < 0x0400 then m.readIdent off
  else if off < 0x0800 then m.readRing ((off - 0x0400) / 32) (off % 32)
  else if off < 0x0900 then
    (let r := m.ring ((off - 0x0800) / 8)
     if off % 8 = 0 then r.hostIdx else r.cplCons)
  else if off < 0x1000 then 0
  else if off < 0x1800 then m.readMsix off
  else if off < 0x2000 then m.readGov off
  else if off < 0x2800 then m.readTime off
  else if off < 0x3000 then m.readFab off
  else if off < 0x3080 then m.readCan ((off - 0x3000) / 64) (off % 64)
  else if off < 0x3800 then 0
  else if off < 0x4000 then m.readTwin off
  else if off < 0x4800 then m.readObs off
  else if off < 0x5000 then s.readUpd off
  else m.readHealth off

/-- What reading a word latches (R146, R147). -/
def Mod.readLatch (m : Mod) (off : Nat) : Mod :=
  if off = 0x2000 then m.latchSec
  else if off = 0x2010 then m.latchRaw
  else if off = 0x2020 then m.latchOffset
  else m

/-- A read access of 1, 2, 4 or 8 bytes (R116): the addressed bytes of a word, or two words, the lower address first. -/
def State.barRead (s : State) (off bytes : Nat) : Nat :=
  if bytes = 8 then s.bar0 off + 2 ^ 32 * ({ s with m := s.m.readLatch off }.bar0 (off + 4))
  else s.bar0 (off / 4 * 4) / 2 ^ (8 * (off % 4)) % 2 ^ (8 * bytes)

/-! ### The endpoint's identity (R111) -/

/-- Device ID. -/
def pciDevice : Part → Nat
  | .A => 0xD516
  | .B => 0xD508

/-- Class code: other system peripheral. -/
def pciClass : Nat := 0x088000

end Sys2Proof.Machine
end

