-- ==== Sys2Proof/Safety.lean ====
section
/-! DEFINITION. The words claims are written in: what a command that only logs leaves as it was, the events it raised,
the answers it gave, and an account of a safe run. -/
namespace Sys2Proof.Safety

open Sys2Proof.Machine

/-- The portals without the accounts of their running cycles, which every event may mark (R522, R524). -/
def noCyc (l : List Portal) : List Portal := l.map (fun q => { q with cyc := none })

/-- A ring's set-up and its state, without the indices and counts that entries advance (R125). -/
def setupOf (r : Ring) : Ring :=
  { r with modIdx := 0, cplIdx := 0, fetched := [], count := 0, since := none, ringSeq := 0, lost := false }

/-- `b` is `a` after nothing but events and completions: only the recorder, the entries of the rings, the interrupts
and the cycle accounts may differ, and what was logged or completed before stays. -/
structure Logged (a b : Mod) : Prop where
  same : b = { a with
    recd := b.recd
    po := b.po
    host := { a.host with
      rings := b.host.rings, gone := b.host.gone, msix := b.host.msix, msgs := b.host.msgs, cpls := b.host.cpls,
      evrecs := b.host.evrecs } }
  cycles : noCyc b.po = noCyc a.po
  rings : b.host.rings.map setupOf = a.host.rings.map setupOf
  log : a.recd.log <+: b.recd.log
  cpls : a.host.cpls <+: b.host.cpls

/-- A command took `s` to `t`, and `t` is `s` with the module `m` but for what events and completions leave; a copy of the
areas of R99 changed only where the module wrote one. -/
def After (s t : State) (m : Mod) : Prop :=
  t.pending = s.pending ∧ t.par = s.par ∧ t.boot = s.boot ∧ t.kept = s.kept.after s.par s.m t.m ∧ Logged m t.m

/-- An event was raised between two states: its code, source and payload items (R9, R135). -/
def Raised (s t : State) (code src : Nat) (pay : List Int) : Prop :=
  ∃ e ∈ t.m.recd.log.drop s.m.recd.log.length, e.code = code ∧ e.src = src ∧ e.pay = pay

/-- A ring command's final completion was fixed between two states with a status and a RESULT: it is written, or it
waits for the completions before it in descriptor order (R131, R133). -/
def Answered (s t : State) (h : Hdr) (status res : Nat) : Prop :=
  ∃ c : Cpl, (c ∈ t.m.host.cpls.drop s.m.host.cpls.length ∨ ∃ f ∈ (t.m.ring h.ring).fetched, f.done = some c)
    ∧ c.ring = h.ring ∧ c.idx = h.idx ∧ c.tag = h.tag ∧ c.final = true ∧ c.status = status ∧ c.res = res

/-- A ring command's final completion, with everything its reply gives the host. -/
def Gave (s t : State) (h : Hdr) (r : Reply) : Prop :=
  ∃ c : Cpl, (c ∈ t.m.host.cpls.drop s.m.host.cpls.length ∨ ∃ f ∈ (t.m.ring h.ring).fetched, f.done = some c)
    ∧ c.ring = h.ring ∧ c.idx = h.idx ∧ c.tag = h.tag ∧ c.irq = h.irq ∧ c.final = true
    ∧ c.status = r.status ∧ c.res = r.res ∧ c.detail = r.detail ∧ c.extra = r.extra ∧ c.buf = r.buf

/-- The header a ring command came with, and what its descriptor says (R129). -/
def ringCmd : Instr → Option (Hdr × Desc)
  | .modeRequest h _ => some (h, descModeRequest)
  | .startRequest h => some (h, descStartRequest)
  | .restoreFactory h _ => some (h, descRestoreFactory)
  | .evacuate h _ => some (h, descEvacuate)
  | .paramRead h dom id inst => some (h, descParamRead dom id inst)
  | .paramWrite h dom id inst value => some (h, descParamWrite dom id inst value)
  | .paramReadBlock h dom tid inst off len => some (h, descParamReadBlock dom tid inst off len)
  | .paramWriteBlock h dom tid inst off data => some (h, descParamWriteBlock dom tid inst off data)
  | .nop h => some (h, descNop)
  | .longOpCancel h ring idx => some (h, descLongOpCancel ring idx)
  | .longOpQuery h ring idx => some (h, descLongOpQuery ring idx)
  | .driveStatus h ax len => some (h, descDriveStatus ax len)
  | .axisFaultClear h ax _ => some (h, descAxisFaultClear ax)
  | .phaseTest h ax => some (h, descPhaseTest ax)
  | .move h ax a => some (h, descMove ax a)
  | .setMotionLimits h ax l => some (h, descSetMotionLimits ax l)
  | .stop h ax => some (h, descStop ax)
  | .home h inst portal => some (h, descHome inst portal)
  | .jog h ax pos redirect speed => some (h, descJog ax pos redirect speed)
  | .positionRead h ax => some (h, descPositionRead ax)
  | .loadTemplate h p n => some (h, descLoadTemplate p n)
  | .portalReset h p => some (h, descPortalReset p)
  | .portalRequest h p close => some (h, descPortalRequest p close)
  | .sideRelease h mask grant => some (h, descSideRelease mask grant)
  | .learnRun h p => some (h, descLearnRun p)
  | .profileSave h => some (h, descProfileSave)
  | .loopReset h side => some (h, descLoopReset side)
  | .checkValueCompute h => some (h, descCheckValueCompute)
  | .pairStatus h => some (h, descPairStatus)
  | .lsSet h n st => some (h, descLsSet n st)
  | .lsClear h n => some (h, descLsClear n)
  | .ioStatus h len => some (h, descIoStatus len)
  | .canTx h p buf a => some (h, descCanTx p buf a)
  | .canTxCancel h p src => some (h, descCanTxCancel p src)
  | .canObjWrite h p obj sendNow data => some (h, descCanObjWrite p obj sendNow data)
  | .canObjRead h p obj len => some (h, descCanObjRead p obj len)
  | .fabricDiscover h => some (h, descFabricDiscover)
  | .pointWrite h pt v => some (h, descPointWrite pt v)
  | .pointRead h pt sel => some (h, descPointRead pt sel)
  | .topologyRead h len => some (h, descTopologyRead len)
  | .sessionOpen h peer => some (h, descSessionOpen peer)
  | .sessionSend h sess data => some (h, descSessionSend sess data)
  | .sessionRecv h sess len => some (h, descSessionRecv sess len)
  | .sessionClose h sess => some (h, descSessionClose sess)
  | .fabricCommand h dest cmd => some (h, descFabricCommand dest cmd)
  | .txnOpen h reusable => some (h, descTxnOpen reusable)
  | .txnStageAction h c a buf => some (h, descTxnStageAction c a buf)
  | .txnFabricAction h c a => some (h, descTxnFabricAction c a)
  | .txnCommit h c fabric at? _ => some (h, descTxnCommit c fabric at?)
  | .txnAbort h c => some (h, descTxnAbort c)
  | .txnResult h c => some (h, descTxnResult c)
  | .txnClose h c => some (h, descTxnClose c)
  | .txnStatus h c => some (h, descTxnStatus c)
  | .recorderStatus h => some (h, descRecorderStatus)
  | .journalRead h ring first len => some (h, descJournalRead ring first len)
  | .incidentRead h part off len => some (h, descIncidentRead part off len)
  | .incidentTrigger h => some (h, descIncidentTrigger)
  | .incidentRearm h no => some (h, descIncidentRearm no)
  | .countersRead h len => some (h, descCountersRead len)
  | .sentinelRead h len => some (h, descSentinelRead len)
  | .sentinelClear h => some (h, descSentinelClear)
  | .attest (.ring h) nonce len => some (h, descAttest nonce len)
  | .certRead (.ring h) len => some (h, descCertRead len)
  | _ => none

def hdrOf (c : Instr) : Option Hdr := (ringCmd c).map (fun x => x.1)

/-- A command may execute now: where it is a ring command, its descriptor has been fetched, and every descriptor before it on
its ring has begun (R129, R137). -/
def Ready (c : Instr) (s : State) : Prop :=
  match ringCmd c with
  | some x => s.m.mayRun x.1 x.2 = true
  | none => True

/-- The blocks of the module. -/
inductive Blk where
  | id
  | raw
  | tickAt
  | sup
  | gov
  | clk
  | mode
  | start
  | srst
  | nv
  | obs
  | host
  | live
  | due
  | ax
  | po
  | side
  | ob
  | saf
  | time
  | recd
  | io
  | txn
  | can
  | fab
  | tw
  | sec
  | fw
  | freeCtr
  deriving DecidableEq, Repr

/-- A block is the same in two modules. -/
def Blk.same (f : Blk) (a b : Mod) : Prop :=
  match f with
  | .id => b.id = a.id
  | .raw => b.raw = a.raw
  | .tickAt => b.tickAt = a.tickAt
  | .sup => b.sup = a.sup
  | .gov => b.gov = a.gov
  | .clk => b.clk = a.clk
  | .mode => b.mode = a.mode
  | .start => b.start = a.start
  | .srst => b.srst = a.srst
  | .nv => b.nv = a.nv
  | .obs => b.obs = a.obs
  | .host => b.host = a.host
  | .live => b.live = a.live
  | .due => b.due = a.due
  | .ax => b.ax = a.ax
  | .po => b.po = a.po
  | .side => b.side = a.side
  | .ob => b.ob = a.ob
  | .saf => b.saf = a.saf
  | .time => b.time = a.time
  | .recd => b.recd = a.recd
  | .io => b.io = a.io
  | .txn => b.txn = a.txn
  | .can => b.can = a.can
  | .fab => b.fab = a.fab
  | .tw => b.tw = a.tw
  | .sec => b.sec = a.sec
  | .fw => b.fw = a.fw
  | .freeCtr => b.freeCtr = a.freeCtr

/-- Only the listed blocks may differ. -/
def Only (l : List Blk) (a b : Mod) : Prop := ∀ f : Blk, f ∉ l → f.same a b

/-- A command took `s` to `t`, and beside the module's listed blocks nothing changed: no waiting command, no written
parameter value, nothing of the boot record, no copy of the areas of R99 but those it wrote. -/
def Frame (l : List Blk) (s t : State) : Prop :=
  t.pending = s.pending ∧ t.par = s.par ∧ t.boot = s.boot ∧ t.kept = s.kept.after s.par s.m t.m ∧ Only l s.m t.m

/-- A step of a safe run takes the machine to a next state: it neither faults nor refuses. -/
def Goes (s : State) : Prop := ∃ t, step s = .next t

/-- Runs of a number of steps. -/
def runs : Nat → State → State → Prop
  | 0, s, t => s = t
  | n + 1, s, t => ∃ u, step s = .next u ∧ runs n u t

end Sys2Proof.Safety
end

