-- ==== Sys2Proof/Certificates/Slice0/Obligations.lean ====
section
/-! DEFINITION. The statements about the module. Each says which states and operands a command completes in, what the
next state holds, and what it leaves alone. -/

open Sys2Proof Sys2Proof.Machine Sys2Proof.Safety

/-! ### The machine -/

/-- A step runs the command at the front of the queue on the state with the queue's rest. Model's choices in it:
assumption 1. -/
def Obligations.StepRunsFront : Prop :=
  ∀ (c : Instr) (rest : List Instr) (s : State),
    step { s with pending := c :: rest } = exec c { s with pending := rest }

/-- An empty queue lets one MOT tick pass. Model's choices in it: assumption 2. -/
def Obligations.IdleStep : Prop :=
  ∀ s : State, s.pending = [] → step s = .next { s with m := { s.m with raw := s.m.raw + 1 } }

/-- No step faults or refuses, whatever the state and the command. Model's choices in it: assumption 128. -/
def Obligations.EveryStepGoes : Prop := ∀ s : State, Goes s

/-- The written parameter values stay in their canonical form: keys strictly rising, each of a defined parameter, none
at its default. -/
def Obligations.ParamStoreCanonical : Prop :=
  ∀ s t : State, s.par.wf = true → step s = .next t → t.par.wf = true

/-- The machine after reset has its written parameter values in canonical form, and no command waits. Model's choices
in it: assumption 6. -/
def Obligations.ResetStoreCanonical : Prop := State.reset.par.wf = true ∧ State.reset.pending = []

/-- No step lowers the anti-rollback counter or the number of the boot record, or takes back a revocation (R556,
R558). -/
def Obligations.BootRecordForward : Prop :=
  ∀ s t : State, step s = .next t →
    s.boot.antiRollback ≤ t.boot.antiRollback ∧ s.boot.seq ≤ t.boot.seq
      ∧ ∀ k : Nat, s.boot.revoked.getLsbD k = true → t.boot.revoked.getLsbD k = true

/-- Commands that may change a written parameter value. -/
def Sys2Proof.Safety.writesPar (c : Instr) : Bool :=
  match c with
  | .paramWrite _ _ _ _ _ => true
  | .paramWriteBlock _ _ _ _ _ _ => true
  | .loadTemplate _ _ _ => true
  | .longOpStep _ _ => true
  | .startStep _ => true
  | .configurationFileLoad _ => true
  | _ => false

/-- Commands that may change the boot record or a firmware slot. -/
def Sys2Proof.Safety.writesBoot (c : Instr) : Bool :=
  match c with
  | .startStep _ => true
  | .startFailed => true
  | .budgetPeriodBoundary => true
  | .longOpStep _ _ => true
  | .updateHeader _ => true
  | .updateData _ _ _ => true
  | .updateActivate => true
  | .updateConfirm => true
  | .updateAbort => true
  | .trialWindowExpiry => true
  | .twinUpdateForwardRx _ _ => true
  | _ => false

/-- Every other command leaves the written parameter values and the boot record alone, and no command touches the
queue behind it. -/
def Obligations.StoresFrame : Prop :=
  ∀ (c : Instr) (s t : State), exec c s = .next t →
    t.pending = s.pending ∧ (writesPar c = false → t.par = s.par) ∧ (writesBoot c = false → t.boot = s.boot)

/-! ### 01 Clocks, budgets, SRAM -/

/-- A captured set, a clear of counters, and a scrub pass change exactly their own registers (R32, R37, R145); a scrub
is work of class 8 (R24, R29). A class that spends its budget is suspended and counted once per period; classes 1 and
2 lose the Reed channel, another class touches no safety state (R29 to R31, R34). Model's choices in it: assumptions
8, 22. -/
def Obligations.Budgets : Prop :=
  (∀ s : State, s.m.alive = true →
      exec .budgetApply s
        = .next { s with m := { s.m with gov := { s.m.gov with pendingSet := some s.m.gov.staged, applyAt := s.m.raw } } }
      ∧ (∀ mask : Nat, ∃ l : List Nat,
          exec (.overrunClear mask) s = .next { s with m := { s.m with gov := { s.m.gov with overrun := l } } }
          ∧ ∀ c, c < 8 → c < s.m.gov.overrun.length →
            l.getD c 0 = if mask.testBit c then 0 else s.m.gov.overrun.getD c 0)
      ∧ (∀ n : Nat, s.m.runs 8 = true → exec (.sramScrub n) s
          = .next { s with m := { s.m with clk := { s.m.clk with
              scrubs := s.m.clk.scrubs + 1, ceCount := min (s.m.clk.ceCount + n) 0xFFFFFFFF } } })
      ∧ (∀ n : Nat, s.m.runs 8 = false → exec (.sramScrub n) s = .next s)
      ∧ (∀ cls ov reed, (cls = 0 ∨ 8 < cls) → exec (.classBudgetExhausted cls reed ov) s = .next s))
  ∧ (∀ (s : State) (cls ov : Nat) (reed : Bool), s.m.alive = true → 1 ≤ cls → cls ≤ 8 →
      cls ≤ s.m.gov.suspended.length → cls ≤ s.m.gov.overrun.length →
      s.m.gov.suspended.getD (cls - 1) false = false →
      ∃ t, exec (.classBudgetExhausted cls reed ov) s = .next t
        ∧ t.m.gov.suspended.getD (cls - 1) false = true
        ∧ t.m.gov.overrun.getD (cls - 1) 0 = min (s.m.gov.overrun.getD (cls - 1) 0 + 1) 0xFFFFFFFF
        ∧ t.m.gov.active = s.m.gov.active
        ∧ (3 ≤ cls → Frame [.gov, .recd, .host, .po] s t)
        ∧ (cls ≤ 2 → Raised s t 0xD010 0 [(cls : Int)] ∧ t.m.saf.reedLost.isSome = true
            ∧ Frame [.gov, .saf, .ax, .ob, .start, .mode, .side, .recd, .host, .po] s t))

/-- Faults of the control die's own parts. A clock fault holds the die in reset and shows in its own bit of the clock
status (R20 to R22); a Bore marker outside 0.97 to 1.03 ms is a loss of the Bore channel, and one inside it only
stores its count (R23, R146). A lockstep mismatch halts one pair and loses the Reed channel while the other pair goes
on alone (R14, R342). An uncorrectable error in a safety region is a loss of the Reed channel with cause 3; one in a
profile's block starts its reload, one in an axis's fingering block makes its tables invalid, and one elsewhere costs
its owner what stood there: buffers and points, rings, the mirror frame, contexts, staged records; none of these
touches a safety state (R37, R274). Model's choices in it: assumptions 8, 20, 23, 24, 38, 119. -/
def Obligations.DieFaults : Prop :=
  ∀ s : State, s.m.alive = true →
    (∀ mems, ∃ t, exec (.pllLockLoss mems) s = .next t
      ∧ (if mems then t.m.clk.memsOk = false else t.m.clk.pllLock = false)
      ∧ t.m.start.inReset = true ∧ t.m.md = .starting ∧ t.m.start.cause = some .clockRatio)
    ∧ (∀ count, count < 3063 ∨ 3187 < count → ∃ t, exec (.clockRatioWindowEnd count) s = .next t
      ∧ t.m.clk.crosscheckOk = false ∧ t.m.start.inReset = true ∧ t.m.md = .starting)
    ∧ (∀ count, 3063 ≤ count → count ≤ 3187 → exec (.clockRatioWindowEnd count) s = .next s)
    ∧ (∀ ticks, ticks < 194000 ∨ 206000 < ticks → ∃ t, exec (.boreWindowMarker ticks) s = .next t
      ∧ t.m.clk.boreClockOk = false ∧ t.m.clk.markerTicks = ticks % 262144 ∧ t.m.saf.boreLost.isSome = true)
    ∧ (∀ ticks, 194000 ≤ ticks → ticks ≤ 206000 → exec (.boreWindowMarker ticks) s
      = .next { s with m := { s.m with clk := { s.m.clk with markerTicks := ticks } } })
    ∧ (∀ pair, s.m.saf.halted = none → ∃ t, exec (.lockstepMismatch pair) s = .next t
      ∧ t.m.saf.halted = some pair ∧ t.m.saf.single = true ∧ t.m.saf.reedLost.isSome = true
      ∧ (s.m.gov.active.length = 8 →
          t.m.gov.active.map (fun x => x.2) = [60000, 45000, 24000, 6000, 6000, 4000, 2000, 3000]))
    ∧ (∀ pair, s.m.saf.halted = some pair → exec (.lockstepMismatch pair) s = .next s)
    ∧ (∀ pair k, s.m.saf.halted = some k → k ≠ pair → ∃ t, exec (.lockstepMismatch pair) s = .next t
      ∧ t.m.saf.reedLost.isSome = true ∧ (s.m.mode.trigs.contains (.safeHold 2) = false →
          Trig.safeHold 2 ∈ t.m.mode.trigs)
      ∧ t.m.saf.loops.L.closed = false ∧ t.m.saf.loops.R.closed = false
      ∧ (∀ g, g < 4 → g < s.m.saf.sto.length → (t.m.stoOf g).applied = true))
    ∧ (∀ r, r = Region.firmware ∨ r = Region.workingConfig → s.m.saf.reedLost = none →
      ∃ t, exec (.sramUncorrectableError r) s = .next t ∧ t.m.saf.reedLost = some 3 ∧ Raised s t 0x4001 0 [0, 3])
    ∧ (∀ r, r ≠ Region.firmware → r ≠ Region.workingConfig → ∃ t, exec (.sramUncorrectableError r) s = .next t
      ∧ r ∈ t.m.clk.ueRegions ∧ t.m.host.faultBits.testBit 4 = true ∧ t.m.saf = s.m.saf
      ∧ (∀ i, r = .profile i → i < s.m.ob.ax.length → (t.m.obst i).loading = true ∧ Frame [.clk, .ob, .host] s t)
      ∧ (∀ i, r = .fingering i → i < s.m.ax.length → (∀ o ∈ (t.m.axis i).tabs, (o.map (fun x => x.valid)).getD false = false)
        ∧ (∀ j, j ≠ i → t.m.axis j = s.m.axis j) ∧ Frame [.clk, .ax, .host] s t)
      ∧ (r = .fabricBuf → (∀ q ∈ t.m.fab.ports, q.buf = []) ∧ (∀ y ∈ t.m.fab.image, y.ok = false)
        ∧ Frame [.clk, .fab, .host] s t)
      ∧ (r = .ringStaging → (∀ i, i < 32 → i < s.m.host.rings.length → (s.m.ring i).active = true →
          (t.m.ring i).halted = true ∧ Raised s t 0x4E42 i [(i : Int), 4]) ∧ Frame [.clk, .po, .recd, .host] s t)
      ∧ (r = .mirrorBuf → t.m.tw.mir = none ∧ Frame [.clk, .tw, .host] s t)
      ∧ (r = .txnContexts → (∀ c, c < s.m.txn.ctx.length → 1 ≤ (s.m.ctx c).st → (s.m.ctx c).st ≤ 6 →
          (t.m.ctx c).st = 7 ∧ (t.m.ctx c).out = some ⟨0x4902, 0, 0, 0⟩) ∧ t.m.txn.lost = []
        ∧ Frame [.clk, .txn, .po, .recd, .host] s t)
      ∧ (r = .recorderStaging → t.m.recd.blk = [] ∧ t.m.recd.staged = [] ∧ t.m.recd.inc.stage = []
        ∧ Frame [.clk, .recd, .host] s t)
      ∧ (r = .preTrigger → t.m.recd.inc.pre = [] ∧ Frame [.clk, .recd, .host] s t)
      ∧ (r = .reserve → Frame [.clk, .host] s t))

/-- At the budget period boundary a waiting SAFE-HOLD acts, with its cause, and no stored parameter value and no boot
record is written (R84). Model's choices in it: assumption 20. -/
def Obligations.BoundarySafeHold : Prop :=
  ∀ (s : State) (c : Nat), s.m.alive = true → s.m.md ≠ .safeHold → s.m.mode.trigs = [.safeHold c] →
    s.m.p P.twinRole 0 = 0 → s.m.fw.stage ≠ 5 → s.m.fw.fallbackDue = false →
    ∃ t, exec .budgetPeriodBoundary s = .next t ∧ t.m.md = .safeHold ∧ t.m.mode.safeHoldCause = some c
      ∧ t.par = s.par ∧ t.boot = s.boot

/-- The budget period boundaries fall on multiples of 50,000 MOT ticks of the free-running counter, each within one
period, and follow no fabric time, so a jump of it changes no period (R25). -/
def Obligations.PeriodGrid : Prop :=
  ∀ s : State, s.m.alive = true →
    (∃ t, exec .budgetPeriodBoundary s = .next t ∧ t.m.raw = s.m.boundaryAt)
    ∧ s.m.boundaryAt % 50000 = 0 ∧ s.m.raw ≤ s.m.boundaryAt ∧ s.m.boundaryAt ≤ s.m.raw + 50000
    ∧ ∀ x : TimeSt, ({ s.m with time := x } : Mod).boundaryAt = s.m.boundaryAt
/-! ### 02 Supply and thermal -/

/-- Sag, interruption and return of the bus: the state, the stamps and the event of each (R57, R58, R576). Model's
choices in it: assumptions 8, 25. -/
def Obligations.SupplyStates : Prop :=
  ∀ (s : State) (v : Nat), s.m.sup.powered = true →
    (s.m.sup.st = .normal → 300 ≤ v → v < 420 → ∃ t, exec (.supplySag v) s = .next t
      ∧ After s t { s.m with sup := { s.m.sup with st := .sag, vbus := v, leftNormal := s.m.raw } }
      ∧ Raised s t 0xC001 0 [(v : Int)])
    ∧ (s.m.sup.st ≠ .interrupted → v < 300 → ∀ svc, ∃ t, exec (.supplyInterrupted v svc) s = .next t
      ∧ t.m.sup.st = .interrupted ∧ t.m.sup.intStart = s.m.raw ∧ t.m.sup.svc24 = svc
      ∧ Raised s t 0xC002 0 [s.m.now]
      ∧ (∀ i ∈ s.m.axes, s.m.moving i = true → (t.m.axis i).arr = .stop .self :: (s.m.axis i).arr))
    ∧ (s.m.sup.st ≠ .normal → s.m.sup.powerFail = false → 430 ≤ v → ∀ rise, ∃ t,
      exec (.supplyRestored v rise) s = .next t
      ∧ After s t { s.m with
          raw := max s.m.raw (rise + 2000000)
          sup := { s.m.sup with
            st := .normal, vbus := v, dcLinkDown := s.m.sup.dcLinkDown && s.m.sup.svcThrough,
            svcThrough := s.m.sup.dcLinkDown && s.m.sup.svcThrough } }
      ∧ Raised s t 0xC003 0 [((rise - s.m.sup.leftNormal) / 200 : Nat)])
    ∧ (s.m.sup.st = .interrupted → ∃ t, exec .dcLinkCollapse s = .next t
      ∧ t.m.sup.dcLinkDown = true ∧ ∀ i ∈ s.m.axes, (t.m.axis i).torque = false)

/-- POWER_FAIL: after 10 ms of interruption, at the reserve level, or when the service supply goes with the bus low;
the control die is held in reset from then on. With SVC_24V present the logic goes on instead (R59, R60, R577). The
ends of a power failure: the store runs out and every load switch goes off, or the bus returns before and a cold start
begins; power back after the first is a cold start too (R59, R61, R62, R86). The return of the bus under SVC_24V ends
SERVICE_SUPPLY_ONLY (R63). Model's choices in it: assumptions 8, 25, 29, 30, 152. -/
def Obligations.PowerFailures : Prop :=
  (∀ (s : State) (v : Nat), s.m.sup.powered = true → s.m.sup.powerFail = false → s.m.sup.st = .interrupted →
      (v < 430 → s.m.sup.svc24 = false → ∃ t, exec (.powerFail v) s = .next t
        ∧ t.m.sup.powerFail = true ∧ t.m.start.inReset = true ∧ t.m.mode.trigs = [])
      ∧ (v < 430 → s.m.sup.svc24 = true → s.m.sup.serviceOnly = false → ∃ t, exec (.powerFail v) s = .next t
        ∧ t.m.sup.serviceOnly = true ∧ t.m.sup.powerFail = false ∧ t.m.start = s.m.start
        ∧ (∀ i ∈ s.m.axes, (t.m.axis i).torque = false) ∧ Raised s t 0xC00E 0 [])
      ∧ (s.m.sup.svc24 = false → ∃ t, exec .holdupReserveLevel s = .next t
        ∧ t.m.sup.powerFail = true ∧ t.m.start.inReset = true)
      ∧ (v < 430 → s.m.sup.svc24 = true → ∃ t, exec (.serviceSupplyLoss v) s = .next t
        ∧ t.m.sup.powerFail = true ∧ t.m.sup.svc24 = false ∧ t.m.start.inReset = true))
  ∧ (∀ s : State,
      (s.m.sup.powered = true → s.m.sup.powerFail = true → ∃ t, exec .holdupExhausted s = .next t
        ∧ t.m.sup.powered = false ∧ t.m.io.ls.all (fun c => !c.out) = true ∧ t.m.io.ls.length = s.m.io.ls.length)
      ∧ (s.m.sup.powered = true → s.m.sup.powerFail = true → ∃ t,
        exec .powerFailRestart s = .next t
        ∧ t.m.md = .starting ∧ t.m.start.cold = true ∧ t.m.start.step = 1 ∧ t.m.alive = true
        ∧ t.m.srst.atPowerup = Config.srstLow s.m.freeCtr ∧ t.par = s.par ∧ t.boot = s.boot
        ∧ (s.m.md ≠ .starting → Raised s t 0x4E01 0 [s.m.md.num, Mode.starting.num, 0]))
      ∧ (s.m.sup.powered = false → ∀ svc low, ∃ t, exec (.logicPowerOn svc low) s = .next t
        ∧ t.m.md = .starting ∧ t.m.start.cold = true ∧ t.m.start.step = 1 ∧ t.m.alive = true
        ∧ t.m.sup.svc24 = svc ∧ t.m.srst.atPowerup = low ∧ t.m.nv.confirmed = s.m.nv.confirmed
        ∧ t.par = s.par ∧ t.boot = s.boot)
      ∧ (s.m.sup.powered = true → (s.m.sup.serviceOnly = true ∨ (s.m.sup.st = .normal ∧ s.m.sup.svcThrough = true)) →
        ∀ v, 430 ≤ v → ∃ t,
        exec (.serviceSupplyBusReturn v) s = .next t
        ∧ t.m.sup.serviceOnly = false ∧ t.m.sup.dcLinkDown = false ∧ t.m.sup.vbus = v))

/-- The peak-power governor: the limit begins, its lowerings are counted, one each 10 ms and at most nine, it ends
below 80 %. The peak reserve runs empty within a tick where the bus power takes what is left of it, and recovers where
what flows back brings it to a tenth of E_MAX (R54, R55). Model's choices in it: assumptions 5, 8, 26, 27. -/
def Obligations.PowerLimit : Prop :=
  ∀ (s : State) (w : Nat), s.m.alive = true →
    (s.m.sup.limitActive = false → s.m.pLimit ≤ w * 1000 → ∃ t, exec (.busPowerLimit w) s = .next t
      ∧ t.m.sup.limitActive = true ∧ t.m.sup.lowerings = 0 ∧ Raised s t 0xC005 0 [1, (s.m.pLimit / 1000 : Nat)])
    ∧ (s.m.sup.limitActive = true → s.m.pLimit ≤ w * 1000 → ∃ t, exec (.busPowerLowering w) s = .next t
      ∧ t.m.sup.lowerings = min 9 (s.m.sup.lowerings + 1)
      ∧ t.m.raw = max s.m.raw (s.m.sup.lowerAt + 2000000) ∧ t.m.sup.lowerAt = t.m.raw)
    ∧ (s.m.sup.limitActive = true → w * 10000 < s.m.pLimit * 8 → ∃ t, exec (.busPowerLimitClear w) s = .next t
      ∧ t.m.sup.limitActive = false ∧ (∀ i, (t.m.axis i).tempLimit = none)
      ∧ Raised s t 0xC005 0 [0, (s.m.pLimit / 1000 : Nat)])
    ∧ (s.m.sup.reserveEmpty = false → 0 ≤ s.m.sup.reserve →
        s.m.sup.reserve + s.m.pCont ≤ (s.m.sup.power : Int) * 1000 → ∃ t, exec .peakReserveEmpty s = .next t
      ∧ After s t { s.m with sup := { s.m.sup with reserve := 0, reserveEmpty := true } } ∧ Raised s t 0xC006 0 [])
    ∧ (∀ tenth : Int, (s.m.eMax + 9) / 10 = tenth → s.m.sup.reserveEmpty = true → 0 < s.m.eMax →
        s.m.sup.reserve ≤ tenth → tenth - s.m.sup.reserve ≤ s.m.pCont - (s.m.sup.power : Int) * 1000 →
        ∃ t, exec .peakReserveRecovered s = .next t
      ∧ After s t { s.m with sup := { s.m.sup with reserve := tenth, reserveEmpty := false } })

/-- Over-voltage: the clamp above 160 V and its release below 155 V; above 170 V every axis loses torque without STO,
and the state ends below 155 V (R64). Model's choices in it: assumptions 8, 27. -/
def Obligations.OverVoltage : Prop :=
  ∀ (s : State) (v : Nat), s.m.alive = true →
    (1600 < v → s.m.sup.regenClamp = false → ∃ t, exec (.regenClamp v) s = .next t
      ∧ After s t { s.m with sup := { s.m.sup with vbus := v, regenClamp := true } } ∧ Raised s t 0xC007 0 [1])
    ∧ (v < 1550 → s.m.sup.regenClamp = true → ∃ t, exec (.regenClamp v) s = .next t
      ∧ After s t { s.m with sup := { s.m.sup with vbus := v, regenClamp := false } } ∧ Raised s t 0xC007 0 [0])
    ∧ (1700 < v → s.m.sup.overvoltage = false → ∃ t, exec (.busOvervoltage v) s = .next t
      ∧ t.m.sup.overvoltage = true ∧ t.m.saf.sto = s.m.saf.sto ∧ (∀ i ∈ s.m.axes, (t.m.axis i).torque = false)
      ∧ Raised s t 0xC008 0 [])
    ∧ (v < 1550 → s.m.sup.overvoltage = true → ∃ t, exec (.overvoltageRecovery v) s = .next t
      ∧ t.m.sup.overvoltage = false ∧ t.m.sup.vbus = v)

/-- A baseplate sample sets the derating factor, 1 up to 85 degC, falling by 1.5 % per degree to 0.4 above 125 degC;
at 130 degC it demands SAFE-HOLD (R53, R70). A fault of an encoder supply and the loss of the safety rail (R78, R339).
Model's choices in it: assumptions 8, 20, 28, 91, 150. -/
def Obligations.ThermalAndRails : Prop :=
  ∀ s : State, s.m.alive = true →
    (∀ d : Int, ∃ t, exec (.baseplateTempSample d) s = .next t
      ∧ t.m.sup.tbp = d
      ∧ (d ≤ 850 → t.m.sup.kT = 10000) ∧ (850 < d → d ≤ 1250 → (t.m.sup.kT : Int) = 10000 - 15 * (d - 850))
      ∧ (1250 < d → t.m.sup.kT = 4000)
      ∧ (1300 ≤ d → s.m.sup.band < 3 → .safeHold 3 ∈ t.m.mode.trigs ∧ Raised s t 0xC00B 0 []))
    ∧ (∀ conn, ∃ t, exec (.encoderSupplyFault conn) s = .next t
      ∧ After s t { s.m with sup := { s.m.sup with
          encLimited := (s.m.sup.encLimited.1 || decide (conn = 0), s.m.sup.encLimited.2 || decide (conn = 1)) } }
      ∧ Raised s t 0xC00D 0 [(conn : Int)])
    ∧ (s.m.saf.boreLost = none → ∃ t, exec .safetyRailLoss s = .next t
      ∧ t.m.saf.boreLost = some 5 ∧ Raised s t 0x4001 1 [1, 5])

/-! ### 03 Modes, starts, service reset -/

/-- A control-die reset: STARTING, warm, at step 1, held in reset with its cause; a counted one during a start, or
within 60 s after it, fails that start (R82, R90, R92). Model's choices in it: assumptions 20, 37, 38, 132. -/
def Obligations.DieReset : Prop :=
  ∀ (s : State) (c : ResetCause), s.m.alive = true →
    ∃ t, exec (.controlDieReset c) s = .next t
      ∧ t.m.md = .starting ∧ t.m.start.cold = false ∧ t.m.start.step = 1 ∧ t.m.start.cause = some c
      ∧ t.m.start.inReset = true ∧ t.m.alive = false ∧ t.m.mode.trigs = []
      ∧ (s.m.md = .starting → (c = .watchdog ∨ c = .clockRatio) → t.m.start.failed = some (0, 3))
      ∧ (s.m.md ≠ .starting → (c = .watchdog ∨ c = .clockRatio) → ∀ l, s.m.start.leftAt = some l →
          t.m.start.failed = if s.m.raw < l + 12000000000 then some (0, 4) else none)
      ∧ (c ≠ .watchdog → c ≠ .clockRatio → t.m.start.failed = none)
      ∧ t.par = s.par ∧ t.boot = s.boot

/-- The steps of a start: a passed first step of a cold start ends the reset and goes on with step 2; a failed step is
noted with its reason, and START_FAILED leads to SAFE-HOLD with the failure stamped (R86, R90, R91). A start whose
steps have passed ends in ASSEMBLY without a valid configuration, in COMMISSION without a confirmed check value, else,
alone, in its resume mode (R82, R83). Model's choices in it: assumptions 39, 41. -/
def Obligations.StartSequence : Prop :=
  (∀ s : State, s.m.sup.powered = true → s.m.sup.powerFail = false → s.m.md = .starting →
      (∀ r : StepReport, s.m.start.failed = none → s.m.start.step = 1 → s.m.start.cold = true → r.pass = true →
        ∃ t, exec (.startStep r) s = .next t ∧ t.m.start.step = 2 ∧ t.m.start.inReset = false
          ∧ t.m.start.failed = none
          ∧ t.par = s.par ∧ t.boot = s.boot)
      ∧ (∀ r : StepReport, s.m.start.failed = none → 1 ≤ s.m.start.step → s.m.start.step ≤ 12 → r.pass = false →
        ∃ t, exec (.startStep r) s = .next t ∧ t.m.start.failed = some (s.m.start.step, r.reason) ∧ t.par = s.par)
      ∧ (∀ f, s.m.start.failed = some f → ∃ t, exec .startFailed s = .next t
          ∧ t.m.md = .safeHold ∧ t.m.start.history = s.m.start.history ++ [s.m.raw] ∧ t.m.start.failed = none
          ∧ t.m.start.inReset = false ∧ t.par = s.par))
  ∧ (∀ s : State, s.m.allPassed = true →
      (s.m.cfgValid = false → ∃ t, exec .startComplete s = .next t ∧ t.m.md = .assembly ∧ t.m.start.step = 0)
      ∧ (s.m.cfgValid = true → s.m.nv.confirmed = none →
          ∃ t, exec .startComplete s = .next t ∧ t.m.md = .commission ∧ t.m.start.step = 0)
      ∧ (s.m.cfgValid = true → s.m.nv.confirmed.isSome = true → s.m.p P.twinRole 0 = 0 →
          ∃ t, exec .startComplete s = .next t ∧ t.m.md = s.m.resumeMode ∧ t.m.start.step = 0))

/-- What ends a hold or a wait around a start: the automatic restart, the loop-hold limit, the proof test that was
owed (R87, R91, R92). A press of the service reset resets the control die; 5 s of low level is a stuck input, which is
heard again only after it has been high (R96, R97, R98). Model's choices in it: assumptions 8, 42, 91. -/
def Obligations.StartTimers : Prop :=
  ∀ s : State, s.m.sup.powered = true →
    (∀ u, s.m.alive = true → s.m.md = .safeHold → s.m.start.autoAt = some u → ∃ t, exec .autoRestart s = .next t
      ∧ t.m.start.cause = some .autoRestart ∧ t.m.md = .starting ∧ t.m.raw = max s.m.raw u)
    ∧ (∀ u, s.m.start.holdUntil = some u → ∃ t, exec .resetLoopHoldExpiry s = .next t
      ∧ t.m.raw = max s.m.raw u ∧ t.m.start.holdUntil = none
      ∧ ∀ sd : Side, s.m.held sd = true → (t.m.saf.loops.get sd).closed = false ∧ t.m.held sd = false)
    ∧ (∀ sd : Side, s.m.alive = true → s.m.proofPending sd = true →
        ∃ t, exec (.loopVoltageAppears sd true true) s = .next t
      ∧ t.m.proofPending sd = false ∧ Raised s t 0x4E09 (sideNum sd) [1])
    ∧ (∀ (sd : Side) (b : Bool), s.m.alive = true → s.m.proofPending sd = true →
        ∃ t, exec (.loopVoltageAppears sd false b) s = .next t
      ∧ t.m.saf.reedLost.isSome = true ∧ (b = false → t.m.saf.boreLost.isSome = true)
        ∧ Raised s t 0x4E09 (sideNum sd) [2])
    ∧ (s.m.sup.powerFail = false → s.m.srst.needHigh = false → s.m.start.inReset = false →
      ∀ b, ∃ t, exec (.srstPress b) s = .next t
        ∧ t.m.srst.pressedAt = some s.m.raw ∧ Raised s t 0x4E0A 0 [] ∧ t.m.start.inReset = true ∧ t.m.start.cause = some .srst ∧ t.m.md = .starting)
    ∧ (s.m.srst.needHigh = true → exec (.srstPress false) s = .next s)
    ∧ (∀ u, s.m.srst.pressedAt = some u → ∃ t, exec .srstStuck s = .next t
      ∧ After s t { s.m with
          raw := max s.m.raw (u + 1000000000)
          srst := { s.m.srst with pressedAt := none, needHigh := true, stuck := true } }
      ∧ Raised s t 0x4E0B 0 [])

/-- MODE_REQUEST leaves its trigger for the next period boundary when the first condition of its transition that could
fail holds, and is refused with that condition's status and no other effect when it does not (R82, R84). Out of SAFE-
HOLD, back to the factory, and the host's evacuation source (R85, R91, R101). A wake from DORMANT is left for the
boundary, or fails as step 11 of a start does (R103). A ring command is taken here as Ready: its descriptor is fetched
and next on its ring. Model's choices in it: assumptions 8, 20, 32, 33, 36, 46, 133, 144. -/
def Obligations.ModeCommands : Prop :=
  (∀ (s : State) (h : Hdr) (n : Nat) (md : Mode), s.m.alive = true → s.m.md.requests = true → modeOfNum n = some md →
      (s.m.modeFault s.par md = none → Ready (.modeRequest h n) s → ∃ t, exec (.modeRequest h n) s = .next t
        ∧ .request md (some h) ∈ t.m.mode.trigs ∧ t.m.md = s.m.md ∧ Frame [.mode, .recd, .host, .po] s t)
      ∧ (∀ e, s.m.modeFault s.par md = some e → Ready (.modeRequest h n) s → ∃ t, exec (.modeRequest h n) s = .next t
        ∧ After s t s.m ∧ Answered s t h e 0))
  ∧ (∀ (s : State) (h : Hdr), s.m.alive = true →
      (s.m.md = .safeHold → s.m.mode.safeHoldLatched = false → s.m.holdCause = false →
        Ready (.startRequest h) s → ∃ t, exec (.startRequest h) s = .next t
          ∧ t.m.md = .starting ∧ t.m.start.inReset = true ∧ t.m.start.cause = some .startRequest)
      ∧ (s.m.md = .safeHold → s.m.mode.safeHoldLatched = true →
        Ready (.startRequest h) s → ∃ t, exec (.startRequest h) s = .next t ∧ After s t s.m ∧ Answered s t h 0x2105 0)
      ∧ (s.m.md = .safeHold → s.m.mode.safeHoldLatched = false → s.m.holdCause = true →
        Ready (.startRequest h) s → ∃ t, exec (.startRequest h) s = .next t ∧ After s t s.m ∧ Answered s t h 0x2101 0)
      ∧ (s.m.md = .service → s.m.allRest = true → s.m.host.ops.length < 8 →
        Ready (.restoreFactory h s.m.serialLo) s → ∃ t, exec (.restoreFactory h s.m.serialLo) s = .next t
          ∧ After s t { s.m with
              nv := { s.m.nv with config := (false, false), eraseOwed := true }
              host := (s.m.addOp (some h) .restoreFactory 100).host })
      ∧ (∀ w, s.m.md = .service → s.m.allRest = true → w ≠ s.m.serialLo →
        Ready (.restoreFactory h w) s → ∃ t, exec (.restoreFactory h w) s = .next t ∧ After s t s.m
          ∧ Answered s t h 0x1101 0)
      ∧ (∀ b, s.m.md.comm = true → Ready (.evacuate h b) s → ∃ t, exec (.evacuate h b) s = .next t
          ∧ t.m.mode.evacHost = b ∧ Answered s t h 0 0 ∧ Frame [.mode, .recd, .host, .po] s t)
      ∧ (∀ src : WakeSource, s.m.md = .dormant → s.m.start.failed = none →
        (∃ t, exec (.dormantWake src true) s = .next t
          ∧ .dormantWake (wakeNum (s.m.mode.wake.getD src)) ∈ t.m.mode.trigs
          ∧ Raised s t 0x4E10 0 [(wakeNum (s.m.mode.wake.getD src) : Int)])
        ∧ (∃ t, exec (.dormantWake src false) s = .next t ∧ t.m.start.failed = some (11, 1)
          ∧ Frame [.start, .mode, .recd, .host, .po] s t)))

/-- The workbench's loop test closes one loop for at most 10 s and only in COMMISSION with every portal of the side
read as locked; at its limit the loop opens (R80). The configuration file is taken whole or not at all (R82). Model's
choices in it: assumptions 44, 45. -/
def Obligations.Workbench : Prop :=
  ∀ s : State, s.m.alive = true →
    (∀ sd : Side, s.m.testMay sd = true → s.m.saf.loops.L.test = none → s.m.saf.loops.R.test = none →
      ∃ t, exec (.loopTest sd) s = .next t
        ∧ After s t (s.m.onLoop sd (fun l => { l with test := some (s.m.raw + 2000000000), reed := true, bore := true })))
    ∧ (∀ sd : Side, s.m.testMay sd = false → exec (.loopTest sd) s = .next s)
    ∧ (∀ (sd : Side) (u : Nat), (s.m.saf.loops.get sd).test = some u → ∃ t, exec (.loopTestTimeout sd) s = .next t
        ∧ After s t (({ s.m with raw := max s.m.raw u } : Mod).onLoop sd
            (fun l => { l with test := none, reed := false, bore := false })))
    ∧ (∀ (f : ConfigFile) (st : PStore), s.m.md = .assembly → s.m.nv.eraseOwed = false →
        fileStore s.m.id.part f.params = some st →
        ((s.m.fileLoaded s.par st f).configFault st = none → ∃ t, exec (.configurationFileLoad f) s = .next t
          ∧ t.par = st ∧ .request .commission none ∈ t.m.mode.trigs ∧ t.boot = s.boot)
        ∧ ((s.m.fileLoaded s.par st f).configFault st ≠ none → exec (.configurationFileLoad f) s = .next s))


/-! ### 04 Host link, rings, parameters, long operations, time and health registers -/

/-- The read-side latches of the clock, and the commands that clear a counter, change their own register and nothing
else (R146, R147, R148). A write of 1 clears a latched fault bit and no other; the host watchdog expires once, latches
its bit and is reported (R148, R150). A narrow or misaligned register write is ignored, and one to HOST_HEARTBEAT that
changes it starts the watchdog's time again (R116, R118). Model's choices in it: assumptions 8, 52. -/
def Obligations.HostRegisters : Prop :=
  ∀ s : State, s.m.alive = true →
    exec .timeNsRead s = .next { s with m := { s.m with host := { s.m.host with timeSec := (s.m.now / 1000000000).toNat } } }
    ∧ exec .rawLoRead s = .next { s with m := { s.m with host := { s.m.host with rawHi := s.m.raw / 4294967296 } } }
    ∧ exec .offsetLoRead s
      = .next { s with m := { s.m with host := { s.m.host with offHi := toBits 64 s.m.time.offset / 4294967296 } } }
    ∧ exec .timeCapture s = .next { s with m := { s.m with host := { s.m.host with cap := s.m.now } } }
    ∧ exec .clearRegLocked s = .next { s with m := { s.m with host := { s.m.host with regLocked := 0 } } }
    ∧ exec .clearSramCe s = .next { s with m := { s.m with clk := { s.m.clk with ceCount := 0 } } }
    ∧ (∀ mask : Nat, ∃ t, exec (.healthFaultBitsClear mask) s = .next t
      ∧ (∀ k, k < 11 → t.m.host.faultBits.testBit k = (s.m.host.faultBits.testBit k && !mask.testBit k))
      ∧ After s t { s.m with host := { s.m.host with faultBits := t.m.host.faultBits } })
    ∧ (s.m.host.wdogMs ≠ 0 → s.m.host.silentDone = false → ∃ t, exec .hostWatchdogExpiry s = .next t
      ∧ After s t { s.m with
          raw := max s.m.raw (s.m.host.wdogSince + s.m.host.wdogMs * 200000)
          host := { s.m.host with silentDone := true, faultBits := s.m.host.faultBits ||| 1024 } }
      ∧ Raised s t 0x4E43 0 [])
    ∧ (s.m.host.wdogMs = 0 ∨ s.m.host.silentDone = true → exec .hostWatchdogExpiry s = .next s)
    ∧ (∀ off v n : Nat, (n ≠ 4 ∧ n ≠ 8) ∨ (n = 4 ∧ off % 4 ≠ 0) → exec (.registerWrite off v n) s = .next s)
    ∧ (∀ v : Nat, v < 4294967296 → v ≠ s.m.host.heartbeat → exec (.registerWrite 0x5030 v 4) s
      = .next { s with m := { s.m with host := { s.m.host with
          heartbeat := v, wdogSince := s.m.raw, silentDone := false } } })

/-- A host-link reset takes the link down and leaves the doors alone: every ring has its set-up of reset and nothing
fetched, what was fetched is set aside for completions that the host never sees, no version is negotiated, interrupts
and the watchdog are off, every ring-issued long operation is marked to end at its next step, and the reset is
reported (R113). Link up stores the trained width and speed and reports them, as degraded where either is lower (R111,
R152). A version request is ignored while a ring is active, else it is stored and answered with what both speak, or
with an event (R121, R122). The power state is stored, and D3hot halts every active ring (R111). Model's choices in
it: assumptions 8, 49, 50. -/
def Obligations.HostLink : Prop :=
  ∀ s : State, s.m.alive = true →
    (∀ cause : Nat, ∃ t, exec (.hostLinkReset cause) s = .next t
      ∧ t.m.host.linkUp = false ∧ t.m.host.d3 = false ∧ t.m.host.irqEn = false ∧ t.m.host.wdogMs = 0
      ∧ t.m.host.verReq = (0, 0) ∧ t.m.host.neg.getD 0 none = none
      ∧ (∀ i, setupOf (t.m.ring i) = setupOf Ring.reset ∧ (t.m.ring i).fetched = [])
      ∧ t.m.host.gone = s.m.host.gone ++ s.m.host.left
      ∧ t.m.host.ops.length = s.m.host.ops.length
      ∧ (∀ o ∈ t.m.host.ops, o.hdr.isSome = true → o.cancel.isSome = true)
      ∧ Raised s t 0x4E41 0 [(cause : Int)] ∧ Frame [.host, .fab, .recd, .po] s t)
    ∧ (∀ w sp : Nat, ∃ t, exec (.hostLinkUp w sp) s = .next t
      ∧ After s t { s.m with host := { s.m.host with linkUp := true, width := w, speed := sp } }
      ∧ Raised s t 0x4E40 0 [(w : Int), (sp : Int)]
      ∧ ((w < 2 ∨ sp < 80) → Raised s t 0x4E46 0 [(w : Int), (sp : Int)]))
    ∧ (∀ v : Nat, s.m.host.rings.any (fun r => r.active) = true → exec (.hostVerReq v) s = .next s)
    ∧ (∀ v n, s.m.host.rings.any (fun r => r.active) = false →
      negotiate (ownVer 0) ⟨field v 8 8, field v 0 8, none⟩ = n → ∃ t, exec (.hostVerReq v) s = .next t
      ∧ After s t { s.m with host := { s.m.host with
          verReq := (field v 8 8, field v 0 8), neg := upd s.m.host.neg 0 (fun _ => n) } }
      ∧ (∀ x, n = some x → Raised s t 0x4E44 0 [(x.1 : Int), (x.2 : Int)])
      ∧ (n = none → Raised s t 0x4E45 0 [(field v 8 8 : Int), (field v 0 8 : Int)]))
    ∧ exec (.powerStateChange false) s = .next { s with m := { s.m with host := { s.m.host with d3 := false } } }
    ∧ (∃ t, exec (.powerStateChange true) s = .next t ∧ t.m.host.d3 = true ∧ Frame [.host] s t
      ∧ ∀ i, (s.m.ring i).active = true → (t.m.ring i).halted = true)

/-- Enabling an idle ring with a valid set-up makes it active with every index at 0; the first failing check halts it
with its cause instead, and it is not active. A second enable of an idle ring changes its other fields only, and one
of a draining ring none of them, while the indices start again (R125, R126). A disable of an active ring stops its
fetching and marks its long operations to end; one of an idle ring stores the other fields; a disabled or halted ring
with nothing fetched is drained, any other is not (R126). A doorbell stores its index; one that overruns an active
ring halts it with cause 3, and no other does (R127, R128). Model's choices in it: assumptions 8, 48. -/
def Obligations.RingSetUp : Prop :=
  ∀ (s : State) (i cfg : Nat), s.m.alive = true → i < 32 → i < s.m.host.rings.length →
    ((s.m.ring i).active = false → (s.m.ring i).enable = false →
      (s.m.ringFault ((s.m.ring i).setCfg cfg) = 0 → ∃ t, exec (.ringEnable i cfg) s = .next t
        ∧ t.m.ring i = { (s.m.ring i).setCfg cfg with
            enable := true, active := true, modIdx := 0, cplIdx := 0, hostIdx := 0, cplCons := 0, count := 0,
            since := none, ringSeq := 0, lost := false, fetched := [] }
        ∧ (∀ j, j ≠ i → t.m.ring j = s.m.ring j) ∧ Frame [.host] s t)
      ∧ (∀ c, c ≠ 0 → s.m.ringFault ((s.m.ring i).setCfg cfg) = c → ∃ t, exec (.ringEnable i cfg) s = .next t
        ∧ (t.m.ring i).active = false ∧ (t.m.ring i).halted = true ∧ (t.m.ring i).haltCause = c
        ∧ t.m.host.faultBits.testBit 5 = true ∧ Raised s t 0x4E42 i [(i : Int), (c : Int)]
        ∧ Frame [.host, .recd, .po] s t))
    ∧ ((s.m.ring i).active = false → (s.m.ring i).enable = true → ∃ t, exec (.ringEnable i cfg) s = .next t
        ∧ t.m.ring i = { (s.m.ring i).setCfg cfg with enable := true }
        ∧ (∀ j, j ≠ i → t.m.ring j = s.m.ring j) ∧ Frame [.host] s t)
    ∧ ((s.m.ring i).active = true → (s.m.ring i).enable = false → s.m.ringFault (s.m.ring i) = 0 →
        ∃ t, exec (.ringEnable i cfg) s = .next t
        ∧ t.m.ring i = { s.m.ring i with
            enable := true, modIdx := 0, cplIdx := 0, hostIdx := 0, cplCons := 0, count := 0,
            since := none, ringSeq := 0, lost := false }
        ∧ (∀ j, j ≠ i → t.m.ring j = s.m.ring j) ∧ Frame [.host] s t)
    ∧ ((s.m.ring i).active = true → ∃ t, exec (.ringDisable i cfg) s = .next t
        ∧ t.m.ring i = { s.m.ring i with enable := false, halted := false, haltCause := 0 }
        ∧ (∀ j, j ≠ i → t.m.ring j = s.m.ring j)
        ∧ (∀ o ∈ t.m.host.ops, o.hdr.map (fun h => h.ring) = some i → o.cancel.isSome = true) ∧ Frame [.host] s t)
    ∧ ((s.m.ring i).active = false → ∃ t, exec (.ringDisable i cfg) s = .next t
        ∧ t.m.ring i = { (s.m.ring i).setCfg cfg with enable := false, halted := false, haltCause := 0 }
        ∧ (∀ j, j ≠ i → t.m.ring j = s.m.ring j) ∧ Frame [.host] s t)
    ∧ ((s.m.ring i).active = true → (s.m.ring i).fetched = [] →
        ((s.m.ring i).enable = false ∨ (s.m.ring i).halted = true) → ∃ t, exec (.ringDrained i) s = .next t
        ∧ t.m.ring i = { s.m.ring i with active := false } ∧ (∀ j, j ≠ i → t.m.ring j = s.m.ring j)
          ∧ Frame [.host] s t)
    ∧ (((s.m.ring i).active = false ∨ (s.m.ring i).fetched ≠ []
          ∨ ((s.m.ring i).enable = true ∧ (s.m.ring i).halted = false)) → exec (.ringDrained i) s = .next s)
    ∧ (∀ idx d : Nat, idx < 65536 →
        (if (s.m.ring i).eventKind then sub16 (s.m.ring i).modIdx idx else sub16 idx (s.m.ring i).modIdx) = d →
      (((s.m.ring i).active = false ∨ (s.m.ring i).halted = true ∨ d ≤ (s.m.ring i).size) →
        ∃ t, exec (.doorbellHostIndex i idx) s = .next t
        ∧ t.m.ring i = { s.m.ring i with hostIdx := idx } ∧ (∀ j, j ≠ i → t.m.ring j = s.m.ring j)
        ∧ Frame [.host] s t)
      ∧ ((s.m.ring i).active = true → (s.m.ring i).halted = false → (s.m.ring i).size < d →
        ∃ t, exec (.doorbellHostIndex i idx) s = .next t
        ∧ (t.m.ring i).hostIdx = idx ∧ (t.m.ring i).halted = true ∧ (t.m.ring i).haltCause = 3
        ∧ Raised s t 0x4E42 i [(i : Int), 3] ∧ Frame [.host, .recd, .po] s t))
    ∧ (∀ idx : Nat, idx < 65536 →
      (((s.m.ring i).active = false ∨ (s.m.ring i).halted = true ∨ (s.m.ring i).eventKind = true
          ∨ sub16 (s.m.ring i).cplIdx idx ≤ (s.m.ring i).size) →
        ∃ t, exec (.doorbellCplConsumed i idx) s = .next t
        ∧ t.m.ring i = { s.m.ring i with cplCons := idx } ∧ (∀ j, j ≠ i → t.m.ring j = s.m.ring j)
        ∧ Frame [.host] s t)
      ∧ ((s.m.ring i).active = true → (s.m.ring i).halted = false → (s.m.ring i).eventKind = false →
          (s.m.ring i).size < sub16 (s.m.ring i).cplIdx idx → ∃ t, exec (.doorbellCplConsumed i idx) s = .next t
        ∧ (t.m.ring i).cplCons = idx ∧ (t.m.ring i).halted = true ∧ (t.m.ring i).haltCause = 3
        ∧ Raised s t 0x4E42 i [(i : Int), 3] ∧ Frame [.host, .recd, .po] s t))

/-- The ring that is next fetches: up to eight descriptors whose words nothing refuses, as many as the host has put
there and as many as have a completion slot, wait in their order with the next indices and their words (R128, R129,
R134, R137); one whose words alone are refused is answered with its status (R129, R130); no other ring fetches (R137).
A DMA error halts an active ring with its cause and reports it, and a fetched command whose buffer it was is answered
HOST_DMA_ERROR (R128, R151). A coalescing timeout ends the ring's count and raises its vector: a message where the
vector is not masked, a pending bit where it is; an unmask sends what is pending (R143, R144). Model's choices in it:
assumptions 8, 51, 145. -/
def Obligations.Fetching : Prop :=
  ∀ (s : State) (i : Nat), s.m.alive = true → i < s.m.host.rings.length →
    (s.m.md.fetches = true → s.m.host.linkUp = true → s.m.host.d3 = false →
      s.m.gov.suspended.getD 4 false = false → s.m.nextRing = some i →
      (∀ ws : List (List Nat), ws.length ≤ 8 → ws.length ≤ (s.m.ring i).free → (s.m.ring i).modIdx < 65536 →
        (s.m.ring i).hostIdx < 65536 → ws.length ≤ sub16 (s.m.ring i).hostIdx (s.m.ring i).modIdx →
        (∀ w ∈ ws, w.length = 16 ∧ descFault w = none) →
        ∃ t, exec (.descriptorFetch i ws.flatten) s = .next t
          ∧ (t.m.ring i).modIdx = ((s.m.ring i).modIdx + ws.length) % 65536
          ∧ (t.m.ring i).fetched = (s.m.ring i).fetched ++ (ws.zip (List.range ws.length)).map (fun x =>
              { idx := ((s.m.ring i).modIdx + x.2) % 65536, words := x.1, begun := false, done := none })
          ∧ t.m.host.rr = upd s.m.host.rr (s.m.ring i).prio (fun _ => (i + 1) % 32)
          ∧ (∀ j, j ≠ i → t.m.ring j = s.m.ring j) ∧ Frame [.host] s t)
      ∧ (∀ w st, w.length = 16 → descFault w = some st → ∃ t, exec (.descriptorFetch i w) s = .next t
        ∧ (t.m.ring i).modIdx = ((s.m.ring i).modIdx + 1) % 65536
        ∧ Answered s t ⟨i, (s.m.ring i).modIdx, w.getD 0 0 % 65536, bit (w.getD 1 0) 31, bit (w.getD 1 0) 29⟩ st 0
        ∧ Frame [.host] s t))
    ∧ (∀ w : List Nat, s.m.nextRing ≠ some i → exec (.descriptorFetch i w) s = .next s)
    ∧ (∀ what : DmaXfer, (s.m.ring i).active = true → ∃ t, exec (.hostDmaError i what) s = .next t
      ∧ (t.m.ring i).halted = true ∧ (t.m.ring i).haltCause = (if dmaWrites what then 5 else 4)
      ∧ t.m.host.faultBits.testBit 5 = true
      ∧ Raised s t 0x4E42 i [(i : Int), if dmaWrites what then 5 else 4] ∧ Frame [.host, .recd, .po] s t
      ∧ (∀ k f, dmaOf what = some k → (s.m.ring i).fetched.find? (fun f => f.idx == k && f.done.isNone) = some f →
          s.m.host.gone = [] → Answered s t (f.hdr i) 0x4001 0))
    ∧ (∀ what : DmaXfer, (s.m.ring i).active = false → exec (.hostDmaError i what) s = .next s)
    ∧ (∀ u, (s.m.ring i).since = some u → (s.m.ring i).coalUs ≠ 0 → s.m.host.linkUp = true → s.m.host.d3 = false →
      ∃ t, exec (.interruptCoalesceTimeout i) s = .next t
      ∧ (t.m.ring i).count = 0 ∧ (t.m.ring i).since = none
      ∧ t.m.raw = max s.m.raw (u + (s.m.ring i).coalUs * 200)
      ∧ ((s.m.host.msix.getD (s.m.ring i).vector Msix.reset).mask = false →
          t.m.host.msgs = s.m.host.msgs ++ [(s.m.ring i).vector])
      ∧ ((s.m.host.msix.getD (s.m.ring i).vector Msix.reset).mask = true →
          (s.m.ring i).vector < s.m.host.msix.length → t.m.host.msgs = s.m.host.msgs
            ∧ (t.m.host.msix.getD (s.m.ring i).vector Msix.reset).pending = true)
      ∧ Frame [.raw, .host] s t)
    ∧ (∀ k, k < s.m.host.msix.length → s.m.host.linkUp = true → s.m.host.d3 = false →
      ∃ t, exec (.msixVectorUnmask k) s = .next t
      ∧ (t.m.host.msix.getD k Msix.reset).mask = false ∧ (t.m.host.msix.getD k Msix.reset).pending = false
      ∧ t.m.host.msgs = s.m.host.msgs ++ (if (s.m.host.msix.getD k Msix.reset).pending then [k] else [])
      ∧ Frame [.host] s t)

/-- A parameter that is written reads back as written, when nothing forbids the write; an RWL parameter outside
ASSEMBLY and COMMISSION, a value out of range, one that breaks a relation between parameters and a name that stands
for nothing are refused and change nothing. A read gives the last value written (R138, R578). A ring command is taken
here as Ready: its descriptor is fetched and next on its ring. Model's choices in it: assumptions 54, 144. -/
def Obligations.Parameters : Prop :=
  ∀ (s : State) (h : Hdr) (dom id inst v : Nat), s.m.alive = true → s.m.md.comm = true → s.par.wf = true →
    (∀ d, parName s.m.id.part dom id inst = .inl d →
      ((d.rwl = false ∨ s.m.md.rwl = true) → d.eff ≠ .never → valueOk s.m.id.part d (d.arg v) = true →
        relStatus s.m.id.part s.m.id.serial (s.par.set d inst (d.arg v)) d inst (d.arg v) = none →
        Ready (.paramWrite h dom id inst v) s → ∃ t, exec (.paramWrite h dom id inst v) s = .next t
          ∧ t.par.get d inst = d.arg v ∧ t.par.wf = true ∧ Answered s t h 0 0
          ∧ (∀ e j, pFind e.id = some e → pKey e.id j ≠ pKey d.id inst → t.par.get e j = s.par.get e j)
          ∧ (d.eff = .now → t.m.live = s.m.live.set d inst (d.arg v)) ∧ t.boot = s.boot)
      ∧ ((d.rwl = true ∧ s.m.md.rwl = false) ∨ d.eff = .never → Ready (.paramWrite h dom id inst v) s →
          ∃ t, exec (.paramWrite h dom id inst v) s = .next t
        ∧ After s t s.m ∧ Answered s t h 0x2001 0)
      ∧ ((d.rwl = false ∨ s.m.md.rwl = true) → d.eff ≠ .never → valueOk s.m.id.part d (d.arg v) = false →
        Ready (.paramWrite h dom id inst v) s → ∃ t, exec (.paramWrite h dom id inst v) s = .next t
          ∧ After s t s.m ∧ Answered s t h 0x1003 0)
      ∧ (∀ e, (d.rwl = false ∨ s.m.md.rwl = true) → d.eff ≠ .never → valueOk s.m.id.part d (d.arg v) = true →
        relStatus s.m.id.part s.m.id.serial (s.par.set d inst (d.arg v)) d inst (d.arg v) = some e →
        Ready (.paramWrite h dom id inst v) s → ∃ t, exec (.paramWrite h dom id inst v) s = .next t
          ∧ After s t s.m ∧ Answered s t h e 0)
      ∧ (Ready (.paramRead h dom id inst) s → ∃ t, exec (.paramRead h dom id inst) s = .next t
        ∧ After s t s.m ∧ Answered s t h 0 (toBits 64 (readPar s.m.id.part s.par d inst))))
    ∧ (∀ e, parName s.m.id.part dom id inst = .inr e →
      (Ready (.paramWrite h dom id inst v) s → ∃ t, exec (.paramWrite h dom id inst v) s = .next t ∧ After s t s.m
        ∧ Answered s t h e 0)
      ∧ (Ready (.paramRead h dom id inst) s → ∃ t, exec (.paramRead h dom id inst) s = .next t ∧ After s t s.m
        ∧ Answered s t h e 0))

/-- Tables are read and written as blocks: a read gives the bytes asked for; a publication table, a CAN object table,
a user fingering table, a profile, a probe reference and a sequence table that pass their checks are stored. One that
fails is refused with its status, with the place of the fault where the status has one, and so is a block of another
length or offset, a name that stands for nothing, and a table that R348 locks outside ASSEMBLY and COMMISSION;
fingering table 0 is never written (R138, R160, R249, R298, R411, R434). A ring command is taken here as Ready: its
descriptor is fetched and next on its ring. Model's choices in it: assumptions 8, 55, 72, 81, 144. -/
def Obligations.TableBlocks : Prop :=
  ∀ (s : State) (h : Hdr), s.m.alive = true → s.m.md.comm = true →
    (∀ dom tid inst off len tab, tabName s.m.id.part dom tid inst = .inl tab →
      (off + len ≤ tab.size → (off % 8 = 0 ∨ (tab ≠ .profile ∧ tab ≠ .probe)) → Ready (.paramReadBlock h dom tid inst off len) s →
        ∃ t, exec (.paramReadBlock h dom tid inst off len) s = .next t
        ∧ After s t s.m ∧ Gave s t h { status := 0, res := len, buf := ((s.m.tabBytes tab inst).drop off).take len })
      ∧ ((tab.size < off + len ∨ (off % 8 ≠ 0 ∧ (tab = .profile ∨ tab = .probe))) →
          Ready (.paramReadBlock h dom tid inst off len) s →
          ∃ t, exec (.paramReadBlock h dom tid inst off len) s = .next t
        ∧ After s t s.m ∧ Answered s t h 0x1006 0))
    ∧ (∀ dom tid inst off e, tabName s.m.id.part dom tid inst = .inr e →
      (∀ len, Ready (.paramReadBlock h dom tid inst off len) s →
        ∃ t, exec (.paramReadBlock h dom tid inst off len) s = .next t ∧ After s t s.m ∧ Answered s t h e 0)
      ∧ (∀ b, Ready (.paramWriteBlock h dom tid inst off b) s →
        ∃ t, exec (.paramWriteBlock h dom tid inst off b) s = .next t ∧ After s t s.m ∧ Answered s t h e 0))
    ∧ (∀ dom tid inst off b tab, tabName s.m.id.part dom tid inst = .inl tab → tab ≠ .fingering 0 →
      (s.m.md = .commission → (off ≠ 0 ∨ b.length ≠ tab.size) → Ready (.paramWriteBlock h dom tid inst off b) s →
        ∃ t, exec (.paramWriteBlock h dom tid inst off b) s = .next t ∧ After s t s.m ∧ Answered s t h 0x1006 0)
      ∧ (s.m.md.rwl = false → tab ≠ .profile → tab ≠ .probe → tab ≠ .can →
        Ready (.paramWriteBlock h dom tid inst off b) s →
        ∃ t, exec (.paramWriteBlock h dom tid inst off b) s = .next t ∧ After s t s.m ∧ Answered s t h 0x2001 0))
    ∧ (∀ b : List Byte, s.m.md.rwl = true → b.length = 512 → s.m.pubOk (b.map (fun x => x.toNat)) = true →
      Ready (.paramWriteBlock h 0x70 0x7080 0 0 b) s → ∃ t, exec (.paramWriteBlock h 0x70 0x7080 0 0 b) s = .next t
        ∧ t.m.fab.pubTab = b.map (fun x => x.toNat) ∧ Answered s t h 0 0 ∧ Frame [.fab, .nv, .host] s t)
    ∧ (∀ b : List Byte, s.m.md.rwl = true → b.length = 512 → s.m.pubOk (b.map (fun x => x.toNat)) = false →
      Ready (.paramWriteBlock h 0x70 0x7080 0 0 b) s → ∃ t, exec (.paramWriteBlock h 0x70 0x7080 0 0 b) s = .next t
        ∧ After s t s.m ∧ Answered s t h 0x1801 0)
    ∧ (∀ (p : Nat) (b : List Byte), p < 2 → p < s.m.can.length → b.length = 2048 → (s.m.canPort p).en = false →
      canBadAt (s.m.canPort p).fdEn 128 (toWords 512 b) 0 = none → Ready (.paramWriteBlock h 0x60 0x6080 p 0 b) s →
        ∃ t, exec (.paramWriteBlock h 0x60 0x6080 p 0 b) s = .next t
        ∧ (t.m.canPort p).tab = toWords 512 b ∧ Answered s t h 0 0 ∧ Frame [.can, .nv, .host] s t)
    ∧ (∀ (p : Nat) (b : List Byte), p < 2 → b.length = 2048 → Ready (.paramWriteBlock h 0x60 0x6080 p 0 b) s →
      ((s.m.canPort p).en = true → ∃ t, exec (.paramWriteBlock h 0x60 0x6080 p 0 b) s = .next t
        ∧ After s t s.m ∧ Answered s t h 0x2704 0)
      ∧ (∀ k, (s.m.canPort p).en = false → canBadAt (s.m.canPort p).fdEn 128 (toWords 512 b) 0 = some k →
        ∃ t, exec (.paramWriteBlock h 0x60 0x6080 p 0 b) s = .next t
        ∧ After s t s.m ∧ Gave s t h { status := 0x1702, detail := k }))
    ∧ (∀ (i : Nat) (b : List Byte), InstK.axis.has s.m.id.part i = true → i < s.m.ax.length →
      (Ready (.paramWriteBlock h 0x10 0x1080 i 0 b) s →
        ∃ t, exec (.paramWriteBlock h 0x10 0x1080 i 0 b) s = .next t ∧ After s t s.m ∧ Answered s t h 0x1202 0)
      ∧ (∀ n, 1 ≤ n → n ≤ 7 → s.m.md.rwl = true → b.length = 4096 → (s.m.axis i).torque = false →
        (tableFault (toWords 1024 b) = none → Ready (.paramWriteBlock h 0x10 (0x1080 + n) i 0 b) s →
          ∃ t, exec (.paramWriteBlock h 0x10 (0x1080 + n) i 0 b) s = .next t
          ∧ (t.m.axis i).tabs = upd (s.m.axis i).tabs (n - 1) (fun _ => some (mkTab b)) ∧ t.m.nv.confirmed = none
          ∧ Raised s t 0x100F i [(n : Int), ((mkTab b).crc.toNat : Int)] ∧ Answered s t h 0 0
          ∧ Frame [.ax, .nv, .recd, .po, .host] s t)
        ∧ (∀ k, tableFault (toWords 1024 b) = some k → Ready (.paramWriteBlock h 0x10 (0x1080 + n) i 0 b) s →
            ∃ t, exec (.paramWriteBlock h 0x10 (0x1080 + n) i 0 b) s = .next t
          ∧ After s t s.m ∧ Gave s t h { status := 0x1201, detail := k })))
    ∧ (∀ (i : Nat) (b : List Byte), InstK.axis.has s.m.id.part i = true → i < s.m.ob.ax.length → b.length = 16 →
      (s.m.md ≠ .commission → Ready (.paramWriteBlock h 0x30 0x3081 i 0 b) s →
        ∃ t, exec (.paramWriteBlock h 0x30 0x3081 i 0 b) s = .next t ∧ After s t s.m ∧ Answered s t h 0x2101 0)
      ∧ (s.m.md = .commission → s.m.moving i = false → ofLe (b.take 4) ≠ 0 → ofLe ((b.drop 12).take 4) = 1 →
        Ready (.paramWriteBlock h 0x30 0x3081 i 0 b) s → ∃ t, exec (.paramWriteBlock h 0x30 0x3081 i 0 b) s = .next t
        ∧ (t.m.obst i).prof.compliance = ofLe (b.take 4) ∧ (t.m.obst i).prof.cycles = ofLe ((b.drop 8).take 4)
        ∧ (t.m.obst i).prof.valid = true ∧ (t.m.obst i).changed = true
          ∧ (t.m.obst i).prof.bins = (s.m.obst i).prof.bins
        ∧ Answered s t h 0 0 ∧ Frame [.ob, .host] s t)
      ∧ (s.m.md = .commission → s.m.moving i = false → (ofLe (b.take 4) = 0 ∨ ofLe ((b.drop 12).take 4) ≠ 1) →
        Ready (.paramWriteBlock h 0x30 0x3081 i 0 b) s →
          ∃ t, exec (.paramWriteBlock h 0x30 0x3081 i 0 b) s = .next t ∧ (t.m.obst i).prof.valid = false
        ∧ Answered s t h 0x1402 0 ∧ Frame [.ob, .recd, .po, .host] s t))
    ∧ (∀ (i : Nat) (b : List Byte), InstK.axis.has s.m.id.part i = true → i < s.m.ob.ax.length → b.length = 32768 →
      s.m.md = .commission → s.m.moving i = false →
      (binsOf 4096 0 b).all (fun x => decide (10 ≤ x.2.getD 1 0) && decide (10 ≤ x.2.getD 3 0)
          && decide (x.2.getD 0 0 ≤ 10 * (s.m.p P.closeForceLimit (i / 4) - s.m.p P.forceDevMin (i / 4)))) = true →
      Ready (.paramWriteBlock h 0x30 0x3080 i 0 b) s → ∃ t, exec (.paramWriteBlock h 0x30 0x3080 i 0 b) s = .next t
      ∧ (t.m.obst i).prof.bins = binsOf 4096 0 b ∧ (t.m.obst i).prof.valid = true ∧ (t.m.obst i).changed = true
      ∧ (t.m.obst i).prof.compliance = (s.m.obst i).prof.compliance ∧ Answered s t h 0 0 ∧ Frame [.ob, .host] s t)
    ∧ (∀ (p : Nat) (b : List Byte), InstK.portal.has s.m.id.part p = true → p < s.m.po.length → s.m.md.rwl = true →
      b.length = 4096 → tableFaultAt (s.par.tabCtx s.m.id.part p) 0 (rowsOf b) = none →
      Ready (.paramWriteBlock h 0x20 0x2080 p 0 b) s → ∃ t, exec (.paramWriteBlock h 0x20 0x2080 p 0 b) s = .next t
        ∧ (t.m.portal p).held = some (rowsOf b) ∧ t.par = s.par.set P.portalType p 0
        ∧ t.m.nv.confirmed = none ∧ Answered s t h 0 0 ∧ Frame [.live, .po, .nv, .host] { s with par := t.par } t)
    ∧ (∀ (p d : Nat) (b : List Byte), InstK.portal.has s.m.id.part p = true → s.m.md.rwl = true → b.length = 4096 →
      tableFaultAt (s.par.tabCtx s.m.id.part p) 0 (rowsOf b) = some d → Ready (.paramWriteBlock h 0x20 0x2080 p 0 b) s →
      ∃ t, exec (.paramWriteBlock h 0x20 0x2080 p 0 b) s = .next t
        ∧ After s t s.m ∧ Gave s t h { status := 0x1301, detail := d })

/-- NOP, and the long operations. A query gives the steps done and the estimate, a cancel is registered; of an
operation that is not running both say whether it ended recently or is unknown (R142). One operation takes its turn: a
step counts, a registered cancel ends the operation at its boundary with DETAIL, and a last step brings the
operation's own result: the check value, the signed report, the records read, the factory state; a step that is not
its turn does nothing (R101, R139 to R142, R348, R536, R547). A ring command is taken here as Ready: its descriptor is
fetched and next on its ring. Model's choices in it: assumptions 8, 46, 56, 57, 103, 144. -/
def Obligations.LongOperations : Prop :=
  ∀ (s : State) (h : Hdr), s.m.alive = true →
    (s.m.md.reads = true →
      (Ready (.nop h) s → ∃ t, exec (.nop h) s = .next t ∧ After s t s.m ∧ Answered s t h 0 0)
      ∧ (∀ ring idx o, s.m.opOf ring idx = some o →
        (Ready (.longOpQuery h ring idx) s → ∃ t, exec (.longOpQuery h ring idx) s = .next t ∧ After s t s.m
          ∧ Answered s t h 0 (res2 o.steps o.est))
        ∧ (Ready (.longOpCancel h ring idx) s → ∃ t, exec (.longOpCancel h ring idx) s = .next t
          ∧ Answered s t h 0 0 ∧ Frame [.host] s t
          ∧ ∀ q, t.m.opOf ring idx = some q → q.cancel.isSome = true))
      ∧ (∀ ring idx st, s.m.opOf ring idx = none → (if s.m.recent ring idx then 0x0001 else 0x1007) = st →
        (Ready (.longOpQuery h ring idx) s → ∃ t, exec (.longOpQuery h ring idx) s = .next t ∧ After s t s.m
          ∧ Answered s t h st 0)
        ∧ (Ready (.longOpCancel h ring idx) s → ∃ t, exec (.longOpCancel h ring idx) s = .next t ∧ After s t s.m
          ∧ Answered s t h st 0)))
    ∧ (∀ slot r, (s.m.turnSlot ≠ some slot ∨ s.m.runs 7 = false) → exec (.longOpStep slot r) s = .next s)
    ∧ (∀ slot o r, s.m.host.ops[slot]? = some o → s.m.turnSlot = some slot → s.m.runs 7 = true →
      (o.kind = .checkValue → r.last = true → ∃ t, exec (.longOpStep slot r) s = .next t
        ∧ t.m.host.ops = s.m.host.ops.eraseIdx slot ∧ t.m.nv.computed = some (s.m.checkValue s.par)
        ∧ Raised s t 0x4013 0 [((s.m.checkValue s.par).toNat : Int)]
        ∧ (o.hdr = some h → Answered s t h 0 (s.m.checkValue s.par).toNat) ∧ Frame [.host, .nv, .recd, .po] s t)
      ∧ (o.kind = .restoreFactory → r.last = true → ∃ t, exec (.longOpStep slot r) s = .next t
        ∧ t.par = [] ∧ t.m.nv.confirmed = none ∧ t.m.nv.computed = none ∧ t.m.nv.eraseOwed = false
        ∧ t.m.md = .starting ∧ t.m.start.inReset = true ∧ t.m.start.cause = some .restoreFactory
        ∧ Raised s t 0x4E0F 0 [0] ∧ t.boot = s.boot)
      ∧ (∀ body, o.kind = .attest body → (r.last = true ∨ 300 ≤ o.steps + 1) → ∃ t, exec (.longOpStep slot r) s = .next t
        ∧ t.m.host.ops = s.m.host.ops.eraseIdx slot ∧ t.m.sec.reportCount = sat32 (s.m.sec.reportCount + 1)
        ∧ Raised s t 0xB00D 0 [((sat32 (s.m.sec.reportCount + 1) : Nat) : Int)]
        ∧ (o.hdr = some h → Gave s t h { status := 0, buf := body ++ Config.slhSign body })
        ∧ (o.hdr = none → t.m.sec.resp
            = s.m.sec.resp ++ [(0xB010, 0, (ofLe (body ++ Config.slhSign body) : Int))])
        ∧ Frame [.host, .sec, .recd, .po] s t)
      ∧ (∀ ring first len j l lost, o.kind = .journalRead ring first len → r.last = true → r.ok = true →
        s.m.recd.ring (decide (ring = 0)) = j → (if first = 0 then 0 else max first j.floor - first) = lost →
        (j.recs.filter (fun x => decide (max first j.floor ≤ x.seq))).take (len / 256) = l →
        l.length ≤ o.moved + 480 → l.length < o.moved + s.m.copyRoom → ∃ t, exec (.longOpStep slot r) s = .next t
        ∧ t.m.host.ops = s.m.host.ops.eraseIdx slot
        ∧ (o.hdr = some h → Gave s t h {
            status := if 0 < lost then 0x0050 else 0, res := res2 ((l.head?.map (fun y => y.seq)).getD 0 : Nat) l.length,
            detail := lost % 65536, buf := (l.map JRec.bytes).flatten })
        ∧ Frame [.gov, .host] s t)
      ∧ ((∀ i b, o.kind ≠ .home i b) → (∀ p, o.kind ≠ .learn p) → (∀ a b c, o.kind ≠ .journalRead a b c) →
        ((∀ body, o.kind ≠ .attest body) ∨ o.steps + 1 < 300) → r.last = false → ∀ d, o.cancel = some d →
        ∃ t, exec (.longOpStep slot r) s = .next t
        ∧ t.m.host.ops = s.m.host.ops.eraseIdx slot ∧ (o.hdr = some h → Gave s t h { status := 0x4002, detail := d })
        ∧ Frame [.host] s t)
      ∧ (((∀ body, o.kind ≠ .attest body) ∨ o.steps + 1 < 300) → r.last = false → o.cancel = none →
        ∃ t q, exec (.longOpStep slot r) s = .next t
        ∧ t.m.host.ops[slot]? = some q ∧ q.kind = o.kind ∧ q.hdr = o.hdr ∧ q.steps = o.steps + 1
        ∧ Frame [.gov, .host, .recd, .po] s t))

/-- In a mode that accepts no commands, every command of a ring is answered MODE_NOT_PERMITTED and has no other effect
(R80, R81). A ring command is taken here as Ready: its descriptor is fetched and next on its ring. Model's choices in
it: assumption 144. -/
def Obligations.ClosedModes : Prop :=
  ∀ (c : Instr) (s : State) (h : Hdr), hdrOf c = some h → s.m.alive = true → s.m.md.reads = false → Ready c s →
    ∃ t, exec c s = .next t ∧ After s t s.m ∧ Answered s t h 0x2101 0

/-! ### 05 Axis drive -/

/-- A current-loop update takes the measured currents, counts them into the rms estimates, corrects the comparators by
them, and sets the lead angle, never more than a quarter turn off the encoder's position; the amplitude stays at or
below the peak ceiling (R155, R164, R166, R176). A chopper cycle gives its phase the set-point of the table entry at
the present table address and an on-phase of at least T_BLANK, and leaves the other phase alone (R154, R164, R168). A
phase that does not reach its current is reported (R173), the isolators answer (R180), the hold ramp begins (R165),
and DRIVE_STATUS gives its words and changes nothing (R197, R198). A ring command is taken here as Ready: its
descriptor is fetched and next on its ring. Model's choices in it: assumptions 8, 59, 60, 137, 138, 144. -/
def Obligations.DriveLoop : Prop :=
  ∀ (s : State) (ax : Nat), s.m.alive = true → s.m.axes.contains ax = true → ax < s.m.ax.length →
    (∀ (x : LoopIn) (enc : List EncRun), ∃ t, exec (.currentLoopUpdate ax x enc) s = .next t
      ∧ (t.m.axis ax).A.ma = x.ia ∧ (t.m.axis ax).B.ma = x.ib
      ∧ (t.m.axis ax).A.trim = x.fastA - x.ia ∧ (t.m.axis ax).B.trim = x.fastB - x.ib
      ∧ (t.m.axis ax).A.rms2 = rmsStep (s.m.axis ax).A.rms2 x.ia
        ∧ (t.m.axis ax).B.rms2 = rmsStep (s.m.axis ax).B.rms2 x.ib
      ∧ t.m.raw = max s.m.raw (s.m.axis ax).curAt ∧ (t.m.axis ax).curAt = (t.m.raw / 5000 + 1) * 5000
      ∧ (t.m.axis ax).lead = t.m.leadOf ax
      ∧ ((t.m.axis ax).aligning = false → t.m.openLoop ax = false →
          (wrap32 (t.m.pInt ax - t.m.pLoop ax) + (t.m.axis ax).lead).natAbs ≤ 256)
      ∧ (t.m.axis ax).amp ≤ s.m.ampPeak
      ∧ (∀ j, j ≠ ax → t.m.axis j = s.m.axis j) ∧ Frame [.raw, .ax, .saf, .recd, .po, .host] s t)
    ∧ ((s.m.axis ax).torque = true → ∀ (reach : Nat) (reached : Bool) (u : Mod),
        s.m.advance ((s.m.axis ax).A.at_ + (s.m.axis ax).A.cycle) = u →
        ∃ t, exec (.chopperCycle ax 1 reach reached) s = .next t
      ∧ (t.m.axis ax).A.sp = setPoint (s.m.tabEntry ax (u.tableAddr ax)).1 (s.m.axis ax).amp
      ∧ (t.m.axis ax).A.prevSp = (s.m.axis ax).A.sp ∧ (t.m.axis ax).B = (s.m.axis ax).B
      ∧ s.m.pn P.tBlank ax ≤ (t.m.axis ax).A.on_
      ∧ (t.m.axis ax).addr = u.tableAddr ax ∧ t.m.raw = u.raw
      ∧ (∀ j, j ≠ ax → t.m.axis j = s.m.axis j) ∧ Frame [.raw, .ax] s t)
    ∧ ((s.m.axis ax).torque = true → ∀ (phase reach : Nat) (reached : Bool) (u : Mod), phase ≠ 1 →
        s.m.advance ((s.m.axis ax).B.at_ + (s.m.axis ax).B.cycle) = u →
        ∃ t, exec (.chopperCycle ax phase reach reached) s = .next t
      ∧ (t.m.axis ax).B.sp = setPoint (s.m.tabEntry ax (u.tableAddr ax)).2 (s.m.axis ax).amp
      ∧ (t.m.axis ax).B.prevSp = (s.m.axis ax).B.sp ∧ (t.m.axis ax).A = (s.m.axis ax).A
      ∧ s.m.pn P.tBlank ax ≤ (t.m.axis ax).B.on_
      ∧ (t.m.axis ax).addr = u.tableAddr ax ∧ t.m.raw = u.raw
      ∧ (∀ j, j ≠ ax → t.m.axis j = s.m.axis j) ∧ Frame [.raw, .ax] s t)
    ∧ ((s.m.axis ax).torque = false → ∀ phase reach reached, exec (.chopperCycle ax phase reach reached) s = .next s)
    ∧ (∀ phase count, 100 ≤ (if phase = 1 then (s.m.axis ax).A.floorEnds else (s.m.axis ax).B.floorEnds) →
      (s.m.axis ax).notReachedAt = none → ∃ t, exec (.currentNotReached ax phase count) s = .next t
      ∧ After s t (s.m.onAx ax (fun a => { a with notReachedAt := some s.m.raw }))
        ∧ Raised s t 0x1005 ax [(phase : Int), (count : Int)])
    ∧ ((s.m.axis ax).iso = .closing → s.m.mayDrive ax = true → ∃ t, exec (.isolatorClosureConfirmed ax) s = .next t
      ∧ (t.m.axis ax).iso = .closed ∧ (t.m.axis ax).torque = true ∧ (t.m.axis ax).vel = 0 ∧ Frame [.ax] s t)
    ∧ ((s.m.axis ax).iso = .opening → exec (.isolatorOpenConfirmed ax) s
      = .next { s with m := s.m.onAx ax (fun a => { a with iso := .opened }) })
    ∧ (∀ u, (s.m.axis ax).restAt = some u → (s.m.axis ax).ramp = none → ∃ t, exec (.holdDelayExpiry ax) s = .next t
      ∧ t.m.raw = max s.m.raw (u + s.m.pn P.holdDelay ax * 200000)
      ∧ (t.m.axis ax).ramp = some (t.m.raw, (s.m.axis ax).amp) ∧ Frame [.raw, .ax] s t)
    ∧ (∀ h len, s.m.md.reads = true →
      (64 ≤ len → Ready (.driveStatus h ax len) s → ∃ t, exec (.driveStatus h ax len) s = .next t ∧ After s t s.m
        ∧ Gave s t h { status := 0, res := toBits 64 ((s.m.driveWords ax).getD 13 0)
                       buf := ((s.m.driveWords ax).map le4).flatten })
      ∧ (len < 64 → Ready (.driveStatus h ax len) s → ∃ t, exec (.driveStatus h ax len) s = .next t
        ∧ After s t s.m ∧ Answered s t h 0x1006 0))

/-- Encoder signals. An SSI frame is read only where the encoder is clocked; one that passes the checks of R185 moves
the position by its change, or sets it where it is the first; a first bad one is counted and leaves the position, a
second in a row is an encoder fault (R184 to R186, R189). A line break is a fault at once: open loop at the frozen
position, the reference lost, the Bore counter discontinuous (R182, R189, R231). Illegal transitions and overspeeds
are counted, and three of them in 10 ms, mixed or not, are a fault (R182). A capture of the index is stored, and one
that is not a whole number of revolutions off the last of its direction is counted and reported (R183). Model's
choices in it: assumptions 8, 63, 136, 150. -/
def Obligations.Encoders : Prop :=
  ∀ (s : State) (ax : Nat), s.m.alive = true → s.m.axes.contains ax = true → ax < s.m.ax.length →
    (∀ f : SsiFrame, s.m.ssiClocked ax = false → exec (.ssiFrame ax f) s = .next s)
    ∧ (∀ f : SsiFrame, s.m.ssiClocked ax = true →
      (s.m.ssiError ax f = none → ∀ x, ssiPos (s.m.pn P.ssiFormat ax) f.bits = x →
        ∃ t, exec (.ssiFrame ax f) s = .next t
        ∧ (t.m.axis ax).ssiErrs = 0 ∧ (t.m.axis ax).ssiLast = some x ∧ (t.m.axis ax).ssiAt = s.m.raw
        ∧ ((s.m.axis ax).ssiLast = none → (t.m.axis ax).count = (x : Int))
        ∧ (∀ o, (s.m.axis ax).ssiLast = some o → (t.m.axis ax).count
            = wrap32 ((s.m.axis ax).count + rollDelta (field (s.m.pn P.ssiFormat ax) 12 6) x o))
        ∧ (t.m.axis ax).encBad = (s.m.axis ax).encBad ∧ (∀ j, j ≠ ax → t.m.axis j = s.m.axis j) ∧ Frame [.ax] s t)
      ∧ (∀ c, s.m.ssiError ax f = some c →
        ((s.m.axis ax).ssiErrs = 0 → exec (.ssiFrame ax f) s = .next { s with m := s.m.onAx ax (fun a => { a with
          ssiErrs := 1, nSsi := min 255 (a.nSsi + 1) }) })
        ∧ ((s.m.axis ax).ssiErrs = 1 → ∃ t, exec (.ssiFrame ax f) s = .next t
          ∧ (t.m.axis ax).encBad = true ∧ Raised s t 0x100A ax [(c : Int)])))
    ∧ (∀ sig, ∃ t, exec (.encLineBreak ax sig) s = .next t
      ∧ (t.m.axis ax).encBad = true ∧ Raised s t 0x1007 ax [(sig : Int)]
      ∧ ((s.m.axis ax).encBad = false → (t.m.axis ax).openLoop = true ∧ (t.m.axis ax).referenced = false
        ∧ (t.m.axis ax).shadowDisc = true ∧ (t.m.axis ax).frozen = some (s.m.pEnc ax)
        ∧ Raised s t 0x1012 ax [1, s.m.pEnc ax]))
    ∧ (∀ (count : Int) (n : Nat), (within10ms s.m.raw (s.m.axis ax).illegal).length
        + (within10ms s.m.raw (s.m.axis ax).overspeed).length = n →
      (∃ t, exec (.encIllegalTransition ax count) s = .next t
        ∧ (t.m.axis ax).nIllegal = min 255 ((s.m.axis ax).nIllegal + 1) ∧ Raised s t 0x1008 ax [count]
        ∧ (2 ≤ n → (t.m.axis ax).encBad = true) ∧ (n < 2 → (t.m.axis ax).encBad = (s.m.axis ax).encBad))
      ∧ (∃ t, exec (.encOverspeed ax count) s = .next t
        ∧ (t.m.axis ax).nOverspeed = min 255 ((s.m.axis ax).nOverspeed + 1) ∧ Raised s t 0x1009 ax [count]
        ∧ (2 ≤ n → (t.m.axis ax).encBad = true) ∧ (n < 2 → (t.m.axis ax).encBad = (s.m.axis ax).encBad)))
    ∧ (∀ (count : Int) (rev : Nat), (s.m.axis ax).home = none →
      (∃ t, exec (.encIndexCapture ax count rev) s = .next t ∧ (t.m.axis ax).idxCap = some (count, s.m.raw)
        ∧ ((s.m.axis ax).idxCap = none → (t.m.axis ax).idxBad = (s.m.axis ax).idxBad))
      ∧ (∀ c r, (s.m.axis ax).idxCap = some (c, r) → (s.m.axis ax).vel ≠ 0 →
          (s.m.axis ax).idxDir = sgn (s.m.axis ax).vel →
        wholeRevs (count - c) rev = false → ∃ t, exec (.encIndexCapture ax count rev) s = .next t
        ∧ (t.m.axis ax).idxBad = (s.m.axis ax).idxBad + 1 ∧ Raised s t 0x100B ax [offRev (count - c) rev]))

/-- Drive faults. An overcurrent takes the gates and the torque of the axis, latches it, demands STO of its group and
ends a running phase test (R177, R197). An open phase at a set-point of 500 mA or more latches an axis at rest at
once, and makes a moving one stop first, with its latch owed (R178). An isolator fault latches the axis without
torque, and on a SHADOW the supply of the group is cut as well (R180, R512). A stall beyond DEV_TIME is reported: at
rest the command is put on the encoder, on a move that no Safe Stop ends the axis stops on its encoder; within
DEV_TIME nothing happens (R190, R191, R218). Model's choices in it: assumptions 8, 20, 60, 139, 148. -/
def Obligations.DriveFaults : Prop :=
  ∀ (s : State) (ax : Nat), s.m.alive = true → s.m.axes.contains ax = true → ax < s.m.ax.length →
    (∀ (phase : Nat) (ma : Int), ax / 4 < s.m.saf.sto.length → ∃ t, exec (.phaseOvercurrent ax phase ma) s = .next t
      ∧ (t.m.axis ax).fault = some ((s.m.axis ax).fault.getD 1) ∧ 1 ∈ (t.m.axis ax).causes
      ∧ (t.m.axis ax).gateOff = true
      ∧ (t.m.axis ax).torque = false ∧ (t.m.stoOf (ax / 4)).applied = true
      ∧ 4 ∈ (t.m.stoOf (ax / 4)).reed ∧ 4 ∈ (t.m.stoOf (ax / 4)).bore
      ∧ Raised s t 0x1003 ax [(phase : Int), ma]
      ∧ (∀ h u, (s.m.axis ax).testUntil = some (h, u) → (t.m.axis ax).testUntil = none
          ∧ Gave s t h { status := 0x4202, detail := phase * 256 + 2 })
      ∧ Frame [.ax, .ob, .saf, .recd, .po, .host] s t)
    ∧ (∀ phase, (s.m.axis ax).torque = true →
      500 * 2047 ≤ (if phase = 1 then (s.m.axis ax).A.sp else (s.m.axis ax).B.sp).natAbs * 10000 →
      ((s.m.axis ax).mv = none → ∃ t, exec (.phaseOpen ax phase) s = .next t
        ∧ (t.m.axis ax).fault = some ((s.m.axis ax).fault.getD 2) ∧ 2 ∈ (t.m.axis ax).causes
        ∧ (t.m.axis ax).gateOff = true
        ∧ (t.m.axis ax).torque = false ∧ Raised s t 0x1004 ax [(phase : Int)]
        ∧ Frame [.ax, .ob, .recd, .po, .host] s t)
      ∧ ((s.m.axis ax).mv.isSome = true → ∃ t, exec (.phaseOpen ax phase) s = .next t
        ∧ (t.m.axis ax).torque = true ∧ 2 ∈ (t.m.axis ax).owed ∧ Raised s t 0x1004 ax [(phase : Int)]))
    ∧ (∀ wire, ∃ t, exec (.isolatorFault ax wire) s = .next t
      ∧ (t.m.axis ax).fault = some ((s.m.axis ax).fault.getD 3) ∧ 3 ∈ (t.m.axis ax).causes
      ∧ (t.m.axis ax).iso = .failed
      ∧ (t.m.axis ax).gateOff = true ∧ (t.m.axis ax).torque = false
      ∧ Raised s t 0x100D ax [(wire : Int), (b2n (decide ((s.m.axis ax).iso = .closing) || decide ((s.m.axis ax).iso = .closed)) : Int)]
      ∧ (s.m.md ≠ .shadow → Frame [.ax, .ob, .recd, .po, .host] s t)
      ∧ (s.m.md = .shadow → ax / 4 < s.m.saf.sto.length → 13 ∈ (t.m.stoOf (ax / 4)).reed
          ∧ 13 ∈ (t.m.stoOf (ax / 4)).bore ∧ Frame [.ax, .ob, .saf, .recd, .po, .host] s t))
    ∧ (s.m.pn P.devTime ax < (s.m.axis ax).stallTicks → (s.m.axis ax).stallHeld = false →
        (s.m.axis ax).torque = true → (s.m.axis ax).encBad = false →
      (s.m.moving ax = false → ∃ t, exec (.axisStall ax) s = .next t
        ∧ (t.m.axis ax).pcmd = s.m.pEnc ax ∧ (t.m.axis ax).stallTicks = 0
        ∧ Raised s t 0x1001 ax [s.m.um ax (s.m.err ax), 1] ∧ Frame [.ax, .recd, .po, .host] s t)
      ∧ (∀ mv, s.m.moving ax = true → (s.m.axis ax).mv = some mv → mv.stop ≠ some .safeStop →
        ∃ t v, exec (.axisStall ax) s = .next t
        ∧ (t.m.axis ax).mv = some v ∧ v.toEnc = true ∧ Raised s t 0x1001 ax [s.m.um ax (s.m.err ax), 0]))
    ∧ ((s.m.axis ax).stallTicks ≤ s.m.pn P.devTime ax → exec (.axisStall ax) s = .next s)

/-- AXIS_FAULT_CLEAR clears a latch whose cause has gone, with its event, and the demand that an overcurrent left; a
safety trip's latch goes once the group stands still, with its demands; a latch whose cause stands is refused, and so
is a clear on a moving axis (R193, R315). The phase test runs on an axis at rest and no other, answers its gain errors
after 4 ms, and a phase that is open or over its current fails it with the phase and the cause and latches the axis
(R197). A ring command is taken here as Ready: its descriptor is fetched and next on its ring. Model's choices in it:
assumptions 8, 61, 62, 139, 144. -/
def Obligations.FaultClear : Prop :=
  ∀ (s : State) (h : Hdr) (ax : Nat), s.m.alive = true → s.m.axes.contains ax = true → ax < s.m.ax.length →
    s.m.locked (.axis ax) = false →
    (s.m.md.faultClear = true →
      (s.m.moving ax = true → ∀ b, Ready (.axisFaultClear h ax b) s →
        ∃ t, exec (.axisFaultClear h ax b) s = .next t ∧ After s t s.m ∧ Answered s t h 0x2204 0)
      ∧ (s.m.moving ax = false → (s.m.axis ax).fault = none → ∀ b, Ready (.axisFaultClear h ax b) s →
          ∃ t, exec (.axisFaultClear h ax b) s = .next t ∧ After s t s.m ∧ Answered s t h 0 0)
      ∧ (∀ c, s.m.moving ax = false → (s.m.axis ax).fault = some c → (s.m.axis ax).faults = [] → c ≠ 5 →
          (c = 4 → (s.m.axis ax).encBadAt + 20000000 ≤ s.m.raw) → Ready (.axisFaultClear h ax true) s →
          ∃ t, exec (.axisFaultClear h ax true) s = .next t
        ∧ (t.m.axis ax).fault = none ∧ (t.m.axis ax).gateOff = false ∧ (c = 1 → 4 ∉ (t.m.stoOf (ax / 4)).reed)
        ∧ (c = 4 → (t.m.axis ax).encBad = false ∧ (t.m.axis ax).frozen = none)
        ∧ Raised s t 0x1011 ax [(c : Int)] ∧ Answered s t h 0 0 ∧ (∀ j, j ≠ ax → t.m.axis j = s.m.axis j)
        ∧ Frame [.ax, .saf, .recd, .po, .host] s t)
      ∧ (s.m.moving ax = false → (s.m.axis ax).fault = some 5 → (s.m.axis ax).faults = [] →
          s.m.still (ax / 4) = true → Ready (.axisFaultClear h ax true) s →
          ∃ t, exec (.axisFaultClear h ax true) s = .next t
        ∧ (∀ k, k < 4 → 5 ∉ (t.m.axis (4 * (ax / 4) + k)).causes) ∧ (t.m.axis ax).fault = none
        ∧ (∀ c, 7 ≤ c → c ≤ 10 → c ∉ (t.m.stoOf (ax / 4)).reed ∧ c ∉ (t.m.stoOf (ax / 4)).bore)
        ∧ Raised s t 0x1011 ax [5] ∧ Answered s t h 0 0 ∧ Frame [.ax, .saf, .recd, .po, .host] s t)
      ∧ (∀ b, s.m.moving ax = false → (s.m.axis ax).fault.isSome = true → s.m.causesGone ax b = false →
          Ready (.axisFaultClear h ax b) s →
          ∃ t, exec (.axisFaultClear h ax b) s = .next t ∧ After s t s.m ∧ Answered s t h 0x2203 0))
    ∧ (s.m.md.maint = true →
      (s.m.moving ax = false → (s.m.axis ax).testUntil = none → Ready (.phaseTest h ax) s →
        ∃ t, exec (.phaseTest h ax) s = .next t
        ∧ After s t (s.m.onAx ax (fun a => { a with testUntil := some (h, s.m.raw + 800000) })))
      ∧ (s.m.moving ax = true ∨ (s.m.axis ax).testUntil.isSome = true → Ready (.phaseTest h ax) s →
        ∃ t, exec (.phaseTest h ax) s = .next t ∧ After s t s.m ∧ Answered s t h 0x2204 0))
    ∧ (∀ (r : PhaseTestResult) (u : Nat), (s.m.axis ax).testUntil = some (h, u) →
      (r.openPhase = 0 → r.overPhase = 0 → ∃ t, exec (.phaseTestDone ax r) s = .next t
        ∧ (t.m.axis ax).testUntil = none ∧ t.m.raw = max s.m.raw u ∧ Answered s t h 0 (res2 r.errA r.errB)
        ∧ Frame [.raw, .ax, .host] s t)
      ∧ (r.openPhase = 0 → r.overPhase ≠ 0 → ∃ t, exec (.phaseTestDone ax r) s = .next t
        ∧ (t.m.axis ax).testUntil = none ∧ 1 ∈ (t.m.axis ax).causes ∧ (t.m.axis ax).torque = false
        ∧ Raised s t 0x1003 ax [(r.overPhase : Int), r.overMa]
        ∧ Gave s t h { status := 0x4202, detail := r.overPhase * 256 + 2, res := res2 r.errA r.errB })
      ∧ (r.openPhase ≠ 0 → ∃ t, exec (.phaseTestDone ax r) s = .next t
        ∧ (t.m.axis ax).testUntil = none ∧ (t.m.axis ax).fault = some ((s.m.axis ax).fault.getD 2)
        ∧ 2 ∈ (t.m.axis ax).causes
        ∧ Raised s t 0x1004 ax [(r.openPhase : Int)]
        ∧ Gave s t h {
            status := 0x4202, detail := r.openPhase * 256 + 1
            res := res2 (if r.openPhase = 1 then -10000 else r.errA) (if r.openPhase = 2 then -10000 else r.errB) }))

/-! ### 06 Motion and homing -/

/-- The ticks of every generator fall together, on multiples of 20,000 MOT ticks of the free-running counter, and no
fabric time moves them (R201). -/
def Obligations.TickGrid : Prop :=
  ∀ (s : State) (inp : TickIn), s.m.sup.powered = true →
    (∃ t, exec (.profileTick inp) s = .next t ∧ t.m.raw = s.m.tickInstant ∧ t.m.tickAt = s.m.tickInstant + 20000)
    ∧ s.m.tickInstant % 20000 = 0 ∧ s.m.raw ≤ s.m.tickInstant
    ∧ ∀ x : TimeSt, ({ s.m with time := x } : Mod).tickInstant = s.m.tickInstant

/-- A tick writes no stored parameter value and no boot record. While the control die is in reset a tick only follows
the Bore channel's counts, which the quadrature positions take, and reaches nothing but the axes and their supervision
(R16, R38, R97). -/
def Obligations.TickReach : Prop :=
  ∀ (s : State) (inp : TickIn), s.m.sup.powered = true →
    ∃ t, exec (.profileTick inp) s = .next t ∧ t.par = s.par ∧ t.boot = s.boot
      ∧ (s.m.start.inReset = true → Frame [.raw, .tickAt, .ax, .saf, .host] s t
        ∧ ∀ i, s.m.axes.contains i = true → i < s.m.ax.length → s.m.p P.encType i ≠ 2 →
          (t.m.axis i).count = inp.shadows.getD i (s.m.axis i).shadow
            ∧ (t.m.axis i).shadow = inp.shadows.getD i (s.m.axis i).shadow)

/-- A motion command that passes the checks of its rule is left for the next tick, with no answer yet; one that fails
a check is refused with its status and moves nothing (R203, R204, R209, R210, R215, R217, R232). A repeated JOG
restarts its time limit (R232). HOME begins a long operation with the homing of its first axis, unless an axis is
latched, moves or homes already, has a method that does not fit it or a speed above the ceiling, or no slot is free
(R193, R204, R224, R228, R229). POSITION_READ gives both positions (R205, R234). A ring command is taken here as
Ready: its descriptor is fetched and next on its ring. Model's choices in it: assumptions 66, 67, 142, 144. -/
def Obligations.MotionCommands : Prop :=
  ∀ (s : State) (h : Hdr), s.m.alive = true →
    (∀ ax : Nat, s.m.axes.contains ax = true → ax < s.m.ax.length → s.m.locked (.axis ax) = false →
      (s.m.md.active = true →
        (∀ a : MoveArgs, (s.m.moveCheck ax false a = none → Ready (.move h ax a) s →
            ∃ t, exec (.move h ax a) s = .next t
            ∧ After s t (s.m.onAx ax (fun x => { x with arr := x.arr ++ [.move (.ring h) a none] })))
          ∧ ∀ e, s.m.moveCheck ax false a = some e → Ready (.move h ax a) s → ∃ t, exec (.move h ax a) s = .next t
            ∧ After s t s.m ∧ Answered s t h e 0)
        ∧ (∀ l : LimitArgs, (s.m.limArgStatus ax l = none → Ready (.setMotionLimits h ax l) s →
            ∃ t, exec (.setMotionLimits h ax l) s = .next t
            ∧ After s t (s.m.onAx ax (fun x => { x with arr := x.arr ++ [.limits (.ring h) l] })))
          ∧ ∀ e, s.m.limArgStatus ax l = some e → Ready (.setMotionLimits h ax l) s →
              ∃ t, exec (.setMotionLimits h ax l) s = .next t
            ∧ After s t s.m ∧ Answered s t h e 0))
      ∧ (s.m.md.faultClear = true → Ready (.stop h ax) s → ∃ t, exec (.stop h ax) s = .next t
          ∧ After s t (s.m.onAx ax (fun x => { x with arr := x.arr ++ [.stop (.ring h)] })))
      ∧ (∀ pos redirect speed again, s.m.md.maint = true → Ready (.jog h ax pos redirect speed) s →
        (decide ((s.m.axis ax).jogDir = some pos) && s.m.moving ax
          && (decide (((s.m.axis ax).mv.map (fun x => x.stop)).join = none) || (s.m.axis ax).jogWaits)) = again →
        (again = true → ∃ t, exec (.jog h ax pos redirect speed) s = .next t
          ∧ After s t (s.m.onAx ax (fun x => { x with jogAt := s.m.raw })) ∧ Answered s t h 0 0)
        ∧ (again = false → s.m.pn P.jogSpeedMax ax < speed → ∃ t, exec (.jog h ax pos redirect speed) s = .next t
          ∧ After s t s.m ∧ Answered s t h 0x1207 0)
        ∧ (again = false → speed ≤ s.m.pn P.jogSpeedMax ax →
          (s.m.tooFast ax (s.m.jogSpeed ax speed) = true → ∃ t, exec (.jog h ax pos redirect speed) s = .next t
            ∧ After s t s.m ∧ Answered s t h 0x1205 0)
          ∧ (s.m.tooFast ax (s.m.jogSpeed ax speed) = false →
            (∀ e, s.m.axisCheck ax false false = some e → ∃ t, exec (.jog h ax pos redirect speed) s = .next t
              ∧ After s t s.m ∧ Answered s t h e 0)
            ∧ (s.m.axisCheck ax false false = none →
              (s.m.moving ax = true → redirect = false → ∃ t, exec (.jog h ax pos redirect speed) s = .next t
                ∧ After s t s.m ∧ Answered s t h 0x2205 0)
              ∧ ((s.m.moving ax = false ∨ redirect = true) → (s.m.axis ax).stopping = true →
                ∃ t, exec (.jog h ax pos redirect speed) s = .next t ∧ After s t s.m ∧ Answered s t h 0x2206 0)
              ∧ ((s.m.moving ax = false ∨ redirect = true) → (s.m.axis ax).stopping = false →
                ∃ t, exec (.jog h ax pos redirect speed) s = .next t
                ∧ After s t (s.m.onAx ax (fun x => { x with arr := x.arr ++ [.jog h pos redirect speed] })))))))
      ∧ (s.m.md.reads = true → Ready (.positionRead h ax) s → ∃ t, exec (.positionRead h ax) s = .next t ∧ After s t s.m
          ∧ Answered s t h 0 (res2 (s.m.hostPos ax (s.m.axis ax).pcmd) (s.m.hostPos ax (s.m.pEnc ax)))))
    ∧ (∀ (inst : Nat) (portal : Bool) (l : List Nat), s.m.md.maint = true → Ready (.home h inst portal) s →
        (if portal then s.m.portals.contains inst else s.m.axes.contains inst) = true →
        s.m.homeAxes inst portal = l → (∀ i ∈ l, s.m.locked (.axis i) = false) →
        ((∃ i ∈ l, (s.m.axis i).fault.isSome = true) → ∃ t, exec (.home h inst portal) s = .next t
          ∧ After s t s.m ∧ Answered s t h 0x2202 0)
        ∧ ((∀ i ∈ l, (s.m.axis i).fault = none) →
          ((∃ i ∈ l, s.m.homeBusy i = true) → ∃ t, exec (.home h inst portal) s = .next t
            ∧ After s t s.m ∧ Answered s t h 0x2204 0)
          ∧ ((∀ i ∈ l, s.m.homeBusy i = false) → (∃ i ∈ l, s.m.homeFits i (s.m.nextMethod i) = false) →
            ∃ t, exec (.home h inst portal) s = .next t ∧ After s t s.m ∧ Answered s t h 0x1208 0)
          ∧ ((∀ i ∈ l, s.m.homeBusy i = false ∧ s.m.homeFits i (s.m.nextMethod i) = true) →
            ((∃ i ∈ l, s.m.homeTooFast i = true) → ∃ t, exec (.home h inst portal) s = .next t
              ∧ After s t s.m ∧ Answered s t h 0x1205 0)
            ∧ ((∀ i ∈ l, s.m.homeTooFast i = false) → 8 ≤ s.m.host.ops.length →
              ∃ t, exec (.home h inst portal) s = .next t ∧ After s t s.m ∧ Answered s t h 0x2002 0)
            ∧ (∀ i, (∀ j ∈ l, s.m.homeTooFast j = false) → s.m.host.ops.length < 8 → l.head? = some i →
              i < s.m.ax.length → ∃ t, exec (.home h inst portal) s = .next t
              ∧ t.m.host.ops = (s.m.addOp (some h) (.home inst portal) 0).host.ops
              ∧ (t.m.axis i).home.isSome = true ∧ (t.m.axis i).referenced = false
              ∧ (∀ j ∈ l, j ≠ i → (t.m.axis j).home = none)
              ∧ Frame [.live, .due, .ax, .recd, .po, .host] s t)
            ∧ (l = [] → s.m.host.ops.length < 8 → ∃ t, exec (.home h inst portal) s = .next t
              ∧ Answered s t h 0 0 ∧ Frame [.host] s t))))

/-- What ends a move or a homing outside a tick: the position window, the jog's time limit, the alignment hold, the
end stop, and homing's own time limits, each of which ends the homing with its cause (R211, R225, R226, R228, R229,
R232). Model's choices in it: assumptions 8, 20. -/
def Obligations.MotionEnds : Prop :=
  ∀ (s : State) (ax : Nat), s.m.alive = true → s.m.axes.contains ax = true → ax < s.m.ax.length →
    (∀ u, (s.m.axis ax).inPosSince = some u → s.m.moving ax = false → (s.m.axis ax).inPosRaised = false →
      ∃ t, exec (.axisInPosition ax) s = .next t
      ∧ (t.m.axis ax).inPos = true ∧ (t.m.axis ax).inPosRaised = true
      ∧ t.m.raw = max s.m.raw (u + s.m.pn P.inPosTime ax * 200000)
      ∧ Raised s t 0x1022 ax [((s.m.axis ax).lastTag : Int), s.m.inPosErr ax]
        ∧ Frame [.raw, .ax, .recd, .po, .host] s t)
    ∧ (∀ mv, (s.m.axis ax).mv = some mv → mv.stop = none → (s.m.axis ax).jogDir.isSome = true →
      ∃ t, exec (.jogTimeout ax) s = .next t ∧ t.m.raw = max s.m.raw ((s.m.axis ax).jogAt + 100000000)
      ∧ ((t.m.axis ax).fstop = some .jogTimeout ∨ ∃ mv', (t.m.axis ax).mv = some mv' ∧ mv'.stop = some .jogTimeout))
    ∧ (∀ hr, (s.m.axis ax).home = some hr → hr.ph = .align →
        ∀ count : Int, ∃ t, exec (.homeAlignHoldEnd ax count) s = .next t
      ∧ (t.m.axis ax).align = true ∧ (t.m.axis ax).count = count
        ∧ (t.m.axis ax).home.map (fun x => x.ph) = some .search
      ∧ (t.m.axis ax).pcmd = t.m.pEnc ax ∧ Frame [.raw, .ax] s t)
    ∧ (∀ hr, (s.m.axis ax).home = some hr → (s.m.axis ax).endStopPhase = true →
        s.m.pn P.homeStopTime ax ≤ hr.stopTicks →
      (hr.method = 4 ∨ hr.method = 5) → s.m.homePair ax hr.method = false →
        ∃ t, exec (.homeEndStopDetected ax) s = .next t
      ∧ (t.m.axis ax).mv = none ∧ (t.m.axis ax).pcmd = s.m.pEnc ax
      ∧ (t.m.axis ax).home.map (fun x => x.ph) = some .confirm
      ∧ Raised s t 0x1021 ax [0, 8, s.m.hostPos ax (s.m.pEnc ax)] ∧ Frame [.ax, .recd, .po, .host] s t)
    ∧ (∀ hr, (s.m.axis ax).home = some hr → hr.ph = .confirm → s.m.homeOp ax = none →
      ∃ t, exec (.homeConfirmTimeout ax) s = .next t ∧ (t.m.axis ax).home = none ∧ (t.m.axis ax).referenced = false
      ∧ Raised s t 0x1031 ax [0, 2] ∧ Frame [.raw, .ax, .recd, .po, .host] s t)
    ∧ (∀ hr o h, (s.m.axis ax).home = some hr → s.m.homeOp ax = some o → o.hdr = some h →
      ∃ t, exec (.homeTimeout ax) s = .next t ∧ (t.m.axis ax).home = none ∧ (t.m.axis ax).referenced = false
      ∧ t.m.raw = max s.m.raw (hr.begun + s.m.pn P.homeTimeout ax * 200000000)
      ∧ Raised s t 0x1031 ax [0, 4] ∧ Gave s t h { status := 0x4201, detail := 4, res := res2 ax 0 }
      ∧ Frame [.raw, .ax, .recd, .po, .host] s t)

/-! ### 07 Portals -/

/-- Portal timers expire (R247); a lock that does not confirm in time is reported with FAULT, a step is blocked, and
reported where it stands at its place without its switch (R252, R254). A template is checked and stored with its type,
or refused (R260). PORTAL_RESET leaves EMERGENCY or FAULT by the sensors once the cause has gone, and is refused
before and in every other state (R253, R255). PORTAL_REQUEST counts its press; an open one asks for opening in a
closed state, only with the side released, and is refused without (R259). SIDE_RELEASE withdraws a grant, and a ring
cannot give one (R256, R258). A ring command is taken here as Ready: its descriptor is fetched and next on its ring.
Model's choices in it: assumptions 8, 20, 74, 144. -/
def Obligations.Portals : Prop :=
  ∀ (s : State) (h : Hdr) (p : Nat), s.m.alive = true → s.m.portals.contains p = true → p < s.m.po.length →
    (∀ k u, (s.m.portal p).timers.getD k .idle = .running u → exec (.portalTimerExpiry p k) s
      = .next { s with m := (s.m.advance u).setTimer p k .expired })
    ∧ (∀ k u, (s.m.portal p).lockWatch = some (k, u) → s.m.md.tables = true → (s.m.portal p).state < 8 →
      ∃ t, exec (.lockConfirmTimeout p) s = .next t ∧ t.m.raw = max s.m.raw (u + s.m.pn P.lockConfirmTime p * 200000)
      ∧ (t.m.portal p).state = 10 ∧ (t.m.portal p).faultCause = 4
      ∧ Raised s t 0x2006 p [(k : Int)] ∧ Raised s t 0x200A p [4] ∧ t.par = s.par ∧ t.boot = s.boot)
    ∧ (∀ k u i, (s.m.portal p).stepWatch = some (k, u) → s.m.roleAxis p 2 = some i →
      ∃ t, exec (.stepConfirmTimeout p) s = .next t ∧ t.m.raw = max s.m.raw (u + s.m.pn P.stepConfirmTime p * 200000)
      ∧ (t.m.portal p).stepBlocked = true ∧ (t.m.portal p).stepWatch = none
      ∧ (k = 0 → (s.m.axis i).inPos = true → s.m.stepSw false p = false →
        Raised s t 0x2008 p [s.m.hostPos i (s.m.pEnc i)])
      ∧ Frame [.raw, .po, .recd, .host] s t)
    ∧ (s.m.md = .commission →
      (∀ n, n = 0 ∨ 4 < n → Ready (.loadTemplate h p n) s → ∃ t, exec (.loadTemplate h p n) s = .next t
        ∧ After s t s.m ∧ Answered s t h 0x1303 0)
      ∧ (∀ n, 1 ≤ n → n ≤ 4 → s.m.portalRest p = false → Ready (.loadTemplate h p n) s →
          ∃ t, exec (.loadTemplate h p n) s = .next t
        ∧ After s t s.m ∧ Answered s t h 0x2301 0)
      ∧ (∀ n, 1 ≤ n → n ≤ 4 → s.m.portalRest p = true → s.par.wf = true →
        tableFaultAt (s.par.tabCtx s.m.id.part p) 0 (template n p (s.par.get P.portalLsMap p).toNat) = none →
        Ready (.loadTemplate h p n) s → ∃ t, exec (.loadTemplate h p n) s = .next t
        ∧ (t.m.portal p).held = some (template n p (s.par.get P.portalLsMap p).toNat)
        ∧ t.par.get P.portalType p = n ∧ (n = 4 → t.par.get P.portalAutoOpen p = 1)
        ∧ Answered s t h 0 (crc32 (rowBytes (template n p (s.par.get P.portalLsMap p).toNat))).toNat
        ∧ Frame [.live, .due, .po, .nv, .host] { s with par := t.par } t)
      ∧ (∀ n d, 1 ≤ n → n ≤ 4 → s.m.portalRest p = true →
        tableFaultAt (s.par.tabCtx s.m.id.part p) 0 (template n p (s.par.get P.portalLsMap p).toNat) = some d →
        Ready (.loadTemplate h p n) s → ∃ t, exec (.loadTemplate h p n) s = .next t
        ∧ After s t s.m ∧ Gave s t h { status := 0x1301, detail := d }))
    ∧ ((s.m.md.faultClear = true ∨ s.m.md = .egress) → s.m.locked (.portal p) = false → Ready (.portalReset h p) s →
      (((s.m.portal p).state ≠ 9 ∧ (s.m.portal p).state ≠ 10)
          ∨ ((s.m.portal p).state = 9 ∧ (s.m.emergency false p = true ∨ s.m.md = .egress))
          ∨ ((s.m.portal p).state = 10 ∧ ((s.m.roleFault p).isSome = true ∨ s.m.portalRest p = false)) →
        ∃ t, exec (.portalReset h p) s = .next t ∧ After s t s.m ∧ Answered s t h 0x2302 0)
      ∧ (((s.m.portal p).state = 9 ∧ s.m.emergency false p = false ∧ s.m.md ≠ .egress)
          ∨ ((s.m.portal p).state = 10 ∧ s.m.roleFault p = none ∧ s.m.portalRest p = true) → s.m.enabled p = true →
        ∃ t, exec (.portalReset h p) s = .next t
          ∧ (t.m.portal p).state = s.m.sensorState p
        ∧ (t.m.portal p).openReq = false ∧ Answered s t h 0 (s.m.sensorState p)))
    ∧ (s.m.md.active = true →
      (s.m.locked (.portal p) = false →
        (Ready (.portalRequest h p 1) s → ∃ t, exec (.portalRequest h p 1) s = .next t
          ∧ After s t (s.m.onPo p (fun q => { q with closePress := (q.closePress + 1) % 65536 }))
            ∧ Answered s t h 0 0)
        ∧ (∀ c, 1 < c → Ready (.portalRequest h p c) s → ∃ t, exec (.portalRequest h p c) s = .next t
          ∧ After s t s.m ∧ Answered s t h 0x1003 0)
        ∧ (s.m.released p = false → Ready (.portalRequest h p 0) s → ∃ t, exec (.portalRequest h p 0) s = .next t
          ∧ After s t s.m ∧ Answered s t h 0x3301 0)
        ∧ (s.m.released p = true → Ready (.portalRequest h p 0) s → ∃ t, exec (.portalRequest h p 0) s = .next t
          ∧ (t.m.portal p).openPress = ((s.m.portal p).openPress + 1) % 65536 ∧ Answered s t h 0 0
          ∧ (((s.m.portal p).state = 0 ∨ (s.m.portal p).state = 2) →
              (t.m.portal p).openReq = true ∧ Raised s t 0x200C p [2])
          ∧ ((s.m.portal p).state ≠ 0 → (s.m.portal p).state ≠ 2 →
              (t.m.portal p).openReq = (s.m.portal p).openReq)
          ∧ Frame [.live, .due, .po, .recd, .host] s t))
      ∧ (∀ mask, Ready (.sideRelease h mask true) s → ∃ t, exec (.sideRelease h mask true) s = .next t
        ∧ After s t s.m ∧ Answered s t h 0x2303 0)
      ∧ (∀ sd : Side, s.m.locked (.side sd) = false → (s.m.side.get sd).grant = true →
        Ready (.sideRelease h (2 ^ sideNum sd) false) s →
          ∃ t, exec (.sideRelease h (2 ^ sideNum sd) false) s = .next t
        ∧ (t.m.side.get sd).grant = false ∧ (t.m.side.get sd).released = false
        ∧ (∀ o : Side, o ≠ sd → t.m.side.get o = s.m.side.get o)
        ∧ Raised s t 0x2004 (sideNum sd) [3] ∧ Answered s t h 0 0)
      ∧ (s.m.locked (.side .L) = false → s.m.locked (.side .R) = false → s.m.side.L.grant = true →
          s.m.side.R.grant = true →
        Ready (.sideRelease h 3 false) s → ∃ t, exec (.sideRelease h 3 false) s = .next t
          ∧ t.m.side.L.grant = false ∧ t.m.side.R.grant = false
        ∧ t.m.side.L.released = false ∧ t.m.side.R.released = false
        ∧ Raised s t 0x2004 0 [3] ∧ Raised s t 0x2004 1 [3] ∧ Answered s t h 0 0))

/-! ### 08 Obstacles, edges, probe, profiles -/

/-- A count that reaches its confirmation is a detection of its own source, FORCE, ERR_GROWTH, ABS_LIMIT, OPEN_DIR or
POCKET: it is reported, and stands in the portal's obstacle bits unless the leaf is stopping already; a leaf that
moves takes the reaction at its next tick (R275, R276, R277, R281, R283, R286, R287). On a step it blocks the step
(R288). A count that is not there does nothing. Supervision that is late is reported, and is a detection on a
supervised axis (R289). Model's choices in it: assumptions 8, 78, 80. -/
def Obligations.Detections : Prop :=
  ∀ (s : State) (ax p r : Nat) (calm : Bool), s.m.alive = true → s.m.axes.contains ax = true → ax < s.m.ob.ax.length →
    ax < s.m.ax.length → p < s.m.po.length → s.m.roleOf ax = some (p, r) →
    (!(s.m.axis ax).coast && (s.m.axis ax).fstop.isNone && (s.m.axis ax).mv.all (fun mv => mv.stop.isNone)) = calm →
    (r < 2 → due (s.m.obst ax).absCnt (s.m.pn P.forceConfirm p) = false →
      due (s.m.obst ax).openCnt (s.m.pn P.forceConfirm p) = false →
      (due (s.m.obst ax).forceCnt (s.m.pn P.forceConfirm p) = true → ∃ t, exec (.obstacleForceDetect ax) s = .next t
        ∧ (t.m.obst ax).forceCnt = declared
        ∧ (t.m.portal p).obstacle = (if calm then (s.m.portal p).obstacle ||| 1 ||| 2 ^ (8 + r)
            else (s.m.portal p).obstacle)
        ∧ Raised s t 0x3001 ax [0, (s.m.binNow ax : Int), (s.m.obst ax).fEst.getD 0, b2n (!calm)]
        ∧ (s.m.moving ax = true → calm = true → ∃ d, (t.m.axis ax).arr = (s.m.axis ax).arr ++ [.react d])
        ∧ Frame [.ax, .ob, .po, .recd, .host] s t)
      ∧ (due (s.m.obst ax).forceCnt (s.m.pn P.forceConfirm p) = false → exec (.obstacleForceDetect ax) s = .next s))
    ∧ (r < 2 → due (s.m.obst ax).forceCnt (s.m.pn P.forceConfirm p) = false →
      due (s.m.obst ax).openCnt (s.m.pn P.forceConfirm p) = false →
      due (s.m.obst ax).absCnt (s.m.pn P.forceConfirm p) = true → ∃ t, exec (.obstacleForceDetect ax) s = .next t
        ∧ (t.m.obst ax).absCnt = declared
        ∧ (calm = true → (t.m.portal p).obstacle = (s.m.portal p).obstacle ||| 8 ||| 2 ^ (8 + r))
        ∧ Raised s t 0x3001 ax [3, (s.m.binNow ax : Int), (s.m.obst ax).fEst.getD 0, b2n (!calm)]
        ∧ Frame [.ax, .ob, .po, .recd, .host] s t)
    ∧ (∀ k : Nat, r < 2 → due (s.m.obst ax).forceCnt (s.m.pn P.forceConfirm p) = false →
      due (s.m.obst ax).absCnt (s.m.pn P.forceConfirm p) = false → (if s.m.inPocket ax then 6 else 5) = k →
      due (s.m.obst ax).openCnt (s.m.pn P.forceConfirm p) = true → ∃ t, exec (.obstacleForceDetect ax) s = .next t
        ∧ (t.m.obst ax).openCnt = declared
        ∧ (calm = true → (t.m.portal p).obstacle = (s.m.portal p).obstacle ||| 2 ^ k ||| 2 ^ (8 + r))
        ∧ Raised s t 0x3001 ax [(k : Int), (s.m.binNow ax : Int), (s.m.obst ax).fEst.getD 0, b2n (!calm)]
        ∧ Frame [.ax, .ob, .po, .recd, .host] s t)
    ∧ (r < 2 → due (s.m.obst ax).growCnt 2 = true → ∃ t, exec (.obstacleErrGrowth ax) s = .next t
      ∧ (t.m.obst ax).growCnt = declared
      ∧ (t.m.portal p).obstacle = (if calm then (s.m.portal p).obstacle ||| 2 ||| 2 ^ (8 + r)
          else (s.m.portal p).obstacle)
      ∧ Raised s t 0x3001 ax [1, (s.m.binNow ax : Int), (s.m.obst ax).fEst.getD 0, b2n (!calm)]
      ∧ Frame [.ax, .ob, .po, .recd, .host] s t)
    ∧ (due (s.m.obst ax).growCnt 2 = false → exec (.obstacleErrGrowth ax) s = .next s)
    ∧ (r = 2 → p = ax / 4 →
      (due (s.m.obst ax).forceCnt (s.m.pn P.forceConfirm p) = true → ∃ t, exec (.obstacleForceDetect ax) s = .next t
        ∧ (t.m.portal p).stepBlocked = true ∧ (t.m.axis ax).arr.getLast? = some (.stop .self)
        ∧ Raised s t 0x3005 ax [s.m.hostPos ax (s.m.pEnc ax), (s.m.obst ax).fEst.getD 0]
        ∧ Frame [.ax, .ob, .po, .recd, .host] s t)
      ∧ (due (s.m.obst ax).growCnt 2 = true → ∃ t, exec (.obstacleErrGrowth ax) s = .next t
        ∧ (t.m.portal p).stepBlocked = true ∧ (t.m.axis ax).arr.getLast? = some (.stop .self)
        ∧ Raised s t 0x3005 ax [s.m.hostPos ax (s.m.pEnc ax), (s.m.obst ax).fEst.getD 0]
        ∧ Frame [.ax, .ob, .po, .recd, .host] s t))
    ∧ (s.m.workDue ax = true → s.m.supervised ax = true → ∃ t, exec (.obstacleSupervisionLate ax) s = .next t
      ∧ (calm = true → (t.m.portal p).obstacle = (s.m.portal p).obstacle ||| 128 ||| 2 ^ (8 + r)
          ∧ (t.m.portal p).obstReact = 0)
      ∧ Raised s t 0x3008 ax [(ax : Int)]
      ∧ Raised s t 0x3001 ax [7, (s.m.binNow ax : Int), (s.m.obst ax).fEst.getD 0, b2n (!calm)]
      ∧ Frame [.ax, .ob, .po, .recd, .host] s t)
    ∧ (s.m.workDue ax = true → s.m.supervised ax = false → ∃ t, exec (.obstacleSupervisionLate ax) s = .next t
      ∧ After s t s.m ∧ Raised s t 0x3008 ax [(ax : Int)])
    ∧ (s.m.workDue ax = false → exec (.obstacleSupervisionLate ax) s = .next s)

/-- A measurement moves an edge's filter one step toward its reading, and a decision falls at its ends (R279). A fault
is entered with its cause and its event where the cause is there: open, shorted, a failed or an overdue test, no leaf;
it stands until every cause has been absent for 1 s (R278, R280). A pressure-wave test ends by what its readings
showed: it passes, or is the fault (R280). Model's choices in it: assumptions 8, 20, 153. -/
def Obligations.Edges : Prop :=
  ∀ (s : State) (e : Nat), s.m.alive = true → e < s.m.ob.edges.length →
    (∀ ohm, ∃ t, exec (.edgeMeasurement e ohm) s = .next t ∧ (t.m.edge e).ohm = ohm
      ∧ (ohm < s.m.pn P.edgePressR e → (t.m.edge e).filt = min (s.m.pn P.edgeFilter e) ((s.m.edge e).filt + 1)
        ∧ ((t.m.edge e).filt = s.m.pn P.edgeFilter e → (t.m.edge e).pressed = true))
      ∧ (s.m.pn P.edgePressR e ≤ ohm → (t.m.edge e).filt = (s.m.edge e).filt - 1
        ∧ (s.m.pn P.edgeFilter e ≠ 0 → (t.m.edge e).filt = 0 → (t.m.edge e).pressed = false))
      ∧ (t.m.edge e).openCnt = (if s.m.pn P.edgeOpenR e < ohm then (s.m.edge e).openCnt + 1 else 0)
      ∧ (∀ j, j ≠ e → t.m.edge j = s.m.edge j) ∧ Frame [.ob] s t)
    ∧ (∀ c, 1 ∉ (s.m.edge e).causes → c = 1 → s.m.p P.edgeType e ≠ 0 → s.m.pn P.edgeFilter e ≤ (s.m.edge e).openCnt →
      ∃ t, exec (.edgeFault e c) s = .next t ∧ 1 ∈ (t.m.edge e).causes ∧ (t.m.edge e).newPress = true
      ∧ (t.m.edge e).fault = some ((s.m.edge e).fault.getD 1)
      ∧ Raised s t 0x3003 e [1] ∧ Frame [.ob, .po, .recd, .host] s t)
    ∧ (∀ u, (s.m.edge e).pressedAt = some u → s.m.p P.edgeType e ≠ 0 → 2 ∉ (s.m.edge e).causes →
      ∃ t, exec (.edgeFault e 2) s = .next t ∧ 2 ∈ (t.m.edge e).causes ∧ (t.m.edge e).newPress = true
      ∧ t.m.raw = max s.m.raw (u + s.m.pn P.edgeShortTime e * 200000000)
      ∧ Raised s t 0x3003 e [2] ∧ Frame [.raw, .ob, .po, .recd, .host] s t)
    ∧ (∀ u, (s.m.edge e).test = some u → s.m.pwPassed e u = false → 3 ∉ (s.m.edge e).causes →
      ∃ t, exec (.edgeFault e 3) s = .next t ∧ 3 ∈ (t.m.edge e).causes ∧ (t.m.edge e).test = none
      ∧ t.m.raw = max s.m.raw (u + 30000000)
      ∧ Raised s t 0x3003 e [3] ∧ Frame [.raw, .ob, .po, .recd, .host] s t)
    ∧ (s.m.p P.edgeType e = 2 → 10 ≤ (s.m.edge e).sincePass → 4 ∉ (s.m.edge e).causes →
      ∃ t, exec (.edgeFault e 4) s = .next t ∧ 4 ∈ (t.m.edge e).causes
      ∧ Raised s t 0x3003 e [4] ∧ Frame [.ob, .po, .recd, .host] s t)
    ∧ (s.m.p P.edgeType e ≠ 0 → s.m.edgeLeaf e = none → 5 ∉ (s.m.edge e).causes →
      ∃ t, exec (.edgeFault e 5) s = .next t ∧ 5 ∈ (t.m.edge e).causes
      ∧ Raised s t 0x3003 e [5] ∧ Frame [.ob, .po, .recd, .host] s t)
    ∧ (∀ u, (s.m.edge e).test = some u →
      (s.m.pwPassed e u = true → ∃ t, exec (.edgePwTestEnd e true) s = .next t
        ∧ (t.m.edge e).test = none ∧ (t.m.edge e).sincePass = 0 ∧ (t.m.edge e).passed = true
        ∧ t.m.raw = max s.m.raw ((s.m.edge e).testFree.getD (u + 30000000)) ∧ Frame [.raw, .ob] s t)
      ∧ (s.m.pwPassed e u = false → 3 ∉ (s.m.edge e).causes → ∃ t, exec (.edgePwTestEnd e false) s = .next t
        ∧ (t.m.edge e).test = none ∧ 3 ∈ (t.m.edge e).causes ∧ Raised s t 0x3003 e [3]
        ∧ Frame [.raw, .ob, .po, .recd, .host] s t)
      ∧ (∀ pass, pass ≠ s.m.pwPassed e u → exec (.edgePwTestEnd e pass) s = .next s))
    ∧ (∀ pass, (s.m.edge e).test = none → exec (.edgePwTestEnd e pass) s = .next s)
    ∧ (∀ f u, (s.m.edge e).fault = some f → (s.m.edge e).clearAt = some u →
      (s.m.p P.edgeType e ≠ 2 ∨ (s.m.edge e).passed = true) → ∃ t, exec (.edgeFaultCleared e) s = .next t
      ∧ (t.m.edge e).fault = none ∧ t.m.raw = max s.m.raw (u + 200000000)
      ∧ Raised s t 0x3004 e [] ∧ Frame [.raw, .ob, .po, .recd, .host] s t)

/-- The probe decides clear or trapped from its measurement and reports which; in a learn run it measures only (R292,
R293). Changed profiles are saved by interval and by command, where class 8 runs (R274, R300), reloaded from the saved
copy or made invalid (R302). A learn run starts only when its conditions hold, and ends by writing and saving the
profiles it learned (R270). A ring command is taken here as Ready: its descriptor is fetched and next on its ring.
Model's choices in it: assumptions 8, 79, 82, 144. -/
def Obligations.Probe : Prop :=
  ∀ s : State, s.m.alive = true →
    (∀ ax p r c u, ∀ periods : List (Int × Nat), ∀ onset, s.m.axes.contains ax = true → ax < s.m.ob.ax.length →
      (s.m.obst ax).probe = .dwell u → s.m.roleOf ax = some (p, r) →
      (onsetOf periods).getD (Config.onsetUnseen s.m.freeCtr) = onset →
      (s.m.learning p = false → ∃ t, exec (.probeDecision ax c periods) s = .next t
        ∧ (t.m.obst ax).probe = (if s.m.trapped ax c (onsetOf periods) then .trapped else .clear)
        ∧ (t.m.obst ax).compliance = c ∧ (t.m.obst ax).onset = onset
        ∧ t.m.raw = max s.m.raw ((u + 19999) / 20000 * 20000)
        ∧ Raised s t 0x3002 ax [if s.m.trapped ax c (onsetOf periods) then 3 else 2, (s.m.probeRatio ax c : Int),
            onset - (s.m.obst ax).prof.onset]
        ∧ t.m.freeCtr = s.m.freeCtr + (if (onsetOf periods).isSome then 0 else 1)
        ∧ Frame [.raw, .freeCtr, .ob, .po, .recd, .host] s t)
      ∧ (s.m.learning p = true → ∃ t, exec (.probeDecision ax c periods) s = .next t
        ∧ (t.m.obst ax).probe = .clear ∧ (t.m.obst ax).compliance = c ∧ (t.m.obst ax).onset = onset
        ∧ (∀ l ∈ t.m.ob.learn, l.p = p → (r, c, onset) ∈ l.dwells)
        ∧ Frame [.raw, .freeCtr, .ob, .po, .host] s t))
    ∧ (s.m.runs 8 = true → s.m.ob.ax.any (fun o => o.changed) = true → ∃ t, exec .profileSaveInterval s = .next t
      ∧ (∀ o ∈ t.m.ob.ax, o.changed = false) ∧ t.m.ob.savedAt = t.m.raw
      ∧ t.m.raw = max s.m.raw (s.m.ob.savedAt + s.m.pn P.saveInterval 0 * 60 * 200000000)
      ∧ Raised s t 0x300C 0 [(t.m.ob.savedSeq : Int)] ∧ Frame [.raw, .ob, .nv, .po, .recd, .host] s t)
    ∧ ((s.m.runs 8 = false ∨ s.m.ob.ax.any (fun o => o.changed) = false) → exec .profileSaveInterval s = .next s)
    ∧ (∀ ax, s.m.axes.contains ax = true → ax < s.m.ob.ax.length →
      ((s.m.obst ax).loading = true →
        (∃ t, exec (.profileReloadDone ax true) s = .next t ∧ (t.m.obst ax).prof = s.m.ob.saved.getD ax Prof.reset
          ∧ (t.m.obst ax).loading = false ∧ Frame [.ob] s t)
        ∧ (∃ t, exec (.profileReloadDone ax false) s = .next t ∧ (t.m.obst ax).prof.valid = false
          ∧ (t.m.obst ax).loading = false ∧ Raised s t 0x300D ax [3] ∧ Frame [.ob, .po, .recd, .host] s t))
      ∧ ((s.m.obst ax).loading = false → ∀ ok, exec (.profileReloadDone ax ok) s = .next s))
    ∧ (∀ h, s.m.md.reads = true → Ready (.profileSave h) s →
      (s.m.runs 8 = true → ∃ t, exec (.profileSave h) s = .next t
        ∧ Answered s t h 0 t.m.ob.savedSeq ∧ (∀ o ∈ t.m.ob.ax, o.changed = false)
        ∧ (∀ i, i < 16 → i < s.m.ob.ax.length → i < s.m.ob.saved.length → s.m.isLeaf i = true →
            t.m.ob.saved.getD i Prof.reset = (s.m.obst i).prof)
        ∧ Frame [.ob, .nv, .po, .recd, .host] s t)
      ∧ (s.m.runs 8 = false → ∃ t, exec (.profileSave h) s = .next t
        ∧ t.m.ob.saves = s.m.ob.saves ++ [(0, some h)] ∧ Frame [.ob, .host] s t))
    ∧ (∀ h p m1, s.m.md.reads = true → s.m.portals.contains p = true → Ready (.learnRun h p) s →
      s.m.takeDue (fun d i => d.id == P.learnCycles.id && decide (i = p)) = m1 →
      (m1.learnReady p = false → ∃ t, exec (.learnRun h p) s = .next t ∧ After s t m1 ∧ Answered s t h 0x2401 0)
      ∧ (m1.learnReady p = true → 8 ≤ s.m.host.ops.length → ∃ t, exec (.learnRun h p) s = .next t
        ∧ After s t m1 ∧ Answered s t h 0x2002 0)
      ∧ (m1.learnReady p = true → s.m.host.ops.length < 8 → ∃ t, exec (.learnRun h p) s = .next t
        ∧ t.m.host.ops = (s.m.addOp (some h) (.learn p) 0).host.ops
        ∧ (∃ l ∈ t.m.ob.learn, l.p = p ∧ l.hdr = some h ∧ l.cycle = 0)
        ∧ Frame [.live, .due, .ob, .ax, .host] s t))
    ∧ (∀ slot o e l h p, s.m.host.ops[slot]? = some o → s.m.turnSlot = some slot → s.m.runs 7 = true → s.m.runs 8 = true →
      o.kind = .learn p → e.last = true → s.m.ob.learn.find? (fun l => decide (l.p = p)) = some l → l.ph = .write →
      s.m.learnOp p = some o → o.hdr = some h → ∃ t, exec (.longOpStep slot e) s = .next t
      ∧ (∀ i, s.m.roleAxis p 1 = some i → i < s.m.ob.ax.length → (t.m.obst i).prof = l.prof 1)
      ∧ (∀ i, s.m.roleAxis p 0 = some i → s.m.roleAxis p 1 ≠ some i → i < s.m.ob.ax.length →
          (t.m.obst i).prof = l.prof 0)
      ∧ s.m.ob.learn.length = t.m.ob.learn.length + (s.m.ob.learn.filter (fun x => x.p == p)).length
      ∧ Answered s t h 0 l.cycle ∧ Frame [.ob, .nv, .po, .recd, .host] s t)

/-! ### 09 Safety functions -/

/-- Four exchanges in a row with a difference make a loss of view of a pair or a release enable, fewer only count
(R307, R341); a pair that disagrees too long is latched as faulty in both channels (R310); an input that stays active
too long is suspect; STO takes torque from the whole group, a tripping cause latches it, also in a control-die reset
(R15, R313, R315); its read-back, the end of a Safe Stop and the force limit (R314, R318, R322, R324, R339). Model's
choices in it: assumptions 8, 20, 83, 85, 88. -/
def Obligations.StoAndPairs : Prop :=
  ∀ s : State, (s.m.sup.powered = true →
    (∀ g cause ch, g < 4 → g < s.m.saf.sto.length → ∃ t, exec (.stoDemand g cause ch) s = .next t
      ∧ (t.m.stoOf g).applied = true
      ∧ (ch = .reed → cause ∈ (t.m.stoOf g).reed) ∧ (ch = .bore → cause ∈ (t.m.stoOf g).bore)
      ∧ ((s.m.stoOf g).applied = false → Raised s t 0x4007 g [(cause : Int)]
        ∧ ∀ i, 4 * g ≤ i → i < 4 * g + 4 → i < s.m.ax.length → (t.m.axis i).torque = false ∧ (t.m.axis i).mv = none)
      ∧ (isTrip cause = true → ∀ i, 4 * g ≤ i → i < 4 * g + 4 → i < s.m.ax.length → (t.m.axis i).fault.isSome = true)
      ∧ Frame [.ax, .ob, .saf, .recd, .po, .host] s t)
    ∧ (∀ g cause ch, 4 ≤ g → exec (.stoDemand g cause ch) s = .next s))
    ∧ (s.m.alive = true →
    (∀ r b : Evals, (∀ k, k < 24 → evalsDiffer r b k = true → s.m.saf.diff.getD k 0 + 1 ≠ 4) →
      ∃ t, exec (.safetyExchange r b) s = .next t
      ∧ (∀ k, k < 24 → t.m.saf.diff.getD k 0 = if evalsDiffer r b k then s.m.saf.diff.getD k 0 + 1 else 0)
      ∧ Frame [.saf] s t ∧ t.m.saf.reedLost = s.m.saf.reedLost ∧ t.m.saf.views = s.m.saf.views)
    ∧ (∀ (r b : Evals) (k : Nat), k < 16 → (∀ j, j < 24 → j ≠ k → evalsDiffer r b j = true →
        s.m.saf.diff.getD j 0 + 1 ≠ 4) →
      s.m.saf.diff.getD k 0 = 3 → evalsDiffer r b k = true →
      decide (r.pairs.getD k 0 = 1) ≠ decide (b.pairs.getD k 0 = 1) →
      ∃ t v, exec (.safetyExchange r b) s = .next t ∧ (v, k) ∈ t.m.saf.views
      ∧ v = (if s.m.activeUnsafe k then decide (b.pairs.getD k 0 = 1) else decide (r.pairs.getD k 0 = 1))
      ∧ Frame [.saf, .mode, .recd, .po, .host] s t)
    ∧ (∀ (r b : Evals) (k : Nat), k < 2 → (∀ j, j < 24 → j ≠ 16 + k → evalsDiffer r b j = true →
        s.m.saf.diff.getD j 0 + 1 ≠ 4) →
      s.m.saf.diff.getD (16 + k) 0 = 3 → r.enables.getD k false ≠ b.enables.getD k false →
      ∃ t, exec (.safetyExchange r b) s = .next t ∧ (b.enables.getD k false, 0x60 + k) ∈ t.m.saf.views
      ∧ Frame [.saf, .mode, .recd, .po, .host] s t)
    ∧ (∀ p, p < s.m.saf.pairs.length → s.m.pairLimit p ≤ (s.m.saf.pairs.getD p Pair.reset).cnt →
      (s.m.saf.pairs.getD p Pair.reset).latched = false → ∃ t, exec (.pairDiscrepancy p) s = .next t
      ∧ (t.m.saf.pairs.getD p Pair.reset).latched = true ∧ (t.m.saf.pairs.getD p Pair.reset).reed = 2
      ∧ (t.m.saf.pairs.getD p Pair.reset).bore = 2 ∧ (∃ who : Nat, Raised s t 0x4005 p
          [(who : Int), b2n (s.m.diActive (s.m.pairDis p).1), b2n (s.m.diActive (s.m.pairDis p).2)]
        ∧ ((s.m.saf.pairs.getD p Pair.reset).agreed = none → who = 0x7F))
      ∧ Frame [.saf, .recd, .po, .host] s t)
    ∧ (∀ p, (s.m.saf.pairs.getD p Pair.reset).cnt < s.m.pairLimit p → exec (.pairDiscrepancy p) s = .next s)
    ∧ (∀ n u, n < s.m.io.di.length → (s.m.di n).activeAt = some u → s.m.pn P.diMaxActive n ≠ 0 →
      s.m.pn P.diTestSource n = 0 → (s.m.di n).suspect = false → ∃ t, exec (.inputStuckSuspect n) s = .next t
      ∧ (t.m.di n).suspect = true ∧ Raised s t 0x5006 n [(s.m.pn P.diMaxActive n : Int)]
      ∧ t.m.raw = max s.m.raw (u + s.m.pn P.diMaxActive n * 200000000)
      ∧ Frame [.raw, .io, .recd, .po, .host] s t)
    ∧ (∀ g bore u, g < s.m.saf.sto.length → (s.m.stoOf g).restoring = some u →
      ∃ t, exec (.stoReadbackTimeout g false bore) s = .next t
      ∧ (t.m.stoOf g).applied = true ∧ (t.m.stoOf g).restoring = none ∧ t.m.raw = max s.m.raw (u + 1000000)
      ∧ Raised s t 0x4009 g [if bore then 1 else 2] ∧ Frame [.raw, .ax, .ob, .saf, .recd, .po, .host] s t)
    ∧ (∀ g, (s.m.stoOf g).applied = true → s.m.saf.reedLost = none → s.m.saf.boreLost = none →
      (∃ t, exec (.stoReadbackTimeout g true false) s = .next t ∧ t.m.saf.reedLost = some 5)
      ∧ (∃ t, exec (.stoReadbackTimeout g true true) s = .next t ∧ t.m.saf.boreLost = some 4))
    ∧ (∀ g, g < s.m.saf.sto.length → g < s.m.saf.ss.length → s.m.groupAxes g ≠ [] →
      (∀ i ∈ s.m.groupAxes g, (s.m.safAx i).standAt.isSome = true) → s.m.saf.ss.getD g false = true →
      ∃ t, exec (.safeStopEnd g) s = .next t ∧ t.m.saf.ss.getD g false = false
      ∧ (t.m.stoOf g).applied = true ∧ 6 ∈ (t.m.stoOf g).reed ∧ (∀ i ∈ s.m.groupAxes g, (t.m.safAx i).mon = none)
      ∧ Frame [.raw, .ax, .ob, .saf, .recd, .po, .host] s t)
    ∧ (∀ g i, i ∈ s.m.groupAxes g → (s.m.safAx i).standAt = none → exec (.safeStopEnd g) s = .next s)
    ∧ (∀ ax ma ch, s.m.axes.contains ax = true → ax < s.m.ax.length → ax / 4 < s.m.saf.sto.length →
      s.m.isLeaf ax = true → (if ch = Chan.reed then s.m.closingDir ax else s.m.closingBore ax) = true →
      s.m.aboveSfl ax ma = true → ∃ t, exec (.sflTrip ax ch ma) s = .next t
      ∧ (t.m.stoOf (ax / 4)).applied = true ∧ (t.m.axis ax).fault.isSome = true
      ∧ Raised s t 0x400C ax [if ch = Chan.reed then 0 else 1, (ma : Int)] ∧ Frame [.ax, .ob, .saf, .recd, .po, .host] s t)
    ∧ (∀ ax ma ch, s.m.axes.contains ax = true → (s.m.isLeaf ax = false
        ∨ (if ch = Chan.reed then s.m.closingDir ax else s.m.closingBore ax) = false ∨ s.m.aboveSfl ax ma = false) →
      exec (.sflTrip ax ch ma) s = .next s)
    ∧ (∀ ax r b, s.m.axes.contains ax = true → ax < s.m.saf.ax.length →
        ∃ t, exec (.currentViewLost ax r b) s = .next t
      ∧ (t.m.safAx ax).magR = (r : Int) ∧ (t.m.safAx ax).magB = (b : Int)
      ∧ (b + 2000 < 10 * ((r : Int) - b).natAbs → (false, 0x40 + ax) ∈ t.m.saf.views)
      ∧ (10 * ((r : Int) - b).natAbs ≤ b + 2000 → t.m.saf.views = s.m.saf.views)
      ∧ Frame [.saf, .mode, .recd, .po, .host] s t))

/-- A safety loop: a channel's switch closes after its delay while the channel wants it (R326); overcurrent opens both
switches, retries, and latches at the third trip in 60 s (R328); LOOP_RESET clears the latch (R328); the off-pulses
(R330 to R333); a standing difference of the release enables loses a view (R337); degraded time and its limit (R345);
the status commands (R348, R355). A ring command is taken here as Ready: its descriptor is fetched and next on its
ring. Model's choices in it: assumptions 8, 20, 84, 89, 92, 135, 144. -/
def Obligations.Loops : Prop :=
  ∀ s : State, (s.m.sup.powered = true →
    (∀ sd, (s.m.saf.loops.get sd).closed = true → ∃ t, exec (.loopCurrentLimitTrip sd) s = .next t
      ∧ (t.m.saf.loops.get sd).closed = false
      ∧ (t.m.saf.loops.get sd).trips = recentTrips s.m.raw (s.m.saf.loops.get sd).trips ++ [s.m.raw]
      ∧ (t.m.saf.loops.get sd).latched = decide (3 ≤ (t.m.saf.loops.get sd).trips.length)
      ∧ ((t.m.saf.loops.get sd).latched = false →
          (t.m.saf.loops.get sd).retryAt = some (s.m.raw + s.m.pn P.loopRetryDelay 0 * 200000000))
      ∧ Raised s t 0x400D (sideNum sd) [0, 4]
        ∧ Raised s t 0x400E (sideNum sd) [((t.m.saf.loops.get sd).trips.length : Int)]
      ∧ Frame [.saf, .recd, .po, .host] s t)
    ∧ (∀ sd, (s.m.saf.loops.get sd).closed = false → exec (.loopCurrentLimitTrip sd) s = .next s)
    ∧ (∀ vl vr, s.m.saf.off.susp = none → s.m.saf.off.running = none →
      (s.m.saf.loops.L.closed = true ∨ s.m.saf.loops.R.closed = true) →
      ∃ t, exec (.offpulseStart vl vr) s = .next t ∧ t.m.saf.off.running = some s.m.pulseAt
      ∧ t.m.saf.off.lastAt = s.m.pulseAt ∧ t.m.raw = max s.m.raw (s.m.pulseAt - s.m.pulseMargin)
      ∧ t.m.saf.off.opened = pulsed (s.m.ownSwitch s.m.saf.off.next)
      ∧ t.m.saf.off.judged = (s.m.saf.loops.L.closed && decide (120 ≤ vl), s.m.saf.loops.R.closed && decide (120 ≤ vr))
      ∧ t.m.saf.loops.L.volt = vl ∧ t.m.saf.loops.R.volt = vr ∧ Frame [.raw, .saf] s t)
    ∧ (∀ vl vr u, s.m.saf.off.running = some u → s.m.ownSwitch s.m.saf.off.next = none →
      ∃ t, exec (.offpulseEnd vl vr) s = .next t ∧ t.m.saf.off.running = none
        ∧ t.m.saf.off.next = s.m.saf.off.next + 1 ∧ t.m.saf.off.fails = s.m.saf.off.fails
        ∧ t.m.saf.off.opened = (false, false)
        ∧ t.m.raw = max s.m.raw (u + s.m.pn P.loopOffpulse 0 * 200 + 4000) ∧ Frame [.raw, .saf] s t)
    ∧ (∀ sd u sw vl vr v, s.m.saf.off.running = some u → s.m.ownSwitch s.m.saf.off.next = some sw →
      s.m.saf.off.judged = (decide (sd = Side.L), decide (sd = Side.R)) → 4 ≤ s.m.saf.off.fails.length →
      (if sd = Side.L then vl else vr) = v →
      (v < 50 → ∃ t, exec (.offpulseEnd vl vr) s = .next t ∧ t.m.saf.off.running = none
        ∧ t.m.saf.off.next = s.m.saf.off.next + 1 ∧ t.m.saf.off.fails.getD (2 * sideNum sd + sw) 0 = 0
        ∧ t.m.saf.off.opened = (false, false)
        ∧ t.m.raw = max s.m.raw (u + s.m.pn P.loopOffpulse 0 * 200) ∧ Frame [.raw, .saf] s t
        ∧ t.m.saf.reedLost = s.m.saf.reedLost ∧ t.m.saf.boreLost = s.m.saf.boreLost)
      ∧ (50 ≤ v → s.m.saf.off.fails.getD (2 * sideNum sd + sw) 0 = 0 →
        ∃ t, exec (.offpulseEnd vl vr) s = .next t ∧ t.m.saf.off.fails.getD (2 * sideNum sd + sw) 0 = 1
          ∧ Raised s t 0x400F (sideNum sd) [(sw : Int), (v : Int)] ∧ Frame [.raw, .saf, .recd, .po, .host] s t
          ∧ t.m.saf.reedLost = s.m.saf.reedLost ∧ t.m.saf.boreLost = s.m.saf.boreLost)
      ∧ (50 ≤ v → s.m.saf.off.fails.getD (2 * sideNum sd + sw) 0 = 1 → s.m.saf.reedLost = none →
        s.m.saf.boreLost = none → ∃ t, exec (.offpulseEnd vl vr) s = .next t
          ∧ (if sw = 0 then t.m.saf.reedLost = some 4 else t.m.saf.boreLost = some 3)
          ∧ Raised s t 0x400F (sideNum sd) [(sw : Int), (v : Int)])))
    ∧ (s.m.alive = true →
    (∀ sd u, (s.m.saf.loops.get sd).sinceR = some u → s.m.wantReed sd = true →
      ∃ t, exec (.loopClose sd .reed) s = .next t
      ∧ (t.m.saf.loops.get sd).reed = true ∧ (t.m.saf.loops.get sd).bore = (s.m.saf.loops.get sd).bore
      ∧ t.m.raw = max s.m.raw (u + s.m.pn P.loopCloseDelay 0 * 200000)
      ∧ ((s.m.saf.loops.get sd).reed = false → (s.m.saf.loops.get sd).bore = true →
          Raised s t 0x400D (sideNum sd) [1, 1])
      ∧ Frame [.raw, .saf, .recd, .po, .host] s t)
    ∧ (∀ sd u, (s.m.saf.loops.get sd).sinceB = some u → s.m.sideBore sd = true →
        ∃ t, exec (.loopClose sd .bore) s = .next t
      ∧ (t.m.saf.loops.get sd).bore = true ∧ (t.m.saf.loops.get sd).reed = (s.m.saf.loops.get sd).reed
      ∧ t.m.raw = max s.m.raw (u + s.m.pn P.loopCloseDelay 0 * 200000)
      ∧ ((s.m.saf.loops.get sd).bore = false → (s.m.saf.loops.get sd).reed = true →
          Raised s t 0x400D (sideNum sd) [1, 1])
      ∧ Frame [.raw, .saf, .recd, .po, .host] s t)
    ∧ (∀ sd u m1, (s.m.saf.loops.get sd).retryAt = some u →
      (s.m.advance u).onLoop sd (fun l => { l with retryAt := none }) = m1 → ∃ t, exec (.loopRetry sd) s = .next t
      ∧ t.m.raw = max s.m.raw u ∧ (t.m.saf.loops.get sd).retryAt = none
      ∧ (t.m.saf.loops.get sd).reed = m1.wantReed sd ∧ (t.m.saf.loops.get sd).bore = m1.sideBore sd
      ∧ Frame [.raw, .saf, .recd, .po, .host] s t)
    ∧ (∀ h, (s.m.md = .service ∨ s.m.md.active = true) →
      (∀ sd : Side, (s.m.saf.loops.get sd).latched = true → Ready (.loopReset h (sideNum sd)) s →
        ∃ t, exec (.loopReset h (sideNum sd)) s = .next t
        ∧ (t.m.saf.loops.get sd).latched = false ∧ (t.m.saf.loops.get sd).trips = [] ∧ Answered s t h 0 0)
      ∧ (∀ sd : Side, (s.m.saf.loops.get sd).latched = false → Ready (.loopReset h (sideNum sd)) s →
          ∃ t, exec (.loopReset h (sideNum sd)) s = .next t
        ∧ After s t s.m ∧ Answered s t h 0x2502 0)
      ∧ (∀ n, 1 < n → Ready (.loopReset h n) s → ∃ t, exec (.loopReset h n) s = .next t ∧ After s t s.m
        ∧ Answered s t h 0x1004 0))
    ∧ (∀ c, s.m.saf.off.susp = none → s.m.offCause = some c →
      (s.m.saf.loops.L.closed = true ∨ s.m.saf.loops.R.closed = true) →
      ∃ t, exec .offpulseSuspended s = .next t ∧ t.m.saf.off.susp = some c ∧ t.m.saf.off.running = none
      ∧ Raised s t 0x4015 0 [1, (c : Int)] ∧ Frame [.saf, .recd, .po, .host] s t)
    ∧ (∀ c, s.m.saf.off.susp = some c → s.m.offCause = none → ∃ t, exec .offpulseSuspended s = .next t
      ∧ t.m.saf.off.susp = none ∧ Raised s t 0x4015 0 [0, (c : Int)] ∧ Frame [.saf, .recd, .po, .host] s t)
    ∧ (∀ sd u, (s.m.saf.rel.get sd).diffAt = some u → ∃ t, exec (.releaseEnableMismatch sd) s = .next t
      ∧ ((s.m.saf.rel.get sd).bore, 0x60 + sideNum sd) ∈ t.m.saf.views ∧ t.m.raw = max s.m.raw (u + 400000)
      ∧ (((s.m.saf.rel.get sd).bore, 0x60 + sideNum sd) ∉ s.m.saf.views →
          Raised s t 0x4002 (b2n (s.m.saf.rel.get sd).bore) [b2n (s.m.saf.rel.get sd).bore, (0x60 + sideNum sd : Nat)])
      ∧ Frame [.raw, .saf, .mode, .recd, .po, .host] s t)
    ∧ (∃ t, exec .degradedTimeWrite s = .next t ∧ t.m.raw = max s.m.raw (s.m.saf.degMramAt + 2000000000)
      ∧ t.m.saf.degMram = t.m.saf.deg / 200000000 ∧ t.m.saf.degMramAt = t.m.raw
      ∧ t.m.saf.deg = (if s.m.degOn then s.m.saf.deg + (t.m.raw - s.m.saf.degAt) else s.m.saf.deg)
      ∧ Frame [.raw, .saf, .recd, .po, .host] s t)
    ∧ (∀ d, (if s.m.degOn then s.m.saf.deg + (s.m.raw - s.m.saf.degAt) else s.m.saf.deg) = d → s.m.saf.reached = false →
      (s.m.degOn = true ∨ s.m.degLimit ≤ d) → ∃ t, exec .degradedLimitReached s = .next t
      ∧ t.m.saf.reached = true ∧ t.m.side.L.grant = false ∧ t.m.side.R.grant = false
      ∧ t.m.raw = s.m.raw + (s.m.degLimit - d)
      ∧ (∀ p ∈ s.m.portals, s.m.enabled p = true → p < s.m.po.length → (s.m.portal p).state = 0 →
          (t.m.portal p).isolDeg = true)
      ∧ Raised s t 0x4004 0 [((max d s.m.degLimit / 200000000 : Nat) : Int)])
    ∧ (∀ h, s.m.md.reads = true →
      (Ready (.pairStatus h) s → ∃ t, exec (.pairStatus h) s = .next t ∧ After s t s.m ∧ Answered s t h 0
        (packPairs (s.m.saf.pairs.map (fun q => q.reed)) + 2 ^ 32 * packPairs (s.m.saf.pairs.map (fun q => q.bore))))
      ∧ (s.m.host.ops.length < 8 → Ready (.checkValueCompute h) s → ∃ t, exec (.checkValueCompute h) s = .next t
        ∧ After s t (s.m.addOp (some h) .checkValue 0))
      ∧ (8 ≤ s.m.host.ops.length → Ready (.checkValueCompute h) s → ∃ t, exec (.checkValueCompute h) s = .next t
        ∧ After s t s.m ∧ Answered s t h 0x2002 0)))

/-! ### 10 Field dies and load switches -/

/-- A sampling window moves on by its own instant, and each input's filter takes its sample (R359, R360, R361); an
upstream frame is taken whole or counted as lost (R369, R372); a valid downstream frame brings the commanded states
(R370); the third lost frame makes the link stale (R372), and 60 us without a valid frame the fail-safe states (R373).
Model's choices in it: assumptions 8, 93, 94, 95, 146. -/
def Obligations.FieldLinks : Prop :=
  ∀ (s : State) (die : Nat), die < 2 → die < s.m.io.die.length → s.m.alive = true →
    (∀ raw : List Bool, ∃ t, exec (.inputSample raw) s = .next t
      ∧ t.m.io.sampleAt = t.m.raw ∧ s.m.raw ≤ t.m.raw ∧ s.m.io.sampleAt < t.m.io.sampleAt
      ∧ t.m.io.windows = (s.m.io.windows + 1) % 65536 ∧ t.par = s.par ∧ t.boot = s.boot
      ∧ (∀ i, i < 64 → i < s.m.io.di.length → s.m.diStale i = false → s.m.pn P.diTestSource i = 0 → s.m.md ≠ .dormant →
        (t.m.di i).raw = raw.getD i false
        ∧ ((t.m.di i).cnt, (t.m.di i).filt) = filterStep (s.m.di i).cnt (s.m.di i).filt (raw.getD i false)
            (s.m.pn P.diFilterMax i) (s.m.pn P.diOnTh i) (s.m.pn P.diOffTh i)))
    ∧ (∀ f : UpFrame, f.ok = false → ∃ t, exec (.fieldUpstreamFrame die f) s = .next t
      ∧ t.m.die die = { s.m.die die with upLost := min ((s.m.die die).upLost + 1) 3, upGood := 0 } ∧ Frame [.io] s t)
    ∧ (∀ f : UpFrame, f.ok = true → (s.m.die die).stale = false → ∃ t, exec (.fieldUpstreamFrame die f) s = .next t
      ∧ (t.m.die die).upLost = 0 ∧ (t.m.die die).seq = f.seq ∧ (t.m.die die).rawNew = f.rawNew
      ∧ (t.m.die die).wdogSeen = f.failsafe
      ∧ (((s.m.die die).tokPos = 0 ∨ s.m.echoFresh die f.tokenEcho = true) → (t.m.die die).lag = 0
        ∧ (t.m.die die).downLost = false)
      ∧ (f.failsafe = true → (s.m.die die).wdogSeen = false → Raised s t 0x5003 die [(die : Int)])
      ∧ Frame [.io, .ob, .live, .due, .po, .recd, .host] s t)
    ∧ (s.m.tokens = true → ∃ t, exec (.fieldDownstreamFrame die true) s = .next t
      ∧ (t.m.die die).tokPos = (s.m.die die).tokPos + 1 ∧ (t.m.die die).lastDown = s.m.raw
      ∧ (t.m.die die).downSeq = ((s.m.die die).downSeq + 1) % 256 ∧ (t.m.die die).cfgAddr = ((s.m.die die).cfgAddr + 1) % 4096
      ∧ (∀ n ∈ dieLs die, n < s.m.io.ls.length → (t.m.ls n).dieCmd = (s.m.ls n).cmd)
      ∧ Frame [.io, .live, .due, .host] s t)
    ∧ (∃ t, exec (.fieldDownstreamFrame die false) s = .next t
      ∧ (t.m.die die).good = 0 ∧ (t.m.die die).lastDown = (s.m.die die).lastDown ∧ Frame [.io] s t)
    ∧ (s.m.tokens = false → ∀ ok, ∃ t, exec (.fieldDownstreamFrame die ok) s = .next t
      ∧ (t.m.die die).tokPos = (s.m.die die).tokPos ∧ (t.m.die die).good = 0
      ∧ (t.m.die die).lastDown = (s.m.die die).lastDown ∧ Frame [.io] s t)
    ∧ ((s.m.die die).stale = false → ∃ t, exec (.fieldLinkStale die) s = .next t
      ∧ (t.m.die die).stale = true ∧ (t.m.die die).staleAt = s.m.raw
      ∧ Raised s t 0x5001 die [(die : Int), 1] ∧ t.m.host.faultBits.testBit (6 + die) = true ∧ t.par = s.par
        ∧ t.boot = s.boot)
    ∧ ((s.m.die die).wdog = false → ∃ t, exec (.fieldWatchdogFailsafe die) s = .next t
      ∧ (t.m.die die).wdog = true ∧ t.m.raw = max s.m.raw ((s.m.die die).lastDown + 12000)
      ∧ (∀ n ∈ dieLs die, (t.m.ls n).timed = none) ∧ Raised s t 0x5012 die [2]
      ∧ Frame [.raw, .io, .live, .due, .po, .recd, .host] s t)
    ∧ ((s.m.die die).stale = true → exec (.fieldLinkStale die) s = .next s)
    ∧ ((s.m.die die).wdog = true → exec (.fieldWatchdogFailsafe die) s = .next s)

/-- What happens to a channel by itself: timed switching, flashing, limit and fuse trips, the group's limit, open
load, the thermal latch, retries (R375, R377 to R385, R388); protection goes on in a control-die reset (R15). Model's
choices in it: assumptions 8, 96, 97. -/
def Obligations.LoadSwitches : Prop :=
  ∀ (s : State) (n : Nat), s.m.sup.powered = true → n < 24 → n < s.m.io.ls.length →
    (∀ st u, (s.m.ls n).timed = some (st, u) → ∃ t, exec (.lsTimedSwitch n) s = .next t
      ∧ (t.m.ls n).cmd = st ∧ (t.m.ls n).dieCmd = st ∧ (t.m.ls n).timed = none ∧ t.m.raw = max s.m.raw u
      ∧ (∀ j, j ≠ n → t.m.ls j = s.m.ls j) ∧ Frame [.raw, .io, .live, .due, .host] s t)
    ∧ ((s.m.ls n).flashing = true → ∃ t, exec (.lsFlashToggle n) s = .next t
      ∧ (t.m.ls n).out = (!(s.m.ls n).out) ∧ (t.m.ls n).flashAt = t.m.raw
      ∧ t.m.raw = max s.m.raw ((s.m.ls n).flashAt + 100000000) ∧ Frame [.raw, .io, .live, .due, .host] s t)
    ∧ (∀ ma u i, (s.m.ls n).out = true →
      max s.m.raw ((s.m.ls n).onAt + (s.m.pn P.lsInrushTime n + 10) * 200000) = u → s.m.lsSum n ma 1 = i →
      (s.m.lsLimit n u ≤ i → ∃ t, exec (.lsLimitTrip n ma) s = .next t
        ∧ (t.m.ls n).out = false ∧ (t.m.ls n).trip = 1 ∧ (t.m.ls n).tripMa = i ∧ (t.m.ls n).tripAt = u ∧ t.m.raw = u
        ∧ Raised s t 0x5008 n [1, (i : Int)] ∧ Frame [.raw, .io, .live, .due, .po, .recd, .host] s t)
      ∧ (i < s.m.lsLimit n u → exec (.lsLimitTrip n ma) s = .next s))
    ∧ ((s.m.ls n).out = false → ∀ ma, exec (.lsLimitTrip n ma) s = .next s)
    ∧ (∀ ma own i, (if (s.m.ls n).out then (if s.m.lsReports n then ma else (s.m.ls n).ma) else 0) = own →
      s.m.lsSum n own 1 = i →
      ∃ (t : State) (x : Int), exec (.lsFuseUpdate n ma) s = .next t
      ∧ x = (s.m.ls n).x + ((i * i * 65536 : Nat) - ((s.m.ls n).x : Int)) / ((wireClass (s.m.pn P.lsWireClass n)).2 : Int)
      ∧ (t.m.ls n).x = x.toNat ∧ (t.m.ls n).ma = (if s.m.lsReports n then own else (s.m.ls n).ma)
      ∧ t.m.io.reportAt = s.m.raw
      ∧ (((s.m.ls n).out = false ∨ 100 * x.toNat < s.m.lsLevel n) →
          (t.m.ls n).out = (s.m.ls n).out ∧ (t.m.ls n).trip = (s.m.ls n).trip)
      ∧ ((s.m.ls n).out = true → s.m.lsLevel n ≤ 100 * x.toNat → (t.m.ls n).out = false ∧ (t.m.ls n).trip = 2
        ∧ Raised s t 0x5008 n [2, (i : Int)])
      ∧ Frame [.io, .live, .due, .po, .recd, .host] s t)
    ∧ (s.m.alive = true → ∀ own avg, (if s.m.twinConf && !s.m.tw.heart then 2 * own else own) = avg →
      (24000 * s.m.sup.kT / 10000 < avg → ((s.m.ls n).out = true ∨ (s.m.ls n).flashing = true) →
        ∃ t k, exec (.groupCheck (lsGroup n) own) s = .next t
        ∧ k < 24 ∧ lsGroup k = lsGroup n ∧ ((s.m.ls k).out = true ∨ (s.m.ls k).flashing = true)
        ∧ (t.m.ls k).out = false ∧ (t.m.ls k).shed = true
        ∧ (∀ j, j < 24 → lsGroup j = lsGroup n → ((s.m.ls j).out = true ∨ (s.m.ls j).flashing = true) →
            t.m.pn P.lsPriority k ≤ t.m.pn P.lsPriority j)
        ∧ Raised s t 0x500D (lsGroup n) [(k : Int), (avg : Int)] ∧ Frame [.io, .live, .due, .po, .recd, .host] s t)
      ∧ (avg ≤ 24000 * s.m.sup.kT / 10000 → (24000 * s.m.sup.kT / 10000) * 80 ≤ avg * 100 →
        ∃ t, exec (.groupCheck (lsGroup n) own) s = .next t ∧ t.m.io.ls = s.m.io.ls ∧ Frame [.io, .live, .due, .host] s t)
      ∧ (∀ u, avg * 100 < (24000 * s.m.sup.kT / 10000) * 80 → (s.m.ls n).shed = true →
        (s.m.io.grp.getD (lsGroup n - 1) ⟨0, none⟩).belowAt = some u → u + 200000000 ≤ s.m.raw →
        ∃ t k, exec (.groupCheck (lsGroup n) own) s = .next t
        ∧ k < 24 ∧ lsGroup k = lsGroup n ∧ (s.m.ls k).shed = true ∧ (t.m.ls k).shed = false
        ∧ Frame [.io, .live, .due, .po, .recd, .host] s t))
    ∧ (s.m.alive = true → ∀ own cur, s.m.pn P.lsOpenLoad n ≠ 0 → s.m.lsReports n = true →
      s.m.lsSum n own (if s.m.p P.lsMode n = 1 then 20 else 1) = cur →
      ((s.m.ls n).openLoad = false → (s.m.ls n).out = true → cur < s.m.pn P.lsOpenLoad n →
        (s.m.ls n).onAt + s.m.pn P.lsInrushTime n * 200000 ≤ s.m.raw → ∃ t, exec (.lsOpenLoad n own) s = .next t
        ∧ (t.m.ls n).openLoad = true ∧ Raised s t 0x500C n [1, (cur : Int)] ∧ Frame [.io, .po, .recd, .host] s t)
      ∧ ((s.m.ls n).openLoad = true → s.m.pn P.lsOpenLoad n ≤ cur → ∃ t, exec (.lsOpenLoad n own) s = .next t
        ∧ (t.m.ls n).openLoad = false ∧ Raised s t 0x500C n [0, (cur : Int)] ∧ Frame [.io, .po, .recd, .host] s t))
    ∧ ((s.m.pn P.lsOpenLoad n = 0 ∨ s.m.lsReports n = false) → ∀ own, exec (.lsOpenLoad n own) s = .next s)
    ∧ ((s.m.ls n).latch = true → ∃ t, exec (.lsThermalLatchClear n) s = .next t
      ∧ (s.m.lsWant n = 0 → (t.m.ls n).retries = (s.m.ls n).retries)
      ∧ (s.m.lsWant n ≠ 0 → (s.m.ls n).exhausted = false → (s.m.ls n).retries < s.m.pn P.lsRetryMax n →
        (t.m.ls n).retries = (s.m.ls n).retries + 1 ∧ Raised s t 0x500A n [((s.m.ls n).retries : Int) + 1])
      ∧ Frame [.io, .live, .due, .po, .recd, .host] s t)
    ∧ ((s.m.ls n).trip = 2 → (s.m.ls n).latch = false → (s.m.ls n).exhausted = false → s.m.lsWant n ≠ 0 →
      s.m.lsLevel n < 200 * (s.m.ls n).x → ∃ t, exec (.lsRetry n) s = .next t
        ∧ t.m.raw = max s.m.raw ((s.m.ls n).tripAt + s.m.pn P.lsRetryDelay n * 200000) ∧ Frame [.raw] s t)
    ∧ (((s.m.ls n).trip = 1 ∨ ((s.m.ls n).trip = 2 ∧ 200 * (s.m.ls n).x ≤ s.m.lsLevel n)) → (s.m.ls n).latch = false → (s.m.ls n).exhausted = false → s.m.lsWant n ≠ 0 →
      ((s.m.ls n).retries < s.m.pn P.lsRetryMax n → ∃ t, exec (.lsRetry n) s = .next t
        ∧ (t.m.ls n).trip = 0 ∧ (t.m.ls n).retries = (s.m.ls n).retries + 1
        ∧ t.m.raw = max s.m.raw ((s.m.ls n).tripAt + s.m.pn P.lsRetryDelay n * 200000)
        ∧ Raised s t 0x500A n [((s.m.ls n).retries : Int) + 1]
          ∧ Frame [.raw, .io, .live, .due, .po, .recd, .host] s t)
      ∧ (s.m.pn P.lsRetryMax n ≤ (s.m.ls n).retries → ∃ t, exec (.lsRetry n) s = .next t
        ∧ (t.m.ls n).exhausted = true ∧ Raised s t 0x500B n [((s.m.ls n).trip : Int)] ∧ Frame [.raw, .io, .po, .recd, .host] s t))
    ∧ (((s.m.ls n).out = true ∨ (s.m.ls n).flashing = true) → ∃ t, exec (.lsRetryCounterReset n) s = .next t ∧ (t.m.ls n).retries = 0
      ∧ t.m.raw = max s.m.raw ((s.m.ls n).goodAt + 12000000000) ∧ Frame [.raw, .io] s t)

/-- LS_SET, LS_CLEAR and IO_STATUS (R376, R385, R391, R392); a feed half that sags, returns or is missing switches its
channels (R386). A ring command is taken here as Ready: its descriptor is fetched and next on its ring. Model's
choices in it: assumptions 8, 97, 144. -/
def Obligations.IoCommands : Prop :=
  ∀ s : State, (s.m.alive = true →
    (∀ h n st, s.m.md.faultClear = true → s.m.locked (.ls n) = false →
      (n < 24 → n < s.m.io.ls.length → st < 3 → s.m.lsOwned n = false → Ready (.lsSet h n st) s →
        ∃ t, exec (.lsSet h n st) s = .next t
        ∧ ((s.m.twinActive && s.m.tw.pairFormed && s.m.tw.heart) = false →
          (t.m.ls n).cmd = st ∧ Frame [.io, .host] s t)
        ∧ ((s.m.twinActive && s.m.tw.pairFormed && s.m.tw.heart) = true →
          (t.m.ls n).timed = some (st, s.m.raw + 12000)
          ∧ t.m.fab.sent = s.m.fab.sent ++ [⟨4, 9, n, [(st : Int), ((s.m.raw + 12000 : Nat) : Int)], []⟩]
          ∧ Frame [.io, .fab, .host] s t)
        ∧ (s.m.lsHeld n = true → Answered s t h 0x0020 0)
        ∧ (s.m.lsHeld n = false → Answered s t h 0 (if s.m.lsAfter n st then 1 else 0))
        ∧ (∀ j, j ≠ n → t.m.ls j = s.m.ls j))
      ∧ (24 ≤ n → Ready (.lsSet h n st) s → ∃ t, exec (.lsSet h n st) s = .next t ∧ After s t s.m
        ∧ Answered s t h 0x1004 0)
      ∧ (n < 24 → 3 ≤ st → Ready (.lsSet h n st) s → ∃ t, exec (.lsSet h n st) s = .next t ∧ After s t s.m
        ∧ Answered s t h 0x1003 0)
      ∧ (n < 24 → st < 3 → s.m.lsOwned n = true → Ready (.lsSet h n st) s → ∃ t, exec (.lsSet h n st) s = .next t
        ∧ After s t s.m ∧ Answered s t h 0x2601 0)
      ∧ (24 ≤ n → Ready (.lsClear h n) s → ∃ t, exec (.lsClear h n) s = .next t ∧ After s t s.m
        ∧ Answered s t h 0x1004 0)
      ∧ (n < 24 → n < s.m.io.ls.length → (s.m.ls n).latch = false → Ready (.lsClear h n) s →
          ∃ t, exec (.lsClear h n) s = .next t
        ∧ (t.m.ls n).retries = 0 ∧ (t.m.ls n).exhausted = false ∧ (t.m.ls n).trip = 0
        ∧ Raised s t 0x5010 n [] ∧ Answered s t h 0 0 ∧ Frame [.io, .live, .due, .po, .recd, .host] s t)
      ∧ (n < 24 → (s.m.ls n).latch = true → Ready (.lsClear h n) s → ∃ t, exec (.lsClear h n) s = .next t
        ∧ After s t s.m ∧ Answered s t h 0x2602 0))
    ∧ (∀ h len, s.m.md.reads = true →
      (144 ≤ len → Ready (.ioStatus h len) s → ∃ t, exec (.ioStatus h len) s = .next t ∧ After s t s.m
        ∧ Gave s t h { status := 0, buf := (s.m.ioWords.map le4).flatten })
      ∧ (len < 144 → Ready (.ioStatus h len) s → ∃ t, exec (.ioStatus h len) s = .next t ∧ After s t s.m
        ∧ Answered s t h 0x1006 0)))
    ∧ (s.m.sup.powered = true → ∀ f volt, f < 4 → f < s.m.io.feed.length →
      (volt < s.m.feedMin f → (s.m.feed f).sag = false → ∃ t, exec (.feedSagOff f volt) s = .next t
        ∧ (t.m.feed f).sag = true ∧ (t.m.feed f).offAt = s.m.raw ∧ (∀ n ∈ halfLs f, n < s.m.io.ls.length →
            (t.m.ls n).out = false)
        ∧ Raised s t 0x500E (feedGroup f) [(volt : Int)] ∧ Frame [.io, .live, .due, .po, .recd, .host] s t)
      ∧ ((s.m.feed f).sag = true → 8 * s.m.pn P.feedUn (feedGroup f) ≤ volt →
          ∃ t, exec (.feedRestored f volt) s = .next t
        ∧ (t.m.feed f).sag = false
        ∧ Raised s t 0x500F (feedGroup f) [(((s.m.raw - (s.m.feed f).offAt) / 200000 : Nat) : Int)]
        ∧ Frame [.io, .live, .due, .po, .recd, .host] s t)
      ∧ ((s.m.feed f).absent = false → volt < 50 → ∃ t, exec (.feedAbsent f volt) s = .next t
        ∧ (t.m.feed f).absent = true ∧ (∀ n ∈ halfLs f, n < s.m.io.ls.length → (t.m.ls n).out = false)
        ∧ Raised s t 0x5011 (feedGroup f) [1] ∧ Frame [.io, .live, .due, .po, .recd, .host] s t)
      ∧ ((s.m.feed f).absent = true → 50 ≤ volt → ∃ t, exec (.feedAbsent f volt) s = .next t
        ∧ (t.m.feed f).absent = false ∧ Raised s t 0x5011 (feedGroup f) [0]
        ∧ Frame [.io, .live, .due, .po, .recd, .host] s t)
      ∧ ((s.m.feedMin f ≤ volt ∨ (s.m.feed f).sag = true) →
        exec (.feedSagOff f volt) s = .next { s with m := s.m.onFeed f (fun x => { x with volt := volt }) })
      ∧ (((s.m.feed f).sag = false ∨ volt < 8 * s.m.pn P.feedUn (feedGroup f)) →
        exec (.feedRestored f volt) s = .next { s with m := s.m.onFeed f (fun x => { x with volt := volt }) })
      ∧ ((s.m.feed f).absent = decide (volt < 50) →
        exec (.feedAbsent f volt) s = .next { s with m := s.m.onFeed f (fun x => { x with volt := volt }) }))

/-- Every switch has a thermal latch, which its junction's 175 degC sets: the channel is off at once and the event is
raised; at 155 degC it clears and the event is raised again (R382). -/
def Obligations.ThermalLatch : Prop :=
  ∀ (s : State) (n : Nat), s.m.sup.powered = true → n < 24 → n < s.m.io.ls.length →
    ((s.m.ls n).latch = false → ∃ t, exec (.lsThermalLatchSet n) s = .next t
      ∧ (t.m.ls n).latch = true ∧ (t.m.ls n).out = false ∧ Raised s t 0x5009 n [1]
      ∧ (∀ j, j ≠ n → t.m.ls j = s.m.ls j) ∧ Frame [.io, .live, .due, .po, .recd, .host] s t)
    ∧ ((s.m.ls n).latch = true → ∃ t, exec (.lsThermalLatchClear n) s = .next t
      ∧ (t.m.ls n).latch = false ∧ Raised s t 0x5009 n [0]
      ∧ (∀ j, j ≠ n → t.m.ls j = s.m.ls j) ∧ Frame [.io, .live, .due, .po, .recd, .host] s t)

/-! ### 11 CAN FD -/

/-- CAN. A port is enabled only with a timing that passes the rules of R399, and leaves the bus with its frames
aborted (R401); frames are offered, refused and cancelled by command (R403, R404, R410, R413, R414). On the bus the
offer with the lowest arbitration field is sent (R405); an attempt's end counts it, removes it or keeps it (R403, R406
to R410); a received frame is stored in the first object that takes it (R412); errors count toward bus off and out of
it (R407); periodic and status frames (R414, R415). A ring command is taken here as Ready: its descriptor is fetched
and next on its ring. Model's choices in it: assumptions 8, 98, 99, 144. -/
def Obligations.CanPorts : Prop :=
  ∀ (s : State) (p : Nat), s.m.alive = true → p < 2 → p < s.m.can.length →
    (∀ cfg, (s.m.canPort p).en = false →
      ((s.m.canPort p).timingFault = none → ∃ t, exec (.canPortEnable p cfg) s = .next t
        ∧ (t.m.canPort p).cfg = 2 ^ 31 + (cfg &&& 0x7F000000)
        ∧ (t.m.canPort p).en = true ∧ (t.m.canPort p).errState = 0 ∧ (t.m.canPort p).tec = 0
        ∧ (t.m.canPort p).recErr = 0 ∧ (t.m.canPort p).objs = canObjs (s.m.canPort p).tab ∧ Frame [.can] s t)
      ∧ (∀ k, (s.m.canPort p).timingFault = some k → ∃ t, exec (.canPortEnable p cfg) s = .next t
        ∧ (t.m.canPort p).en = false ∧ (t.m.canPort p).cfgRejected = true
        ∧ Raised s t 0x6009 p [(k : Int)] ∧ Frame [.can, .po, .recd, .host] s t)
      ∧ exec (.canPortDisable p cfg) s
        = .next { s with m := s.m.onCan p (fun c => { c with cfg := cfg &&& 0x7F000000 }) })
    ∧ (∀ cfg, (s.m.canPort p).en = true →
      exec (.canPortEnable p cfg) s
        = .next { s with m := s.m.onCan p (fun c => { c with cfg := 2 ^ 31 + canCfgKeep c.cfg cfg }) }
      ∧ ((s.m.canPort p).attempt.isSome = true → exec (.canPortDisable p cfg) s
        = .next { s with m := s.m.onCan p (fun c => { c with cfg := 2 ^ 31 + canCfgKeep c.cfg cfg, disabling := true }) }))
    ∧ (∀ cfg, (s.m.canPort p).en = true → (s.m.canPort p).attempt = none →
        ∃ t, exec (.canPortDisable p cfg) s = .next t
      ∧ (t.m.canPort p).en = false ∧ (t.m.canPort p).errState = 3 ∧ (t.m.canPort p).attempt = none
      ∧ (∀ x ∈ (s.m.canPort p).pending, Raised s t 0x6003 p [(x.1 : Int), 2]) ∧ Frame [.can, .po, .recd, .host] s t)
    ∧ ((s.m.canPort p).errState = 2 → ∃ t, exec (.canBusOffRecover p) s = .next t
      ∧ t.m.canPort p = { s.m.canPort p with recovering := true } ∧ Frame [.can] s t)
    ∧ ((s.m.canPort p).errState ≠ 2 → exec (.canBusOffRecover p) s = .next s)
    ∧ (∃ t, exec (.canCounterClear p) s = .next t
      ∧ t.m.canPort p = { s.m.canPort p with txOk := 0, rxOk := 0, errors := 0, rxDropped := 0, collisions := 0, busOffs := 0 }
      ∧ Frame [.can] s t)
    ∧ (s.m.md.comm = true →
      (∀ h buf a f, buf < 3 → buf < (s.m.canPort p).txb.length → (s.m.canPort p).en = true →
        s.m.canFrame p a = .inl f →
        ((s.m.canPort p).src buf = none → Ready (.canTx h p buf a) s → ∃ t, exec (.canTx h p buf a) s = .next t
          ∧ (t.m.canPort p).src buf = some f ∧ Answered s t h 0 0 ∧ Frame [.can, .host] s t)
        ∧ ((s.m.canPort p).src buf ≠ none → Ready (.canTx h p buf a) s → ∃ t, exec (.canTx h p buf a) s = .next t
          ∧ After s t s.m ∧ Answered s t h 0x2702 0))
      ∧ (∀ h buf a, buf < 3 → (s.m.canPort p).en = false → Ready (.canTx h p buf a) s →
          ∃ t, exec (.canTx h p buf a) s = .next t
        ∧ After s t s.m ∧ Answered s t h 0x2701 0)
      ∧ (∀ h buf a st, buf < 3 → (s.m.canPort p).en = true → s.m.canFrame p a = .inr st → Ready (.canTx h p buf a) s →
          ∃ t, exec (.canTx h p buf a) s = .next t ∧ After s t s.m ∧ Answered s t h st 0)
      ∧ (∀ h buf a, 3 ≤ buf → Ready (.canTx h p buf a) s → ∃ t, exec (.canTx h p buf a) s = .next t
        ∧ After s t s.m ∧ Answered s t h 0x1003 0)
      ∧ (∀ h q, 2 ≤ q →
        (∀ buf a, Ready (.canTx h q buf a) s → ∃ t, exec (.canTx h q buf a) s = .next t
          ∧ After s t s.m ∧ Answered s t h 0x1004 0)
        ∧ (∀ src, Ready (.canTxCancel h q src) s → ∃ t, exec (.canTxCancel h q src) s = .next t
          ∧ After s t s.m ∧ Answered s t h 0x1004 0)
        ∧ (∀ n b d, Ready (.canObjWrite h q n b d) s → ∃ t, exec (.canObjWrite h q n b d) s = .next t
          ∧ After s t s.m ∧ Answered s t h 0x1004 0))
      ∧ (∀ h buf f, ((buf < 3 ∧ buf < (s.m.canPort p).txb.length)
          ∨ (0x80 ≤ buf ∧ buf < 0x100 ∧ buf - 0x80 < (s.m.canPort p).objs.length)) → (s.m.canPort p).src buf = some f →
        ((s.m.canPort p).attempt.all (fun x => x.1 != buf) = true → Ready (.canTxCancel h p buf) s →
          ∃ t, exec (.canTxCancel h p buf) s = .next t
          ∧ (t.m.canPort p).src buf = none ∧ Raised s t 0x6002 p [(buf : Int), (f.ident : Int)] ∧ Answered s t h 0 0
          ∧ Frame [.can, .po, .recd, .host] s t)
        ∧ (∀ u l, (s.m.canPort p).attempt = some (buf, u, l) → Ready (.canTxCancel h p buf) s →
            ∃ t, exec (.canTxCancel h p buf) s = .next t
          ∧ t.m.canPort p = { s.m.canPort p with attempt := some (buf, u, some h) } ∧ Frame [.can, .host] s t))
      ∧ (∀ h buf, (buf < 3 ∨ (0x80 ≤ buf ∧ buf < 0x100)) → (s.m.canPort p).src buf = none → Ready (.canTxCancel h p buf) s →
          ∃ t, exec (.canTxCancel h p buf) s = .next t
        ∧ After s t s.m ∧ Answered s t h 0x2705 0)
      ∧ (∀ h buf, 3 ≤ buf → (buf < 0x80 ∨ 0x100 ≤ buf) → Ready (.canTxCancel h p buf) s →
          ∃ t, exec (.canTxCancel h p buf) s = .next t ∧ After s t s.m ∧ Answered s t h 0x1003 0)
      ∧ (∀ h n d, n < 128 → n < (s.m.canPort p).objs.length → (s.m.canPort p).en = true →
        ((s.m.canPort p).objs.getD n CanObj.reset).valid = true →
          ((s.m.canPort p).objs.getD n CanObj.reset).send = true →
        (((s.m.canPort p).objs.getD n CanObj.reset).addrEmbed = false ∨ s.m.fab.addr ≠ none) →
        (∀ b, Ready (.canObjWrite h p n b d) s → ∃ t, exec (.canObjWrite h p n b d) s = .next t
        ∧ ((t.m.canPort p).objs.getD n CanObj.reset).data = some d
        ∧ ((t.m.canPort p).objs.getD n CanObj.reset).pend
            = (if b then some (s.m.objFrame ((s.m.canPort p).objs.getD n CanObj.reset) d)
               else ((s.m.canPort p).objs.getD n CanObj.reset).pend)
        ∧ ((t.m.canPort p).objs.getD n CanObj.reset).due
            = (if ((s.m.canPort p).objs.getD n CanObj.reset).period = 0 then none
               else some (((s.m.canPort p).objs.getD n CanObj.reset).due.getD
                (s.m.raw + ((s.m.canPort p).objs.getD n CanObj.reset).period * 200000)))
        ∧ Answered s t h 0 0 ∧ Frame [.can, .host] s t))
      ∧ (∀ h n b d, Ready (.canObjWrite h p n b d) s →
        (128 ≤ n → ∃ t, exec (.canObjWrite h p n b d) s = .next t ∧ After s t s.m ∧ Answered s t h 0x1003 0)
        ∧ (n < 128 → (s.m.canPort p).en = false → ∃ t, exec (.canObjWrite h p n b d) s = .next t
          ∧ After s t s.m ∧ Answered s t h 0x2701 0)
        ∧ (n < 128 → (s.m.canPort p).en = true → (((s.m.canPort p).objs.getD n CanObj.reset).valid = false
            ∨ ((s.m.canPort p).objs.getD n CanObj.reset).send = false) →
          ∃ t, exec (.canObjWrite h p n b d) s = .next t ∧ After s t s.m ∧ Answered s t h 0x1702 0)))
    ∧ (s.m.md.reads = true →
      (∀ h q n len, 2 ≤ q → Ready (.canObjRead h q n len) s → ∃ t, exec (.canObjRead h q n len) s = .next t
        ∧ After s t s.m ∧ Answered s t h 0x1004 0)
      ∧ (∀ h n len, Ready (.canObjRead h p n len) s →
        (128 ≤ n → ∃ t, exec (.canObjRead h p n len) s = .next t ∧ After s t s.m ∧ Answered s t h 0x1003 0)
        ∧ (n < 128 → len < 80 → ∃ t, exec (.canObjRead h p n len) s = .next t ∧ After s t s.m
          ∧ Answered s t h 0x1006 0)
        ∧ (n < 128 → 80 ≤ len → (((s.m.canPort p).objs.getD n CanObj.reset).valid = false
            ∨ ((s.m.canPort p).objs.getD n CanObj.reset).send = true) →
          ∃ t, exec (.canObjRead h p n len) s = .next t ∧ After s t s.m ∧ Answered s t h 0x1702 0))
      ∧ (∀ h n len, n < 128 → n < (s.m.canPort p).objs.length → ((s.m.canPort p).objs.getD n CanObj.reset).valid = true →
        ((s.m.canPort p).objs.getD n CanObj.reset).send = false → 80 ≤ len → Ready (.canObjRead h p n len) s →
          ∃ t, exec (.canObjRead h p n len) s = .next t
        ∧ ((t.m.canPort p).objs.getD n CanObj.reset).rx = ((s.m.canPort p).objs.getD n CanObj.reset).rx
        ∧ ((t.m.canPort p).objs.getD n CanObj.reset).new = false
          ∧ ((t.m.canPort p).objs.getD n CanObj.reset).overrun = false
        ∧ Answered s t h 0 0 ∧ Frame [.can, .host] s t))
    ∧ (∀ tdc src f, (s.m.canPort p).en = true → (s.m.canPort p).errState < 2 → (s.m.canPort p).attempt = none →
      s.m.canSilent p = false → (s.m.canPort p).offer = some (src, f) → ∃ t, exec (.canArbitration p tdc) s = .next t
      ∧ (t.m.canPort p).attempt = some (src, s.m.now / 25 * 25, none)
      ∧ (src < 3 → src < (s.m.canPort p).txb.length →
          (t.m.canPort p).src src = some { f with attempts := min (f.attempts + 1) 65535 })
      ∧ Frame [.can] s t)
    ∧ ((s.m.canSilent p = true ∨ (s.m.canPort p).en = false ∨ 2 ≤ (s.m.canPort p).errState
        ∨ (s.m.canPort p).attempt.isSome = true ∨ (s.m.canPort p).offer = none) →
      ∀ tdc, exec (.canArbitration p tdc) s = .next s)
    ∧ ((s.m.canPort p).attempt = none → ∀ r, exec (.canTxAttemptEnd p r) s = .next s)
    ∧ (∀ src u f late, (s.m.canPort p).attempt = some (src, u, late) →
      ((src < 3 ∧ src < (s.m.canPort p).txb.length)
        ∨ (0x80 ≤ src ∧ src < 0x100 ∧ src - 0x80 < (s.m.canPort p).objs.length) ∨ src = 0x100) →
      (s.m.canPort p).src src = some f →
      (∃ t, exec (.canTxAttemptEnd p .success) s = .next t
        ∧ (t.m.canPort p).src src = none ∧ (t.m.canPort p).attempt = none
        ∧ (t.m.canPort p).txOk = min ((s.m.canPort p).txOk + 1) 0xFFFFFFFF
          ∧ (t.m.canPort p).tec = (s.m.canPort p).tec - 1
        ∧ Raised s t 0x6001 p [(src : Int), (f.ident : Int), (f.attempts : Int), b2n late.isSome]
        ∧ (∀ h, late = some h → Answered s t h 0x0030 0)
        ∧ Frame [.can, .po, .recd, .host] s t)
      ∧ ((s.m.canPort p).disabling = true → ∀ r, ∃ t, exec (.canTxAttemptEnd p r) s = .next t
        ∧ (t.m.canPort p).en = false ∧ (t.m.canPort p).errState = 3 ∧ (t.m.canPort p).attempt = none
        ∧ Frame [.can, .po, .recd, .host] s t)
      ∧ (∀ h, late = some h → (s.m.canPort p).disabling = false → ∃ t, exec (.canTxAttemptEnd p .lost) s = .next t
        ∧ (t.m.canPort p).src src = none ∧ (t.m.canPort p).attempt = none
        ∧ Raised s t 0x6002 p [(src : Int), (f.ident : Int)] ∧ Answered s t h 0 0
        ∧ Frame [.can, .po, .recd, .host] s t)
      ∧ (late = none → (s.m.canPort p).disabling = false →
        (∃ t, exec (.canTxAttemptEnd p .lost) s = .next t
          ∧ (t.m.canPort p).src src = some { f with coll := 0 } ∧ (t.m.canPort p).attempt = none
          ∧ (t.m.canPort p).txOk = (s.m.canPort p).txOk ∧ Frame [.can, .po, .recd, .host] s t)
        ∧ (∀ lec tec, (if lec = 3 ∧ (s.m.canPort p).errState = 1 then (s.m.canPort p).tec else (s.m.canPort p).tec + 8) = tec →
          ∃ t, exec (.canTxAttemptEnd p (.error lec)) s = .next t
          ∧ (t.m.canPort p).tec = tec ∧ (t.m.canPort p).attempt = none
          ∧ (t.m.canPort p).src src = some { f with coll := 0 }
          ∧ ((s.m.canPort p).errState < 2 → 256 ≤ tec → (t.m.canPort p).errState = 2)
          ∧ Frame [.can, .po, .recd, .host] s t)
        ∧ (f.coll + 1 < 16 → ∃ t, exec (.canTxAttemptEnd p .dataBit) s = .next t
          ∧ (t.m.canPort p).tec = (s.m.canPort p).tec + 8 ∧ (t.m.canPort p).lec = 4 ∧ (t.m.canPort p).attempt = none
          ∧ (t.m.canPort p).src src = some { f with coll := f.coll + 1 }
          ∧ Frame [.can, .po, .recd, .host] s t)
        ∧ (16 ≤ f.coll + 1 → ∃ t, exec (.canTxAttemptEnd p .dataBit) s = .next t
          ∧ (t.m.canPort p).collisions = min ((s.m.canPort p).collisions + 1) 0xFFFF
          ∧ Raised s t 0x6008 p [(src : Int), (f.ident : Int)]
          ∧ ((s.m.canPort p).collStop = true → (t.m.canPort p).src src = none ∧ Raised s t 0x6003 p [(src : Int), 1])
          ∧ ((s.m.canPort p).collStop = false → (t.m.canPort p).src src = some { f with coll := 0 })
          ∧ Frame [.can, .po, .recd, .host] s t)))
    ∧ (∀ f : CanFrame, ((s.m.canPort p).en = false ∨ 2 ≤ (s.m.canPort p).errState
        ∨ (f.fdf = true ∧ (s.m.canPort p).fdEn = false)) → exec (.canRxFrame p f) s = .next s)
    ∧ (∀ f : CanFrame, (s.m.canPort p).en = true → (s.m.canPort p).errState < 2 →
        (f.fdf = false ∨ (s.m.canPort p).fdEn = true) →
      ∃ t, exec (.canRxFrame p f) s = .next t ∧ (t.m.canPort p).rxOk = min ((s.m.canPort p).rxOk + 1) 0xFFFFFFFF
      ∧ ((s.m.canPort p).recErr < 128 → (t.m.canPort p).recErr = (s.m.canPort p).recErr - 1
        ∧ t.m.freeCtr = s.m.freeCtr)
      ∧ (128 ≤ (s.m.canPort p).recErr → 119 ≤ (t.m.canPort p).recErr ∧ (t.m.canPort p).recErr ≤ 127
        ∧ t.m.freeCtr = s.m.freeCtr + 1)
      ∧ (∀ n, n < 128 → n < (s.m.canPort p).objs.length →
        (∀ k, k < n → ((s.m.canPort p).objs.getD k CanObj.reset).valid = false
          ∨ ((s.m.canPort p).objs.getD k CanObj.reset).send = true
          ∨ ((s.m.canPort p).objs.getD k CanObj.reset).ide ≠ f.ide
          ∨ f.ident &&& ((s.m.canPort p).objs.getD k CanObj.reset).mask
              ≠ ((s.m.canPort p).objs.getD k CanObj.reset).ident &&& ((s.m.canPort p).objs.getD k CanObj.reset).mask) →
        ((s.m.canPort p).objs.getD n CanObj.reset).valid = true →
          ((s.m.canPort p).objs.getD n CanObj.reset).send = false →
        ((s.m.canPort p).objs.getD n CanObj.reset).ide = f.ide →
        f.ident &&& ((s.m.canPort p).objs.getD n CanObj.reset).mask
          = ((s.m.canPort p).objs.getD n CanObj.reset).ident &&& ((s.m.canPort p).objs.getD n CanObj.reset).mask →
        (f.fdf = true → ((s.m.canPort p).objs.getD n CanObj.reset).fdf = true) →
        ((t.m.canPort p).objs.getD n CanObj.reset).rx = some (f, s.m.now)
        ∧ ((t.m.canPort p).objs.getD n CanObj.reset).new = true
        ∧ (((s.m.canPort p).objs.getD n CanObj.reset).new = true →
          ((t.m.canPort p).objs.getD n CanObj.reset).overrun = true ∧ Raised s t 0x6005 p [(n : Int)])
        ∧ Raised s t 0x6004 p [(n : Int), (f.dlc : Int), (f.ident : Int)])
      ∧ ((∀ k, k < 128 → ((s.m.canPort p).objs.getD k CanObj.reset).valid = false
          ∨ ((s.m.canPort p).objs.getD k CanObj.reset).send = true) →
        (t.m.canPort p).rxDropped = min ((s.m.canPort p).rxDropped + 1) 0xFFFFFFFF)
      ∧ Frame [.can, .freeCtr, .po, .recd, .host] s t)
    ∧ (∀ l, (s.m.canPort p).en = true → (s.m.canPort p).errState < 2 →
        ∃ t, exec (.canReceiveError p (.plus8 l)) s = .next t
      ∧ (t.m.canPort p).recErr = min ((s.m.canPort p).recErr + 8) 255 ∧ (t.m.canPort p).lec = l % 8
      ∧ Frame [.can, .po, .recd, .host] s t)
    ∧ (∀ l, (s.m.canPort p).en = true → (s.m.canPort p).errState < 2 →
        ∃ t, exec (.canReceiveError p (.plus1 l)) s = .next t
      ∧ (t.m.canPort p).recErr = min ((s.m.canPort p).recErr + 1) 255 ∧ (t.m.canPort p).lec = l % 8
      ∧ Frame [.can, .po, .recd, .host] s t)
    ∧ ((s.m.canPort p).errState = 2 → (s.m.canPort p).recovering = true →
        ∃ t, exec (.canBusOffRecovered p) s = .next t
      ∧ (t.m.canPort p).errState = 0 ∧ (t.m.canPort p).tec = 0 ∧ (t.m.canPort p).recErr = 0
      ∧ Raised s t 0x6006 p [0, 0, 0]
      ∧ Raised s t 0x6007 p [(((s.m.raw - (s.m.canPort p).busOffAt) / 200000 : Nat) : Int)]
      ∧ Frame [.can, .po, .recd, .host] s t)
    ∧ ((s.m.canPort p).en = true → ∃ t, exec (.canTxdTimeout p) s = .next t
      ∧ (t.m.canPort p).en = false ∧ (t.m.canPort p).errState = 3 ∧ Raised s t 0x600B p []
      ∧ Frame [.can, .po, .recd, .host] s t)
    ∧ (∀ n u d, n < (s.m.canPort p).objs.length → ((s.m.canPort p).objs.getD n CanObj.reset).due = some u →
      ((s.m.canPort p).objs.getD n CanObj.reset).data = some d → (s.m.canPort p).en = true → s.m.md ≠ .shadow →
      (((s.m.canPort p).objs.getD n CanObj.reset).pend = none → ∃ t, exec (.canPeriodicSend p n) s = .next t
        ∧ ((t.m.canPort p).objs.getD n CanObj.reset).pend = some (s.m.objFrame ((s.m.canPort p).objs.getD n CanObj.reset) d)
        ∧ ((t.m.canPort p).objs.getD n CanObj.reset).due
            = some (t.m.nextOn u (((s.m.canPort p).objs.getD n CanObj.reset).period * 200000))
        ∧ t.m.raw = max s.m.raw u ∧ Frame [.raw, .can] s t)
      ∧ (((s.m.canPort p).objs.getD n CanObj.reset).pend ≠ none → ∃ t, exec (.canPeriodicSend p n) s = .next t
        ∧ ((t.m.canPort p).objs.getD n CanObj.reset).pend = ((s.m.canPort p).objs.getD n CanObj.reset).pend
        ∧ Raised s t 0x600A p [(n : Int)] ∧ Frame [.raw, .can, .po, .recd, .host] s t))
    ∧ (∀ n, (((s.m.canPort p).objs.getD n CanObj.reset).due = none ∨ ((s.m.canPort p).objs.getD n CanObj.reset).data = none
        ∨ (s.m.canPort p).en = false ∨ s.m.md = .shadow) → exec (.canPeriodicSend p n) s = .next s)
    ∧ ((s.m.fab.addr = none ∨ (s.m.canPort p).en = false ∨ s.m.p P.canStatusPeriod p = 0 ∨ s.m.md = .dormant
        ∨ s.m.md = .safeHold) → exec (.canStatusFrame p) s = .next s)
    ∧ (∀ a, s.m.fab.addr = some a → (s.m.canPort p).en = true → s.m.p P.canStatusPeriod p ≠ 0 →
        0 ≤ s.m.p P.canStatusPeriod p →
      s.m.md ≠ .dormant → s.m.md ≠ .safeHold → ∃ t f, exec (.canStatusFrame p) s = .next t
      ∧ (t.m.canPort p).status = some f ∧ f.ide = true ∧ f.dlc = 8 ∧ f.data = s.m.canStatusData
      ∧ f.ident = s.m.pn P.canStatusBaseId p / 512 * 512 + a
      ∧ t.m.raw = max s.m.raw (s.m.canPort p).statusAt
      ∧ (t.m.canPort p).statusAt = t.m.nextOn (s.m.canPort p).statusAt (s.m.pn P.canStatusPeriod p * 200000)
      ∧ Frame [.raw, .can] s t)

/-! ### 12 Fabric and time -/

/-- Links, hellos and topology records start or restart a discovery, a completed one fixes the map, the routes and the
answers (R424, R425, R429, R430); a frame is forwarded, buffered or counted as an error (R422, R423). A ring command
is taken here as Ready: its descriptor is fetched and next on its ring. Model's choices in it: assumptions 8, 101,
144. -/
def Obligations.Fabric : Prop :=
  ∀ s : State, s.m.alive = true →
    (∀ port, port = 1 ∨ port = 2 → s.m.fab.ports.length = 2 →
      ((s.m.fport port).up = false → ∃ t, exec (.fabricLinkUp port) s = .next t ∧ (t.m.fport port).up = true
        ∧ t.m.fab.disc = 1 ∧ t.m.fab.changedAt = s.m.raw ∧ Raised s t 0x7001 port [(port : Int), 1]
        ∧ Frame [.fab, .live, .due, .po, .recd, .host] s t)
      ∧ ((s.m.fport port).up = true → exec (.fabricLinkUp port) s = .next s)
      ∧ ((s.m.fport port).up = false → exec (.fabricLinkLoss port) s = .next s)
      ∧ ((s.m.fport port).up = true → ∃ t, exec (.fabricLinkLoss port) s = .next t ∧ (t.m.fport port).up = false
        ∧ (t.m.fport port).neighSerial = none ∧ t.m.fab.disc = 1 ∧ Raised s t 0x7001 port [(port : Int), 0]
        ∧ (∃ x ∈ t.m.fab.sent.drop s.m.fab.sent.length, x.kind = 2)
        ∧ (s.m.fab.topology = 2 → t.m.fab.topology = 1 ∧ Raised s t 0x7006 port [(port : Int), 0])
        ∧ Frame [.fab, .time, .live, .due, .po, .recd, .host] s t)
      ∧ (s.m.runs 4 = false → ∀ x : Hello, exec (.fabricHelloRx port x) s = .next s)
      ∧ (∀ x : Hello, (s.m.fport port).up = true → s.m.runs 4 = true → ∃ t, exec (.fabricHelloRx port x) s = .next t
        ∧ (t.m.fport port).ver = negotiate (ownVer port) ⟨x.major, x.minor, x.prevMinor⟩
        ∧ (t.m.fport port).neighSerial = (if ((t.m.fport port).ver).isSome then some x.serial else none)
        ∧ (t.m.fport port).neighAddr = (if ((t.m.fport port).ver).isSome then x.addr else none)
        ∧ (t.m.fport port).lastHello = s.m.raw
        ∧ ((t.m.fport port).ver = none → (s.m.fport port).badVer ≠ some (x.major * 256 + x.minor) →
            Raised s t 0x700A port [(port : Int), ((x.major * 256 + x.minor : Nat) : Int)])
        ∧ ((t.m.fport port).neighSerial ≠ (s.m.fport port).neighSerial → t.m.fab.disc = 1)
        ∧ Frame [.fab, .time, .live, .due, .po, .recd, .host] s t)
      ∧ (∀ pcp len f, (s.m.fport port).up = true → (7 < pcp ∨ 1500 < len ∨ 255 < f.hops) →
        ∃ t, exec (.fabricFrameArrival port pcp len f) s = .next t
        ∧ t.m.fport port = { s.m.fport port with rxErrors := sat32 ((s.m.fport port).rxErrors + 1) }
          ∧ Frame [.fab] s t)
      ∧ (∀ pcp len f, (s.m.fport port).up = true → pcp ≤ 7 → len ≤ 1500 → f.hops ≤ 255 → s.m.fab.addr = some f.dest →
        bufFits ((s.m.fport port).buf ++ [(pcp, len)]) = true →
          ∃ t, exec (.fabricFrameArrival port pcp len f) s = .next t
        ∧ (t.m.fport port).buf = (s.m.fport port).buf ++ [(pcp, len)] ∧ t.m.fab.sent = s.m.fab.sent
          ∧ Frame [.fab] s t)
      ∧ (∀ pcp len f, (s.m.fport 1).up = true → (s.m.fport 2).up = true → (s.m.fport 1).ver.isSome = true →
        (s.m.fport 2).ver.isSome = true → pcp ≤ 7 → len ≤ 1500 → 0 < f.hops → f.hops ≤ 255 → f.type ≠ 1 →
        s.m.fab.addr ≠ some f.dest → (s.m.fab.addr ≠ some f.origin ∨ f.noAddr = true) →
        ∃ t, exec (.fabricFrameArrival port pcp len f) s = .next t
        ∧ t.m.fab.sent = s.m.fab.sent
          ++ [⟨3 - port, f.type, f.dest, [(f.origin : Int), ((f.hops - 1 : Nat) : Int), (f.seq : Int)], []⟩]
        ∧ (f.dest ≠ 0xFFFF → (t.m.fport port).buf = (s.m.fport port).buf ∧ Frame [.fab] s t)
        ∧ (f.dest = 0xFFFF → bufFits ((s.m.fport port).buf ++ [(pcp, len)]) = true →
            (t.m.fport port).buf = (s.m.fport port).buf ++ [(pcp, len)])
        ∧ Frame [.fab, .po, .recd, .host] s t)
      ∧ (∀ pcp len f, (s.m.fport port).up = false → exec (.fabricFrameArrival port pcp len f) s = .next s))
    ∧ (∀ port, port ≠ 1 → port ≠ 2 → exec (.fabricLinkUp port) s = .next s)
    ∧ (∃ t, exec .fabricHelloSend s = .next t ∧ t.m.raw = nextMul s.m.raw 200000
      ∧ (∀ k, k = 1 ∨ k = 2 → (s.m.fport k).up = true → ∃ x ∈ t.m.fab.sent.drop s.m.fab.sent.length, x.link = k
        ∧ x.kind = 1)
      ∧ Frame [.raw, .fab] s t)
    ∧ (s.m.runs 4 = false → ∀ r, exec (.topologyRecordRx r) s = .next s)
    ∧ (∀ r : TopoRec, s.m.runs 4 = true → (r.serial = s.m.id.serial ∨ s.m.fab.recs.contains r = true) →
        exec (.topologyRecordRx r) s = .next { s with m := s.m.unbuf 3 })
    ∧ (∀ r : TopoRec, s.m.runs 4 = true → r.serial ≠ s.m.id.serial → s.m.fab.recs.contains r = false →
        ∃ t, exec (.topologyRecordRx r) s = .next t
      ∧ t.m.fab.recs = s.m.fab.recs.filter (fun x => x.serial != r.serial) ++ [r] ∧ t.m.fab.disc = 1
      ∧ t.m.fab.changedAt = s.m.raw
      ∧ (s.m.fab.topology = 2 → t.m.fab.topology = 1 → Raised s t 0x7006 (if r.n1.isNone then 1 else 2)
          [((if r.n1.isNone then 1 else 2 : Nat) : Int), 0])
      ∧ Frame [.fab, .live, .due, .po, .recd, .host] s t)
    ∧ (s.m.fab.disc = 1 → ∃ t, exec .discoveryComplete s = .next t ∧ t.m.fab.disc = 2
      ∧ t.m.raw = max s.m.raw (s.m.fab.changedAt + 40000000)
      ∧ t.m.fab.count = s.m.map.length ∧ t.m.fab.routes = s.m.routesNow
      ∧ t.m.fab.topology = (if (s.m.chains s.m.ownRec).2.1 then 2 else 1)
      ∧ (∃ a, Raised s t 0x7002 0 [(t.m.fab.topology : Int), (t.m.fab.count : Int), a])
      ∧ (∀ o ∈ t.m.host.ops, o.kind ≠ .discover)
      ∧ (∀ o ∈ s.m.host.ops, o.kind = .discover → ∀ h, o.hdr = some h → Answered s t h 0 s.m.map.length)
      ∧ Frame [.raw, .fab, .po, .recd, .host] s t)
    ∧ (s.m.fab.disc ≠ 1 → exec .discoveryComplete s = .next s)
    ∧ (∀ a b, s.m.fab.ports.length = 2 → ∃ t, exec (.fabricLoadMeasure a b) s = .next t
      ∧ (t.m.fport 1).load = a ∧ (t.m.fport 2).load = b ∧ t.m.raw = nextMul s.m.raw 200000000
      ∧ (10 * s.m.pn P.fabricLoadWarn 0 < a → Raised s t 0x7008 1 [1, (a : Int)])
      ∧ (10 * s.m.pn P.fabricLoadWarn 0 < b → Raised s t 0x7008 2 [2, (b : Int)])
        ∧ Frame [.raw, .fab, .po, .recd, .host] s t)
    ∧ (∃ t, exec .fabricCounterClear s = .next t ∧ t.m.fab.bcReject = 0 ∧ t.m.fab.drops = List.replicate 8 0
      ∧ (∀ q ∈ t.m.fab.ports, q.rxFrames = 0 ∧ q.txFrames = 0 ∧ q.rxErrors = 0 ∧ q.downCount = 0) ∧ Frame [.fab] s t)
    ∧ (∀ h, s.m.md.comm = true →
      (s.m.fab.disc = 1 → Ready (.fabricDiscover h) s → ∃ t, exec (.fabricDiscover h) s = .next t ∧ After s t s.m
        ∧ Answered s t h 0x2805 0)
      ∧ (s.m.fab.disc ≠ 1 → s.m.host.ops.length < 8 → Ready (.fabricDiscover h) s →
          ∃ t, exec (.fabricDiscover h) s = .next t
        ∧ t.m.host.ops = (s.m.addOp (some h) .discover 0).host.ops ∧ t.m.fab.disc = 1
        ∧ Frame [.fab, .live, .due, .host] s t)
      ∧ (s.m.fab.disc ≠ 1 → 8 ≤ s.m.host.ops.length → Ready (.fabricDiscover h) s →
          ∃ t, exec (.fabricDiscover h) s = .next t ∧ After s t s.m ∧ Answered s t h 0x2002 0))
    ∧ (∀ h len, s.m.md.reads = true →
      (len < 4096 → Ready (.topologyRead h len) s → ∃ t, exec (.topologyRead h len) s = .next t ∧ After s t s.m
        ∧ Answered s t h 0x1006 0)
      ∧ (4096 ≤ len → Ready (.topologyRead h len) s → ∃ t, exec (.topologyRead h len) s = .next t ∧ After s t s.m
        ∧ Answered s t h 0 0))

/-- Points: a publication goes out at its instant and is taken once, a SAFE one only when it passes the black channel
(R431, R435, R439); POINT_WRITE and POINT_READ (R433, R454); fabric commands (R442). A ring command is taken here as
Ready: its descriptor is fetched and next on its ring. Model's choices in it: assumptions 34, 102, 131, 144, 147. -/
def Obligations.Points : Prop :=
  ∀ s : State, s.m.alive = true →
    (∀ cls, cls = 1 ∨ cls = 2 ∨ cls = 3 → cls ≤ s.m.fab.pubNext.length →
      (s.m.fab.addr = none → exec (.publicationSend cls) s = .next s)
      ∧ (s.m.fab.addr.isSome = true → ∃ t, exec (.publicationSend cls) s = .next t
        ∧ s.m.fab.pubNext.getD (cls - 1) 0 < t.m.fab.pubNext.getD (cls - 1) 0
        ∧ (s.m.pubPoints cls false ≠ [] → ∃ x ∈ t.m.fab.sent.drop s.m.fab.sent.length, x.kind = 0x0F + cls
          ∧ x.dest = 0xFFFF)
        ∧ (s.m.pubPoints cls true ≠ [] → ∃ x ∈ t.m.fab.sent.drop s.m.fab.sent.length, x.kind = 0x0F + cls
          ∧ x.dest = 0xFFFF ∧ x.trailer.length = 6)
        ∧ Frame [.raw, .fab] s t))
    ∧ (∀ cls, cls = 0 ∨ 3 < cls → exec (.publicationSend cls) s = .next s)
    ∧ (∀ f : Frame, s.m.runs (if isSafe f then 2 else 4) = false ∨ f.type < 0x10 ∨ 0x12 < f.type →
      exec (.publicationRx f) s = .next s)
    ∧ (∀ (f : Frame) (cls : Nat), f.type = 0x0F + cls → 1 ≤ cls → cls ≤ 3 → f.noAddr = false →
        s.m.fab.addr ≠ some f.origin →
      s.m.fab.seen.contains (f.origin, f.type, f.seq) = false →
      (isSafe f = false → s.m.runs 4 = true → ∃ t, exec (.publicationRx f) s = .next t
        ∧ (∀ y ∈ pubBody 300 f.payload, ⟨f.origin, y.1, y.2, s.m.now, s.m.lastBefore f.origin y.1, cls, true⟩ ∈ t.m.fab.image)
        ∧ (∀ x ∈ s.m.fab.image, x.mod ≠ f.origin → x ∈ t.m.fab.image)
        ∧ t.m.fab.seen.contains (f.origin, f.type, f.seq) = true ∧ Frame [.fab] s t)
      ∧ (isSafe f = true → s.m.runs 2 = true →
        s.m.bcFault f (classPeriod cls + s.m.p P.safeAgeMargin 0 * 1000000) = none → ∃ t, exec (.publicationRx f) s = .next t
        ∧ (∀ y ∈ pubBody 300 f.payload, ⟨f.origin, y.1, y.2, s.m.now, s.m.lastBefore f.origin y.1, cls, true⟩ ∈ t.m.fab.image)
        ∧ (f.origin, f.type, f.epoch, f.safeSeq) ∈ t.m.fab.safeAcc ∧ Frame [.fab] s t)
      ∧ (∀ k, isSafe f = true → s.m.runs 2 = true → s.m.bcFault f (classPeriod cls + s.m.p P.safeAgeMargin 0 * 1000000) = some k →
        ∃ t, exec (.publicationRx f) s = .next t ∧ t.m.fab.bcReject = sat32 (s.m.fab.bcReject + 1)
        ∧ (∀ x ∈ t.m.fab.image, x ∈ s.m.fab.image ∨ x.ok = false) ∧ Frame [.fab, .po, .recd, .host] s t))
    ∧ (∀ (f : Frame), 0x10 ≤ f.type → f.type ≤ 0x12 → s.m.runs (if isSafe f then 2 else 4) = true →
      (s.m.fab.seen.contains (f.origin, f.type, f.seq) = true ∨ f.noAddr = true ∨ s.m.fab.addr = some f.origin) →
      ∃ t, exec (.publicationRx f) s = .next t ∧ t.m.fab.image = s.m.fab.image ∧ Frame [.fab] s t)
    ∧ (∀ (h : Hdr) (pt : Nat), s.m.md.comm = true → s.m.locked (.point pt) = false →
      (∀ v, isHostPoint pt = true → Ready (.pointWrite h pt v) s → ∃ t, exec (.pointWrite h pt v) s = .next t
        ∧ After s t (s.m.onFab (fun x => { x with hostNext := x.hostNext ++ [(pt, v)] })) ∧ Answered s t h 0 0)
      ∧ (∀ v, isHostPoint pt = false → Ready (.pointWrite h pt v) s → ∃ t, exec (.pointWrite h pt v) s = .next t
        ∧ After s t s.m ∧ Answered s t h 0x1802 0))
    ∧ (∀ (h : Hdr) (pt sel : Nat), s.m.md.reads = true →
      ((512 ≤ pt ∨ (bit sel 31 = true ∧ 0x100 + 32 * s.m.portals.length ≤ pt ∧ pt < 0x180)) →
        Ready (.pointRead h pt sel) s → ∃ t, exec (.pointRead h pt sel) s = .next t ∧ After s t s.m
        ∧ Answered s t h 0x1004 0)
      ∧ (pt < 512 → bit sel 31 = true → (pt < 0x100 + 32 * s.m.portals.length ∨ 0x180 ≤ pt) → Ready (.pointRead h pt sel) s →
          ∃ t, exec (.pointRead h pt sel) s = .next t ∧ After s t s.m
        ∧ Answered s t h 0 (res2 (s.m.ownPoint pt) 0))
      ∧ (pt < 512 → bit sel 31 = false → Ready (.pointRead h pt sel) s →
          ∃ t, exec (.pointRead h pt sel) s = .next t ∧ After s t s.m
        ∧ Answered s t h 0 (res2 (s.m.point (sel % 512) pt).1 (b2n (s.m.point (sel % 512) pt).2))))
    ∧ (∀ h, s.m.md.comm = true →
      (∀ dest cmd, cmd = 0 ∨ 2 < cmd → Ready (.fabricCommand h dest cmd) s →
        ∃ t, exec (.fabricCommand h dest cmd) s = .next t ∧ After s t s.m ∧ Answered s t h 0x1003 0)
      ∧ (∀ dest cmd, cmd = 1 ∨ cmd = 2 → 512 ≤ dest → dest ≠ 0xFFFF → Ready (.fabricCommand h dest cmd) s →
        ∃ t, exec (.fabricCommand h dest cmd) s = .next t ∧ After s t s.m ∧ Answered s t h 0x1003 0)
      ∧ (∀ dest cmd, cmd = 1 ∨ cmd = 2 → (dest = 0xFFFF ∨ dest < 512) →
        (s.m.fab.addr = none ∨ (dest < 512 ∧ s.m.fab.addr ≠ some dest ∧ s.m.route dest = none)) →
        Ready (.fabricCommand h dest cmd) s → ∃ t, exec (.fabricCommand h dest cmd) s = .next t
        ∧ After s t s.m ∧ Answered s t h 0x2801 0)
      ∧ (∀ dest cmd, cmd = 1 ∨ cmd = 2 → s.m.fab.addr.isSome = true →
        (dest = 0xFFFF ∨ (dest < 512 ∧ (s.m.fab.addr = some dest ∨ (s.m.route dest).isSome = true))) →
        Ready (.fabricCommand h dest cmd) s → ∃ t, exec (.fabricCommand h dest cmd) s = .next t
        ∧ (∃ x ∈ t.m.fab.sent.drop s.m.fab.sent.length, x.kind = 3 ∧ x.dest = dest
          ∧ x.body.getLast? = some (cmd : Int) ∧ x.trailer.length = 6)
        ∧ Answered s t h 0 0 ∧ Frame [.fab, .host] s t))
    ∧ (s.m.runs 2 = false → ∀ f cmd, exec (.fabricCommandRx f cmd) s = .next s)
    ∧ (∀ f cmd, s.m.runs 2 = true → (f.type ≠ 3 ∨ isSafe f = false ∨ f.noAddr = true ∨ s.m.fab.addr = some f.origin
        ∨ s.m.fab.seen.contains (f.origin, f.type, f.seq) = true) → ∃ t, exec (.fabricCommandRx f cmd) s = .next t
      ∧ t.m.fab.dormantCmd = s.m.fab.dormantCmd ∧ Frame [.fab] s t)
    ∧ (∀ f : Frame, s.m.runs 2 = true → f.type = 3 → isSafe f = true → f.noAddr = false → s.m.fab.addr ≠ some f.origin →
      s.m.fab.seen.contains (f.origin, f.type, f.seq) = false →
      (s.m.bcFault f (s.m.p P.safeAgeMargin 0 * 1000000) = none →
        (∃ t, exec (.fabricCommandRx f 1) s = .next t ∧ t.m.fab.dormantCmd = true ∧ Frame [.fab] s t)
        ∧ (s.m.md = .dormant → s.m.mode.wake = none → ∃ t, exec (.fabricCommandRx f 2) s = .next t
          ∧ t.m.mode.wake = some .fabric ∧ Frame [.fab, .mode] s t))
      ∧ (∀ k cmd, s.m.bcFault f (s.m.p P.safeAgeMargin 0 * 1000000) = some k →
          ∃ t, exec (.fabricCommandRx f cmd) s = .next t
        ∧ t.m.fab.dormantCmd = s.m.fab.dormantCmd ∧ t.m.fab.bcReject = sat32 (s.m.fab.bcReject + 1)
        ∧ Frame [.fab, .po, .recd, .host] s t))

/-- A session: opened when the peer accepts, at most 8 messages unacknowledged, delivered in order, sent again after
its time and lost after its retries (R441, R454). A ring command is taken here as Ready: its descriptor is fetched and
next on its ring. Model's choices in it: assumptions 8, 105, 144. -/
def Obligations.Sessions : Prop :=
  ∀ (s : State) (h : Hdr) (k : Nat), s.m.alive = true → k < 64 → k < s.m.fab.sess.length →
    (s.m.md.comm = true →
      (∀ peer, s.m.fab.addr = none → Ready (.sessionOpen h peer) s → ∃ t, exec (.sessionOpen h peer) s = .next t
        ∧ After s t s.m ∧ Answered s t h 0x2801 0)
      ∧ (∀ peer, s.m.route peer = none → Ready (.sessionOpen h peer) s → ∃ t, exec (.sessionOpen h peer) s = .next t
        ∧ After s t s.m ∧ Answered s t h 0x2801 0)
      ∧ (∀ peer, s.m.fab.addr.isSome = true → (s.m.route peer).isSome = true →
        (upto 64).find? (fun j => !(s.m.session j).used) = none → Ready (.sessionOpen h peer) s →
          ∃ t, exec (.sessionOpen h peer) s = .next t ∧ After s t s.m ∧ Answered s t h 0x2802 0)
      ∧ (∀ j, 64 ≤ j →
        (∀ d, Ready (.sessionSend h j d) s → ∃ t, exec (.sessionSend h j d) s = .next t ∧ After s t s.m
          ∧ Answered s t h 0x1004 0)
        ∧ (Ready (.sessionClose h j) s → ∃ t, exec (.sessionClose h j) s = .next t ∧ After s t s.m
          ∧ Answered s t h 0x1004 0))
      ∧ (∀ peer, s.m.fab.addr.isSome = true → (s.m.route peer).isSome = true → s.m.fab.sess.length = 64 →
        (upto 64).find? (fun j => !(s.m.session j).used) = some k → Ready (.sessionOpen h peer) s →
          ∃ t, exec (.sessionOpen h peer) s = .next t
        ∧ (t.m.session k).used = true ∧ (t.m.session k).opening = some h ∧ (t.m.session k).peer = peer
        ∧ (t.m.session k).rto = s.m.pn P.sessionRto 0 ∧ (t.m.session k).retryMax = s.m.pn P.sessionRetries 0
        ∧ (∃ x ∈ t.m.fab.sent.drop s.m.fab.sent.length, x.kind = 0x20 ∧ x.dest = peer) ∧ Frame [.fab, .host] s t)
      ∧ (∀ d, s.m.sessUp k = false → Ready (.sessionSend h k d) s → ∃ t, exec (.sessionSend h k d) s = .next t
        ∧ After s t s.m ∧ Answered s t h 0x2803 0)
      ∧ (∀ d, s.m.sessUp k = true → (d = [] ∨ 4096 < d.length) → Ready (.sessionSend h k d) s →
        ∃ t, exec (.sessionSend h k d) s = .next t ∧ After s t s.m ∧ Answered s t h 0x1803 0)
      ∧ (∀ d, s.m.sessUp k = true → d ≠ [] → d.length ≤ 4096 →
        ((s.m.session k).tx.length < 8 → (s.m.session k).wait = [] → Ready (.sessionSend h k d) s →
          ∃ t, exec (.sessionSend h k d) s = .next t
          ∧ (t.m.session k).tx = (s.m.session k).tx ++ [⟨(s.m.session k).nextSeq, d, s.m.raw, 0, some h⟩]
          ∧ (t.m.session k).nextSeq = (s.m.session k).nextSeq + 1
          ∧ (∃ x ∈ t.m.fab.sent.drop s.m.fab.sent.length, x.kind = 0x20 ∧ x.dest = (s.m.session k).peer)
          ∧ Frame [.fab, .host] s t)
        ∧ ((8 ≤ (s.m.session k).tx.length ∨ (s.m.session k).wait ≠ []) → Ready (.sessionSend h k d) s → ∃ t, exec (.sessionSend h k d) s = .next t
          ∧ (t.m.session k).wait = (s.m.session k).wait ++ [(d, h)] ∧ (t.m.session k).tx = (s.m.session k).tx
            ∧ Frame [.fab, .host] s t))
      ∧ ((s.m.session k).used = false → Ready (.sessionClose h k) s → ∃ t, exec (.sessionClose h k) s = .next t
        ∧ After s t s.m ∧ Answered s t h 0x2803 0)
      ∧ ((s.m.session k).used = true → Ready (.sessionClose h k) s → ∃ t, exec (.sessionClose h k) s = .next t
        ∧ t.m.session k = Sess.reset
        ∧ Raised s t 0x700E k [1] ∧ Answered s t h 0 0 ∧ Frame [.fab, .po, .recd, .host] s t))
    ∧ (s.m.md.reads = true → ∀ len,
      (∀ j, 64 ≤ j → Ready (.sessionRecv h j len) s → ∃ t, exec (.sessionRecv h j len) s = .next t ∧ After s t s.m
        ∧ Answered s t h 0x1004 0)
      ∧ (s.m.sessUp k = false → Ready (.sessionRecv h k len) s → ∃ t, exec (.sessionRecv h k len) s = .next t ∧ After s t s.m
        ∧ Answered s t h 0x2803 0)
      ∧ (s.m.sessUp k = true → (s.m.session k).rx ≠ [] → len < 4096 → Ready (.sessionRecv h k len) s →
        ∃ t, exec (.sessionRecv h k len) s = .next t ∧ After s t s.m ∧ Answered s t h 0x1006 0))
    ∧ (s.m.md.reads = true → s.m.sessUp k = true → ∀ len, 4096 ≤ len →
      ((s.m.session k).rx = [] → Ready (.sessionRecv h k len) s → ∃ t, exec (.sessionRecv h k len) s = .next t
        ∧ After s t s.m ∧ Answered s t h 0x2804 0)
      ∧ (∀ b r, (s.m.session k).rx = b :: r → Ready (.sessionRecv h k len) s →
          ∃ t, exec (.sessionRecv h k len) s = .next t
        ∧ (t.m.session k).rx = r ∧ Gave s t h { status := 0, res := b.length, buf := b } ∧ Frame [.fab, .host] s t))
    ∧ (s.m.runs 4 = false → (∀ p c j q d, exec (.sessionDataRx p c j q d) s = .next s)
      ∧ (∀ j q, exec (.sessionAckRx j q) s = .next s) ∧ (∀ j, exec (.sessionRtoExpiry j) s = .next s))
    ∧ (s.m.runs 4 = true →
    (∀ d, (s.m.session k).used = true → (s.m.session k).rx.length < 16 →
      ∃ t, exec (.sessionDataRx (s.m.session k).peer 0 k (s.m.session k).rxSeq d) s = .next t
      ∧ (t.m.session k).rx = (s.m.session k).rx ++ [d] ∧ (t.m.session k).rxSeq = (s.m.session k).rxSeq + 1
      ∧ Raised s t 0x700D k [(d.length : Int)] ∧ Frame [.fab, .po, .recd, .host] s t)
    ∧ (∀ d, (s.m.session k).used = true → 16 ≤ (s.m.session k).rx.length →
      exec (.sessionDataRx (s.m.session k).peer 0 k (s.m.session k).rxSeq d) s = .next { s with m := s.m.unbuf 1 })
    ∧ (∀ q d, (s.m.session k).used = true → (s.m.session k).rxSeq < q →
      exec (.sessionDataRx (s.m.session k).peer 0 k q d) s = .next { s with m := s.m.unbuf 1 })
    ∧ (∀ q d, (s.m.session k).used = true → q < (s.m.session k).rxSeq →
      ∃ t, exec (.sessionDataRx (s.m.session k).peer 0 k q d) s = .next t
        ∧ t.m.session k = s.m.session k ∧ (∃ x ∈ t.m.fab.sent.drop s.m.fab.sent.length, x.kind = 0x21) ∧ Frame [.fab] s t)
    ∧ (∀ p j q d, (upto 64).find? (fun j => !(s.m.session j).used) = some k → ∃ t, exec (.sessionDataRx p 1 j q d) s = .next t
      ∧ (t.m.session k).used = true ∧ (t.m.session k).peer = p ∧ (t.m.session k).rxSeq = 1
      ∧ (∃ x ∈ t.m.fab.sent.drop s.m.fab.sent.length, x.kind = 0x21 ∧ x.dest = p)
      ∧ Raised s t 0x700C k [(p : Int)] ∧ Frame [.fab, .po, .recd, .host] s t)
    ∧ (∀ p j q d, (upto 64).find? (fun j => !(s.m.session j).used) = none → ∃ t, exec (.sessionDataRx p 1 j q d) s = .next t
      ∧ t.m.fab.sess = s.m.fab.sess ∧ (∃ x ∈ t.m.fab.sent.drop s.m.fab.sent.length, x.kind = 0x20 ∧ x.dest = p) ∧ Frame [.fab] s t)
    ∧ (∀ q d, (s.m.session k).used = true → ∃ t, exec (.sessionDataRx (s.m.session k).peer 2 k q d) s = .next t
      ∧ t.m.session k = Sess.reset ∧ Raised s t 0x700E k [1] ∧ Frame [.fab, .po, .recd, .host] s t)
    ∧ (∀ q d, (s.m.session k).used = true → (s.m.session k).opening = some h →
      ∃ t, exec (.sessionDataRx (s.m.session k).peer 3 k q d) s = .next t
      ∧ t.m.session k = Sess.reset ∧ Answered s t h 0x2802 0 ∧ Frame [.fab, .host] s t)
    ∧ (∀ p c q d, c ≠ 1 → ((s.m.session k).used = false ∨ (s.m.session k).peer ≠ p) →
      exec (.sessionDataRx p c k q d) s = .next { s with m := s.m.unbuf 1 })
    ∧ ((s.m.session k).used = true → (s.m.session k).opening = some h → ∀ q, ∃ t, exec (.sessionAckRx k q) s = .next t
      ∧ (t.m.session k).opening = none ∧ (t.m.session k).tx = [] ∧ (t.m.session k).rxSeq = 1 ∧ Answered s t h 0 k
      ∧ Frame [.fab, .host] s t)
    ∧ (∀ x q, (s.m.session k).used = true → (s.m.session k).opening = none →
      (s.m.session k).tx.find? (fun y => y.seq == q) = some x → x.hdr = some h → ∃ t, exec (.sessionAckRx k q) s = .next t
      ∧ Answered s t h 0 0
      ∧ ((s.m.session k).wait = [] → (t.m.session k).tx = (s.m.session k).tx.filter (fun y => y.seq != q))
      ∧ (∀ d g, (s.m.session k).wait = [(d, g)] → ((s.m.session k).tx.filter (fun y => y.seq != q)).length < 8 →
          (t.m.session k).wait = [] ∧ (t.m.session k).tx = (s.m.session k).tx.filter (fun y => y.seq != q)
            ++ [⟨(s.m.session k).nextSeq, d, s.m.raw, 0, some g⟩])
      ∧ Frame [.fab, .host] s t)
    ∧ (∀ q, ((s.m.session k).used = false ∨ ((s.m.session k).opening = none
        ∧ (s.m.session k).tx.find? (fun y => y.seq == q) = none)) →
      exec (.sessionAckRx k q) s = .next { s with m := s.m.unbuf 1 })
    ∧ ((s.m.session k).tx = [] → exec (.sessionRtoExpiry k) s = .next s)
    ∧ (∀ x r, (s.m.session k).tx = x :: r →
      (x.retries < (s.m.session k).retryMax → ∃ t, exec (.sessionRtoExpiry k) s = .next t
        ∧ t.m.raw = max s.m.raw (x.sentAt + (s.m.session k).rto * 200000)
        ∧ (t.m.session k).tx = { x with sentAt := t.m.raw, retries := x.retries + 1 } :: r
        ∧ (∃ y ∈ t.m.fab.sent.drop s.m.fab.sent.length, y.kind = 0x20 ∧ y.dest = (s.m.session k).peer) ∧ Frame [.raw, .fab] s t)
      ∧ ((s.m.session k).retryMax ≤ x.retries → (s.m.session k).used = true →
          ∃ t, exec (.sessionRtoExpiry k) s = .next t
        ∧ t.m.session k = Sess.reset ∧ Raised s t 0x700E k [2] ∧ Frame [.raw, .fab, .po, .recd, .host] s t)))

/-- Fabric time: a large measurement steps the offset and is reported, a small one steers the rate and leaves the
present time as it is; eight good ones lock (R444 to R447); the grandmaster's loss, choice and trust (R447); the
messages (R448). Model's choices in it: assumptions 8, 104. -/
def Obligations.FabricTime : Prop :=
  ∀ s : State, s.m.alive = true →
    (∀ o : Int, s.m.time.profile = 0 ∨ s.m.time.self = true → exec (.ptpSyncRx o) s = .next s)
    ∧ (∀ o : Int, s.m.time.profile ≠ 0 → s.m.time.self = false →
      (s.m.p P.stepThreshold 0 * 1000 < o.natAbs → ∃ t, exec (.ptpSyncRx o) s = .next t
        ∧ t.m.time.offset = s.m.time.offset - o ∧ t.m.now = s.m.now - o ∧ t.m.time.jumps = s.m.time.jumps + 1
        ∧ t.m.time.rate = s.m.time.rate ∧ Raised s t 0x700F 0 [o, s.m.now, s.m.now - o]
        ∧ Frame [.time, .io, .po, .recd, .host] s t)
      ∧ ((o.natAbs : Int) ≤ s.m.p P.stepThreshold 0 * 1000 → ∃ t, exec (.ptpSyncRx o) s = .next t
        ∧ t.m.now = s.m.now ∧ t.m.time.jumps = s.m.time.jumps
        ∧ t.m.time.integral = s.m.rateClamp (s.m.time.integral - s.m.servoTerm (s.m.p P.servoKi 0) o)
        ∧ t.m.time.rate = s.m.rateClamp (t.m.time.integral - s.m.servoTerm (s.m.p P.servoKp 0) o)
        ∧ (s.m.time.sync = .acquiring → 7 ≤ s.m.time.good → o.natAbs < 200 → t.m.time.sync = .locked
          ∧ t.m.time.trusted = true)
        ∧ (s.m.time.sync = .locked → 2 ≤ s.m.time.bad → 1000 < o.natAbs → t.m.time.sync = .acquiring)
        ∧ Frame [.time, .io, .po, .recd, .host] s t))
    ∧ (∀ g, s.m.time.gm = some g → s.m.time.self = false → ∃ t, exec .gmLossTimeout s = .next t ∧ t.m.time.gm = none
      ∧ t.m.raw = max s.m.raw (s.m.time.lastMsg + 600000000 / 2 ^ s.m.syncLog)
      ∧ (s.m.time.sync = .locked → t.m.time.sync = .holdover) ∧ (s.m.time.sync = .acquiring →
          t.m.time.sync = .freeRunning)
      ∧ Raised s t 0x7011 0 [0] ∧ Frame [.raw, .time, .po, .recd, .host] s t)
    ∧ (∀ id there self, s.m.time.profile = 0 → exec (.gmSelected id there self) s = .next s)
    ∧ (∀ id there self gm, s.m.time.profile ≠ 0 → gm = (if there then some id else none) →
      ∃ t, exec (.gmSelected id there self) s = .next t
      ∧ t.m.time.gm = gm ∧ t.m.time.self = self ∧ t.m.time.lastMsg = s.m.raw
      ∧ (self = true → t.m.time.sync = .locked)
      ∧ (self = false → gm = none → s.m.time.sync = .locked → t.m.time.sync = .holdover)
      ∧ (self = false → gm ≠ none → gm ≠ s.m.time.gm → t.m.time.sync = .acquiring)
      ∧ (gm ≠ s.m.time.gm → Raised s t 0x7011 0 [((gm.getD 0 % 2 ^ 48 : Nat) : Int)])
        ∧ Frame [.time, .po, .recd, .host] s t)
    ∧ (s.m.time.gm = none ∨ s.m.time.self = true → exec .gmLossTimeout s = .next s)
    ∧ (s.m.time.sync ≠ .holdover → exec .holdoverTrustExpiry s = .next s)
    ∧ (s.m.time.sync = .holdover → ∃ t, exec .holdoverTrustExpiry s = .next t ∧ t.m.time.sync = .holdover
      ∧ t.m.raw = max s.m.raw (s.m.time.holdSince + 2000000000) ∧ t.m.time.trusted = s.m.time.alone
      ∧ Frame [.raw, .time, .po, .recd, .host] s t)
    ∧ (∀ kind, s.m.time.profile = 0 ∨ (kind ≤ 1 ∧ s.m.time.self = false) → exec (.ptpMessageSend kind) s = .next s)
    ∧ (∀ kind l, s.m.time.profile = 0 → exec (.ptpDelayMessageRx kind l) s = .next s)
    ∧ (∀ kind, s.m.time.profile ≠ 0 → (kind ≤ 1 → s.m.time.self = true) → ∃ t, exec (.ptpMessageSend kind) s = .next t
      ∧ t.m.raw = nextMul s.m.raw (200000000 / 2 ^ s.m.syncLog)
      ∧ t.m.time.sent.getLast? = some (kind, t.m.now)
      ∧ (∃ x ∈ t.m.fab.sent.drop s.m.fab.sent.length, x.kind = 0x88F700 + kind) ∧ Frame [.raw, .time, .fab] s t)
    ∧ (∀ t1 t2 t3 t4 : Int, s.m.time.profile ≠ 0 → exec (.ptpDelayMessageRx 1 [t1, t2, t3, t4]) s
      = .next { s with m := { s.m with time := { s.m.time with delay := ((t4 - t1) - (t3 - t2)) / 2 } } })
    ∧ (∀ l, s.m.time.profile ≠ 0 → ∃ t, exec (.ptpDelayMessageRx 0 l) s = .next t
      ∧ t.m.time.reqs.getLast? = some s.m.now ∧ (∃ x ∈ t.m.fab.sent.drop s.m.fab.sent.length, x.kind = 0x88F703)
      ∧ Frame [.time, .fab] s t)

/-- When the servo changes RATE_ADJ it changes OFFSET with it, so that the time at that tick is unchanged, and it
keeps the rate within its limit, so that fabric time never falls between jumps. A cold start clears both, a warm start
keeps both (R444). -/
def Obligations.ServoKeepsTime : Prop :=
  (∀ (s : State) (o : Int), s.m.alive = true → s.m.time.profile ≠ 0 → s.m.time.self = false →
    (o.natAbs : Int) ≤ s.m.p P.stepThreshold 0 * 1000 → 0 ≤ s.m.p P.rateLimit 0 → s.m.p P.rateLimit 0 ≤ 1000000 →
    ∃ t, exec (.ptpSyncRx o) s = .next t ∧ t.m.raw = s.m.raw ∧ t.m.now = s.m.now
      ∧ t.m.time.offset = s.m.time.offset + (s.m.raw * 5 * s.m.time.rate) / 4294967296 - (s.m.raw * 5 * t.m.time.rate) / 4294967296
      ∧ -4294967296 ≤ t.m.time.rate ∧ t.m.time.rate ≤ 4294967296)
  ∧ (∀ (x : TimeSt) (a b : Nat), -4294967296 ≤ x.rate → a ≤ b → fabAt x a ≤ fabAt x b)
  ∧ (∀ (s : State) (svc low : Bool), s.m.sup.powered = false → ∃ t, exec (.logicPowerOn svc low) s = .next t
      ∧ t.m.time.offset = 0 ∧ t.m.time.rate = 0)
  ∧ (∀ (s : State) (c : ResetCause), s.m.alive = true → ∃ t, exec (.controlDieReset c) s = .next t
      ∧ t.m.time.offset = s.m.time.offset ∧ t.m.time.rate = s.m.time.rate)


/-! ### 13 Hardware transactions -/

/-- The commands of a transaction: a context is opened, staged, committed, aborted, read and closed by its state (R457
to R463, R468 to R470, R484). A command on a resource that a bundle between K and C locks waits, without an answer,
until the bundle has taken effect or is void (R465). A ring command is taken here as Ready: its descriptor is fetched
and next on its ring. Model's choices in it: assumptions 8, 106, 107, 109, 144. -/
def Obligations.TxnCommands : Prop :=
  ∀ (s : State) (h : Hdr), s.m.alive = true →
    (∀ c, c < 256 → s.m.txn.ctx.length = 256 → (s.m.md.comm = true →
      (∀ r, (upto 256).find? (fun k => decide ((s.m.ctx k).st = 0)) = some c → Ready (.txnOpen h r) s →
        ∃ t, exec (.txnOpen h r) s = .next t
        ∧ t.m.ctx c = { Ctx.reset with st := 1, reusable := r } ∧ Answered s t h 0 c ∧ Frame [.txn, .host] s t)
      ∧ (∀ r, (∀ k, k < 256 → (s.m.ctx k).st ≠ 0) → Ready (.txnOpen h r) s → ∃ t, exec (.txnOpen h r) s = .next t
        ∧ After s t s.m ∧ Answered s t h 0x2901 0)
      ∧ (∀ a, (∀ w, a ≠ .other w) → (s.m.ctx c).st = 1 →
        ((s.m.ctx c).acts.length < 64 → Ready (.txnStageAction h c a false) s →
          ∃ t, exec (.txnStageAction h c a false) s = .next t
          ∧ t.m.ctx c = { s.m.ctx c with acts := (s.m.ctx c).acts ++ [a], tags := (s.m.ctx c).tags ++ [h.tag] }
          ∧ (∀ k, k ≠ c → t.m.ctx k = s.m.ctx k)
          ∧ Answered s t h 0 0 ∧ Frame [.txn, .host] s t)
        ∧ (64 ≤ (s.m.ctx c).acts.length → Ready (.txnStageAction h c a false) s →
            ∃ t, exec (.txnStageAction h c a false) s = .next t
          ∧ After s t s.m ∧ Answered s t h 0x2902 0)
        ∧ (Ready (.txnStageAction h c a true) s → ∃ t, exec (.txnStageAction h c a true) s = .next t
          ∧ After s t s.m ∧ Answered s t h 0x1006 0))
      ∧ (∀ a b, ((s.m.ctx c).st ≠ 1 ∨ ∃ w, a = .other w) → Ready (.txnStageAction h c a b) s →
          ∃ t, exec (.txnStageAction h c a b) s = .next t
        ∧ After s t s.m ∧ Answered s t h 0x2003 0)
      ∧ (∀ a, (s.m.ctx c).st = 1 →
        (1 ≤ a.kind → a.kind ≤ 3 → (s.m.ctx c).fab.length < 8 → Ready (.txnFabricAction h c a) s →
          ∃ t, exec (.txnFabricAction h c a) s = .next t
          ∧ t.m.ctx c = { s.m.ctx c with fab := (s.m.ctx c).fab ++ [a] }
          ∧ Answered s t h 0 ((s.m.ctx c).fab.length + 1) ∧ Frame [.txn, .host] s t)
        ∧ (a.kind = 0 ∨ 3 < a.kind ∨ 8 ≤ (s.m.ctx c).fab.length → Ready (.txnFabricAction h c a) s →
            ∃ t, exec (.txnFabricAction h c a) s = .next t
          ∧ After s t s.m ∧ Answered s t h 0x1903 0))
      ∧ (∀ a, (s.m.ctx c).st ≠ 1 → Ready (.txnFabricAction h c a) s → ∃ t, exec (.txnFabricAction h c a) s = .next t
        ∧ After s t s.m ∧ Answered s t h 0x2903 0)
      ∧ (∀ at? parts, (s.m.ctx c).st ≠ 1 → Ready (.txnCommit h c true at? parts) s →
          ∃ t, exec (.txnCommit h c true at? parts) s = .next t ∧ After s t s.m ∧ Answered s t h 0x2903 0)
      ∧ ((s.m.ctx c).st = 1 → (s.m.ctx c).fab = [] → (s.m.ctx c).acts ≠ [] →
        (∀ T parts, s.m.now + 100000 ≤ T → T ≤ s.m.now + s.m.p P.txnMaxLead 0 * 1000000000 →
          ((s.m.ctx c).acts.any Action.isGrant = false ∨ s.m.inSample T = false) →
          Ready (.txnCommit h c false (some T) parts) s →
            ∃ t, exec (.txnCommit h c false (some T) parts) s = .next t ∧ (t.m.ctx c).st = 2 ∧ (t.m.ctx c).c = T
          ∧ (t.m.ctx c).final = false ∧ (t.m.ctx c).acts = (s.m.ctx c).acts
          ∧ Answered s t h 0 (res2 (T % 1000000000) (T / 1000000000 % 4294967296)) ∧ Frame [.txn, .host] s t)
        ∧ (∀ T parts, (T < s.m.now + 100000 ∨ s.m.now + s.m.p P.txnMaxLead 0 * 1000000000 < T
            ∨ ((s.m.ctx c).acts.any Action.isGrant = true ∧ s.m.inSample T = true)) →
          Ready (.txnCommit h c false (some T) parts) s →
            ∃ t, exec (.txnCommit h c false (some T) parts) s = .next t ∧ After s t s.m ∧ Answered s t h 0x1902 0)
        ∧ (∀ parts T, (if (s.m.ctx c).acts.any Action.isGrant then s.m.afterSample (ceilUs (s.m.now + 100000))
            else ceilUs (s.m.now + 100000)) = T → Ready (.txnCommit h c false none parts) s →
            ∃ t, exec (.txnCommit h c false none parts) s = .next t
          ∧ (t.m.ctx c).st = 2 ∧ (t.m.ctx c).c = T ∧ s.m.now + 100000 ≤ T
          ∧ ((s.m.ctx c).acts.any Action.isGrant = false → T < s.m.now + 101000 ∧ T % 1000 = 0)
          ∧ (t.m.ctx c).final = false ∧ (t.m.ctx c).acts = (s.m.ctx c).acts
          ∧ Answered s t h 0 (res2 (T % 1000000000) (T / 1000000000 % 4294967296)) ∧ Frame [.txn, .host] s t))
      ∧ (∀ at? parts, ((s.m.ctx c).st ≠ 1 → Ready (.txnCommit h c false at? parts) s →
          ∃ t, exec (.txnCommit h c false at? parts) s = .next t
          ∧ After s t s.m ∧ Answered s t h 0x2903 0)
        ∧ ((s.m.ctx c).st = 1 → (s.m.ctx c).fab ≠ [] → Ready (.txnCommit h c false at? parts) s →
            ∃ t, exec (.txnCommit h c false at? parts) s = .next t
          ∧ After s t s.m ∧ Answered s t h 0x1903 0)
        ∧ ((s.m.ctx c).st = 1 → (s.m.ctx c).fab = [] → (s.m.ctx c).acts = [] → ∀ fabric,
          Ready (.txnCommit h c fabric at? parts) s → ∃ t, exec (.txnCommit h c fabric at? parts) s = .next t
            ∧ After s t s.m ∧ Answered s t h 0x1904 0))
      ∧ ((s.m.ctx c).st = 1 → ((s.m.ctx c).acts ≠ [] ∨ (s.m.ctx c).fab ≠ []) →
        (∀ at? parts, s.m.fab.addr = none → Ready (.txnCommit h c true at? parts) s →
          ∃ t, exec (.txnCommit h c true at? parts) s = .next t
          ∧ After s t s.m ∧ Answered s t h 0x2801 0)
        ∧ (∀ own parts, s.m.fab.addr = some own →
          (own ∉ parts → ∀ at?, Ready (.txnCommit h c true at? parts) s →
            ∃ t, exec (.txnCommit h c true at? parts) s = .next t
            ∧ After s t s.m ∧ Answered s t h 0x1901 0)
          ∧ (own ∈ parts → (∀ at?, parts.all (fun a => decide (a = own) || (s.m.route a).isSome) = false →
              Ready (.txnCommit h c true at? parts) s → ∃ t, exec (.txnCommit h c true at? parts) s = .next t
              ∧ After s t s.m ∧ Answered s t h 0x1901 0)
            ∧ (∀ at? T, parts.all (fun a => decide (a = own) || (s.m.route a).isSome) = true →
              at?.getD (s.m.now + s.m.p P.txnFabricLead 0 * 1000000) = T → Ready (.txnCommit h c true at? parts) s →
              (s.m.trusted = false → ∃ t, exec (.txnCommit h c true at? parts) s = .next t
                ∧ After s t s.m ∧ Answered s t h 0x290B 0)
              ∧ (s.m.trusted = true → (T < s.m.now + s.m.p P.txnFabricLead 0 * 1000000
                  ∨ s.m.now + s.m.p P.txnMaxLead 0 * 1000000000 < T) →
                ∃ t, exec (.txnCommit h c true at? parts) s = .next t ∧ After s t s.m ∧ Answered s t h 0x1902 0)
              ∧ (∀ vote : Option Nat, s.m.trusted = true → s.m.now + s.m.p P.txnFabricLead 0 * 1000000 ≤ T →
                T ≤ s.m.now + s.m.p P.txnMaxLead 0 * 1000000000 →
                (match s.m.voteFault T (s.m.ctx c).fab true with
                  | some r => some r
                  | none => ((s.m.restBy (rawAt s.m.time T)).actsFault (rawAt s.m.time T) none 0 (s.m.ctx c).acts).map
                      (fun _ => 7)) = vote →
                ∃ t, exec (.txnCommit h c true at? parts) s = .next t
                ∧ (t.m.ctx c).coord = true ∧ (t.m.ctx c).c = T ∧ (t.m.ctx c).parts = parts
                ∧ (t.m.ctx c).key = some ⟨own, s.m.fab.epoch, s.m.txn.serial⟩
                ∧ (t.m.ctx c).votes = [(own, vote.isNone, vote.getD 0)]
                ∧ (t.m.ctx c).v = T - s.m.p P.txnDecideMargin 0 * 1000000
                ∧ (t.m.ctx c).q = s.m.p P.txnQueryTimeout 0 * 1000000
                ∧ t.m.txn.serial = (s.m.txn.serial + 1) % 65536
                ∧ (∃ x ∈ t.m.fab.sent.drop s.m.fab.sent.length, x.kind = 0x30 ∧ x.dest = 0xFFFF)
                ∧ Raised s t 0x8002 c [(s.m.txn.serial : Int), (own : Int), (b2n vote.isNone : Int), (vote.getD 0 : Int)]
                ∧ (∀ r, vote = some r → (t.m.ctx c).st = (if (s.m.ctx c).reusable then 1 else 7)
                  ∧ (t.m.ctx c).decision = some false ∧ (t.m.ctx c).out = some ⟨0x3901, own, r, 0⟩
                  ∧ (∃ x ∈ t.m.fab.sent.drop s.m.fab.sent.length, x.kind = 0x32 ∧ x.body.drop 7 = [0])
                  ∧ Raised s t 0x8003 c [(s.m.txn.serial : Int), (own : Int), 0, 1])
                ∧ (vote = none → (∃ a ∈ parts, a ≠ own) → (t.m.ctx c).st = 3 ∧ (t.m.ctx c).decision = none
                  ∧ (t.m.ctx c).ackBy = none)
                ∧ (vote = none → (∀ a ∈ parts, a = own) →
                  (s.m.twinConf = true → (t.m.ctx c).st = 3 ∧ (t.m.ctx c).ackBy = some (s.m.raw + 20000))
                  ∧ (s.m.twinConf = false → (t.m.ctx c).st = 5 ∧ (t.m.ctx c).decision = some true
                    ∧ Raised s t 0x8003 c [(s.m.txn.serial : Int), (own : Int), 1, 1]))
                ∧ Answered s t h 0 (res2 (T % 1000000000) (T / 1000000000 % 4294967296))
                ∧ Frame [.fab, .txn, .po, .recd, .host] s t)))))
      ∧ ((s.m.ctx c).st = 1 ∨ ((s.m.ctx c).st = 2 ∧ (s.m.ctx c).final = false ∧ s.m.now < (s.m.ctx c).c - 50000) →
        Ready (.txnAbort h c) s → ∃ t, exec (.txnAbort h c) s = .next t
          ∧ (t.m.ctx c).st = (if (s.m.ctx c).reusable then 1 else 7)
        ∧ (t.m.ctx c).out = some ⟨0x2906, 0, 0, 0⟩ ∧ (t.m.ctx c).final = false
        ∧ ((s.m.ctx c).st = 1 → (t.m.ctx c).acts = [] ∧ (t.m.ctx c).tags = [] ∧ (t.m.ctx c).fab = [])
        ∧ Raised s t 0x8001 c [ctxSerial (s.m.ctx c), ctxCoord (s.m.ctx c), 0x2906, 0]
        ∧ Answered s t h 0 0 ∧ Frame [.txn, .po, .recd, .host] s t)
      ∧ (∀ key, (s.m.ctx c).st = 3 → (s.m.ctx c).coord = true → (s.m.ctx c).ackBy = none → (s.m.ctx c).key = some key →
        Ready (.txnAbort h c) s → ∃ t, exec (.txnAbort h c) s = .next t
        ∧ (t.m.ctx c).st = (if (s.m.ctx c).reusable then 1 else 7) ∧ (t.m.ctx c).decision = some false
        ∧ (t.m.ctx c).out = some ⟨0x2906, 0, 0, 0⟩
        ∧ (∃ x ∈ t.m.fab.sent.drop s.m.fab.sent.length, x.kind = 0x32 ∧ x.dest = 0xFFFF ∧ x.body.drop 7 = [0])
        ∧ Raised s t 0x8003 c [(key.serial : Int), (key.coord : Int), 0, ((s.m.ctx c).votes.length : Int)]
        ∧ Raised s t 0x8001 c [(key.serial : Int), (key.coord : Int), 0x2906, 0]
        ∧ Answered s t h 0 0 ∧ Frame [.fab, .txn, .po, .recd, .host] s t)
      ∧ ((s.m.ctx c).st = 0 ∨ (s.m.ctx c).st = 4 ∨ (s.m.ctx c).st = 6 → Ready (.txnAbort h c) s →
        ∃ t, exec (.txnAbort h c) s = .next t ∧ After s t s.m ∧ Answered s t h 0x2903 0)
      ∧ ((s.m.ctx c).st = 5 ∨ (s.m.ctx c).st = 7
          ∨ ((s.m.ctx c).st = 3 ∧ ((s.m.ctx c).coord = false ∨ (s.m.ctx c).ackBy.isSome = true)) ∨ ((s.m.ctx c).st = 2
          ∧ ((s.m.ctx c).final = true ∨ (s.m.ctx c).c - 50000 ≤ s.m.now)) → Ready (.txnAbort h c) s →
              ∃ t, exec (.txnAbort h c) s = .next t
        ∧ After s t s.m ∧ Answered s t h 0x2904 0)
      ∧ ((s.m.ctx c).st = 1 ∨ (s.m.ctx c).st = 7 → Ready (.txnClose h c) s → ∃ t, exec (.txnClose h c) s = .next t
        ∧ t.m.ctx c = Ctx.reset ∧ Answered s t h 0 0 ∧ Frame [.txn, .host] s t)
      ∧ ((s.m.ctx c).st ≠ 1 → (s.m.ctx c).st ≠ 7 → Ready (.txnClose h c) s → ∃ t, exec (.txnClose h c) s = .next t
        ∧ After s t s.m ∧ Answered s t h 0x2903 0))
    ∧ (s.m.md.reads = true →
      (∀ o, (s.m.ctx c).out = some o → (s.m.ctx c).st = 7 ∨ ((s.m.ctx c).st = 1 ∧ (s.m.ctx c).reusable = true) →
        Ready (.txnResult h c) s → ∃ t, exec (.txnResult h c) s = .next t ∧ After s t s.m
        ∧ Gave s t h { status := o.status, res := res2 o.result 0, detail := o.detail, extra := toBits 32 (min o.late 0xFFFFFFFF) })
      ∧ ((s.m.ctx c).out = none ∨ ((s.m.ctx c).st ≠ 7 ∧ ((s.m.ctx c).st ≠ 1 ∨ (s.m.ctx c).reusable = false)) →
        Ready (.txnResult h c) s → ∃ t, exec (.txnResult h c) s = .next t
        ∧ After s t s.m ∧ Answered s t h 0x2905 0)
      ∧ (Ready (.txnStatus h c) s → ∃ t, exec (.txnStatus h c) s = .next t ∧ After s t s.m
        ∧ Answered s t h 0 (res2 ((s.m.ctx c).st + (s.m.ctx c).acts.length * 256 + (s.m.ctx c).fab.length * 65536 : Nat)
          ((s.m.ctx c).c / 1000000000)))))
    ∧ (∀ j, 256 ≤ j →
      (s.m.md.comm = true →
        (∀ a, Ready (.txnFabricAction h j a) s → ∃ t, exec (.txnFabricAction h j a) s = .next t ∧ After s t s.m
          ∧ Answered s t h 0x1004 0)
        ∧ (∀ fabric at? parts, Ready (.txnCommit h j fabric at? parts) s →
          ∃ t, exec (.txnCommit h j fabric at? parts) s = .next t ∧ After s t s.m ∧ Answered s t h 0x1004 0)
        ∧ (Ready (.txnAbort h j) s → ∃ t, exec (.txnAbort h j) s = .next t ∧ After s t s.m ∧ Answered s t h 0x1004 0)
        ∧ (Ready (.txnClose h j) s → ∃ t, exec (.txnClose h j) s = .next t ∧ After s t s.m ∧ Answered s t h 0x1004 0))
      ∧ (s.m.md.reads = true →
        (Ready (.txnResult h j) s → ∃ t, exec (.txnResult h j) s = .next t ∧ After s t s.m ∧ Answered s t h 0x1004 0)
        ∧ (Ready (.txnStatus h j) s → ∃ t, exec (.txnStatus h j) s = .next t ∧ After s t s.m
          ∧ Answered s t h 0x1004 0)))
    ∧ (∀ ax, s.m.axes.contains ax = true → s.m.locked (.axis ax) = true →
      (s.m.md.active = true →
        (∀ a, Ready (.move h ax a) s → ∃ t, exec (.move h ax a) s = .next t
          ∧ t.m.txn = { s.m.txn with held := s.m.txn.held ++ [.move h ax a] } ∧ Frame [.txn, .host] s t)
        ∧ (∀ l, Ready (.setMotionLimits h ax l) s → ∃ t, exec (.setMotionLimits h ax l) s = .next t
          ∧ t.m.txn = { s.m.txn with held := s.m.txn.held ++ [.setMotionLimits h ax l] } ∧ Frame [.txn, .host] s t))
      ∧ (s.m.md.faultClear = true →
        (Ready (.stop h ax) s → ∃ t, exec (.stop h ax) s = .next t
          ∧ t.m.txn = { s.m.txn with held := s.m.txn.held ++ [.stop h ax] } ∧ Frame [.txn, .host] s t)
        ∧ (∀ ok, Ready (.axisFaultClear h ax ok) s → ∃ t, exec (.axisFaultClear h ax ok) s = .next t
          ∧ t.m.txn = { s.m.txn with held := s.m.txn.held ++ [.axisFaultClear h ax ok] } ∧ Frame [.txn, .host] s t))
      ∧ (s.m.md.maint = true →
        (Ready (.phaseTest h ax) s → ∃ t, exec (.phaseTest h ax) s = .next t
          ∧ t.m.txn = { s.m.txn with held := s.m.txn.held ++ [.phaseTest h ax] } ∧ Frame [.txn, .host] s t)
        ∧ (∀ pos redirect speed, Ready (.jog h ax pos redirect speed) s →
          ∃ t, exec (.jog h ax pos redirect speed) s = .next t
          ∧ t.m.txn = { s.m.txn with held := s.m.txn.held ++ [.jog h ax pos redirect speed] }
          ∧ Frame [.txn, .host] s t)))
    ∧ (∀ inst portal, s.m.md.maint = true →
      (if portal then s.m.portals.contains inst else s.m.axes.contains inst) = true →
      (s.m.homeAxes inst portal).any (fun i => s.m.locked (.axis i)) = true → Ready (.home h inst portal) s →
      ∃ t, exec (.home h inst portal) s = .next t
      ∧ t.m.txn = { s.m.txn with held := s.m.txn.held ++ [.home h inst portal] } ∧ Frame [.txn, .host] s t)
    ∧ (∀ p, s.m.portals.contains p = true → s.m.locked (.portal p) = true →
      (s.m.md.faultClear = true ∨ s.m.md = .egress → Ready (.portalReset h p) s →
        ∃ t, exec (.portalReset h p) s = .next t
        ∧ t.m.txn = { s.m.txn with held := s.m.txn.held ++ [.portalReset h p] } ∧ Frame [.txn, .host] s t)
      ∧ (∀ close, s.m.md.active = true → Ready (.portalRequest h p close) s →
        ∃ t, exec (.portalRequest h p close) s = .next t
        ∧ t.m.txn = { s.m.txn with held := s.m.txn.held ++ [.portalRequest h p close] } ∧ Frame [.txn, .host] s t))
    ∧ (∀ mask, s.m.md.active = true → (maskSides mask).any (fun x => s.m.locked (.side x)) = true →
      Ready (.sideRelease h mask false) s → ∃ t, exec (.sideRelease h mask false) s = .next t
      ∧ t.m.txn = { s.m.txn with held := s.m.txn.held ++ [.sideRelease h mask false] } ∧ Frame [.txn, .host] s t)
    ∧ (∀ n, s.m.md.faultClear = true → s.m.locked (.ls n) = true →
      (∀ st, Ready (.lsSet h n st) s → ∃ t, exec (.lsSet h n st) s = .next t
        ∧ t.m.txn = { s.m.txn with held := s.m.txn.held ++ [.lsSet h n st] } ∧ Frame [.txn, .host] s t)
      ∧ (Ready (.lsClear h n) s → ∃ t, exec (.lsClear h n) s = .next t
        ∧ t.m.txn = { s.m.txn with held := s.m.txn.held ++ [.lsClear h n] } ∧ Frame [.txn, .host] s t))
    ∧ (∀ pt v, s.m.md.comm = true → s.m.locked (.point pt) = true → Ready (.pointWrite h pt v) s →
      ∃ t, exec (.pointWrite h pt v) s = .next t
      ∧ t.m.txn = { s.m.txn with held := s.m.txn.held ++ [.pointWrite h pt v] } ∧ Frame [.txn, .host] s t)

/-- A frame of a transaction is taken: its first copy, of the command's type, and the black channel passes it (R471). -/
def Sys2Proof.Safety.txnTaken (m : Mod) (f : Sys2Proof.Frame) (type : Nat) : Bool :=
  !f.noAddr && decide (m.fab.addr ≠ some f.origin) && !(m.fab.seen.contains (f.origin, f.type, f.seq))
    && decide (f.type = type) && isSafe f && (m.bcFault f 2000000).isNone

/-- A local bundle is checked whole at K and takes effect whole at C or not at all, a grant among it by the conditions
at C (R257, R464, R469); a late one takes effect at its late instant (R475); a participant without a decision queries
from C, presumes abort at C + Q and is freed at C + 2 Q (R476). A fabric-wide transaction: the participant votes for
itself and for a twin in the pair (R472, R482), the coordinator decides at the first no, the last yes or V, a commit
through its twin where it has one (R473), the decision binds but for actions that fail the check, which are skipped
(R474, R477), and every message is sent again each millisecond (R472, R474, R476). A frame that is no first copy, or
that the black channel rejects, changes no context, and none is taken while class 2 is suspended (R29, R471). Model's
choices in it: assumptions 8, 109. -/
def Obligations.TxnProtocol : Prop :=
  ∀ (s : State) (c : Nat), s.m.alive = true → c < 256 → s.m.txn.ctx.length = 256 →
    (∀ m1 sim : Mod, ((s.m.ctx c).st = 2 ∨ (s.m.ctx c).st = 5) → (s.m.ctx c).final = false →
      (upto 256).all (fun k => decide (k = c) || (s.m.ctx k).final || (s.m.ctx k).st != 2 && (s.m.ctx k).st != 5
        || decide ((s.m.ctx k).c ≠ (s.m.ctx c).c) || decide ((s.m.ctx c).order < (s.m.ctx k).order)) = true →
      s.m.advance (rawAt s.m.time ((s.m.ctx c).c - 50000)) = m1 →
      m1.simFinals c (s.m.ctx c).c (rawAt s.m.time (s.m.ctx c).c) = sim →
      ((s.m.ctx c).st = 2 →
        sim.actsFault (rawAt s.m.time (s.m.ctx c).c) (s.m.ctx c).table 0 (s.m.ctx c).acts = none →
        ∃ t, exec (.txnCheckInstant c) s = .next t ∧ (t.m.ctx c).final = true ∧ (t.m.ctx c).st = 2
        ∧ (t.m.ctx c).acts = (s.m.ctx c).acts ∧ t.m.raw = m1.raw ∧ Frame [.raw, .txn, .io, .fab] s t)
      ∧ (∀ k st, (s.m.ctx c).st = 2 →
        sim.actsFault (rawAt s.m.time (s.m.ctx c).c) (s.m.ctx c).table 0 (s.m.ctx c).acts = some (k, st) →
        ∃ t, exec (.txnCheckInstant c) s = .next t ∧ (t.m.ctx c).out = some ⟨0x2909, k, st, 0⟩
        ∧ (t.m.ctx c).st = (if (s.m.ctx c).reusable then 1 else 7) ∧ (t.m.ctx c).final = false
        ∧ Raised s t 0x8001 c [ctxSerial (s.m.ctx c), ctxCoord (s.m.ctx c), 0x2909, 0]
        ∧ Frame [.raw, .txn, .po, .recd, .host] s t)
      ∧ ((s.m.ctx c).st = 5 → ∃ t, exec (.txnCheckInstant c) s = .next t ∧ (t.m.ctx c).final = true ∧ (t.m.ctx c).st = 5
        ∧ t.m.raw = m1.raw
        ∧ (∀ y ∈ (t.m.ctx c).skips, Raised s t 0x8004 c [ctxSerial (s.m.ctx c), ctxCoord (s.m.ctx c), (y.1 : Int), (y.2 : Int)])
        ∧ (∀ y ∈ sim.ctxItems (s.m.ctx c), y.2.any Action.isGrant = true → ∀ z ∈ (t.m.ctx c).skips, z.1 ≠ y.1)
        ∧ (∀ y ∈ sim.ctxItems (s.m.ctx c), y.2.any Action.isGrant = false →
          sim.actsFault (rawAt s.m.time (s.m.ctx c).c) (s.m.ctx c).table 0 y.2 = none → ∀ z ∈ (t.m.ctx c).skips, z.1 ≠ y.1)
        ∧ (∀ y ∈ sim.ctxItems (s.m.ctx c), y.2.any Action.isGrant = false →
          ∀ z, sim.actsFault (rawAt s.m.time (s.m.ctx c).c) (s.m.ctx c).table 0 y.2 = some z →
            (y.1, z.2) ∈ (t.m.ctx c).skips)
        ∧ Frame [.raw, .txn, .io, .fab, .po, .recd, .host] s t))
    ∧ (((s.m.ctx c).st ≠ 2 ∧ (s.m.ctx c).st ≠ 5) ∨ (s.m.ctx c).final = true → exec (.txnCheckInstant c) s = .next s)
    ∧ ((s.m.ctx c).st = 2 → (s.m.ctx c).final = true → (s.m.ctx c).lateAt = none → (s.m.ctx c).skips = [] →
      (s.m.ctx c).fab = [] → s.m.txn.held = [] → s.m.txn.heldActs = [] →
      (upto 256).all (fun k => decide (k = c) || !(s.m.ctx k).final) = true →
      (∀ pt v, (s.m.ctx c).acts = [.pointWrite pt v] → isHostPoint pt = true → pt - 0x180 < s.m.fab.host.length →
        ∃ t, exec (.txnCommitInstant c) s = .next t ∧ t.m.raw = max s.m.raw (rawAt s.m.time (s.m.ctx c).c)
        ∧ t.m.fab.host.getD (pt - 0x180) 0 = v ∧ (t.m.ctx c).out = some ⟨0, 0, 0, 0⟩
        ∧ (t.m.ctx c).st = (if (s.m.ctx c).reusable then 1 else 7)
        ∧ Raised s t 0x8001 c [ctxSerial (s.m.ctx c), ctxCoord (s.m.ctx c), 0, 0]
        ∧ Frame [.raw, .fab, .txn, .po, .recd, .host] s t)
      ∧ (∀ sd, (s.m.ctx c).acts = [.sideRelease (2 ^ sideNum sd) true] → (s.m.ctx c).key = none →
        ((s.m.advance (rawAt s.m.time (s.m.ctx c).c)).grantOk sd = true →
          ∃ t, exec (.txnCommitInstant c) s = .next t ∧ (t.m.side.get sd).grant = true ∧ (t.m.side.get sd).ctx = c
          ∧ (t.m.side.get sd).coord = 0xFFFF ∧ (t.m.ctx c).out = some ⟨0, 0, 0, 0⟩
          ∧ ((t.m.side.get sd).released = true → Raised s t 0x2003 (sideNum sd) [(s.m.ctx c).c, (c : Int)])
          ∧ Frame [.raw, .mode, .side, .saf, .txn, .po, .recd, .host] s t)
        ∧ ((s.m.advance (rawAt s.m.time (s.m.ctx c).c)).grantOk sd = false →
          ∃ t, exec (.txnCommitInstant c) s = .next t ∧ t.m.side = s.m.side
          ∧ (t.m.ctx c).out = some ⟨0x2909, 0, 0x3301, 0⟩
          ∧ Raised s t 0x8001 c [0, 0, 0x2909, 0] ∧ Frame [.raw, .txn, .po, .recd, .host] s t)))
    ∧ ((s.m.ctx c).st ≠ 2 → (s.m.ctx c).st ≠ 4 → (s.m.ctx c).st ≠ 5 → exec (.txnCommitInstant c) s = .next s)
    ∧ (∀ pt v u, (s.m.ctx c).final = true → (s.m.ctx c).lateAt = some u → (s.m.ctx c).skips = [] →
      (s.m.ctx c).acts = [.pointWrite pt v] → (s.m.ctx c).fab = [] → s.m.txn.held = [] → s.m.txn.heldActs = [] →
      pt - 0x180 < s.m.fab.host.length → ∃ t, exec (.txnLateApply c) s = .next t ∧ t.m.raw = max s.m.raw u
      ∧ t.m.fab.host.getD (pt - 0x180) 0 = v
      ∧ (t.m.ctx c).out = some ⟨0x40, 0, 0, max 0 ((s.m.advance u).now - (s.m.ctx c).c)⟩
      ∧ Raised s t 0x8001 c [ctxSerial (s.m.ctx c), ctxCoord (s.m.ctx c), 0x40,
          min (max 0 ((s.m.advance u).now - (s.m.ctx c).c) / 1000) 0xFFFF]
      ∧ Frame [.raw, .fab, .txn, .po, .recd, .host] s t)
    ∧ ((s.m.ctx c).final = false ∨ (s.m.ctx c).lateAt = none → exec (.txnLateApply c) s = .next s)
    ∧ (∀ key, (s.m.ctx c).st = 4 → (s.m.ctx c).key = some key → ∃ t, exec (.txnCommitInstant c) s = .next t
      ∧ (t.m.ctx c).st = 6 ∧ (t.m.ctx c).queries = (s.m.ctx c).queries + 1
      ∧ t.m.raw = max s.m.raw (rawAt s.m.time (s.m.ctx c).c)
      ∧ (∃ x ∈ t.m.fab.sent.drop s.m.fab.sent.length, x.kind = 0x33 ∧ x.dest = 0xFFFF
          ∧ x.body.drop 7 = [((s.m.ctx c).addr : Int)])
        ∧ Frame [.raw, .fab, .txn] s t)
    ∧ ((s.m.ctx c).st = 6 → ∃ t, exec (.txnQueryTimeout c) s = .next t
      ∧ t.m.raw = max s.m.raw (rawAt s.m.time ((s.m.ctx c).c + (s.m.ctx c).q))
      ∧ (t.m.ctx c).out = some ⟨0x2907, 0, 0, 0⟩ ∧ (t.m.ctx c).acts = [] ∧ (t.m.ctx c).fab = []
      ∧ (t.m.ctx c).st = (if (s.m.ctx c).reusable then 1 else 7)
      ∧ Raised s t 0x8005 c [ctxSerial (s.m.ctx c), ctxCoord (s.m.ctx c), ((s.m.ctx c).queries : Int)]
      ∧ Frame [.raw, .txn, .po, .recd, .host] s t)
    ∧ ((s.m.ctx c).st ≠ 6 → exec (.txnQueryTimeout c) s = .next s)
    ∧ ((s.m.ctx c).st = 7 → (s.m.ctx c).key.isSome = true → (s.m.ctx c).coord = false →
      ∃ t, exec (.txnContextExpiry c) s = .next t ∧ t.m.ctx c = Ctx.reset
      ∧ t.m.raw = max s.m.raw (rawAt s.m.time ((s.m.ctx c).c + 2 * (s.m.ctx c).q)) ∧ Frame [.raw, .txn] s t)
    ∧ ((s.m.ctx c).st ≠ 7 ∨ (s.m.ctx c).key = none ∨ (s.m.ctx c).coord = true →
      exec (.txnContextExpiry c) s = .next s)
    ∧ (s.m.runs 2 = false → ∀ f x, exec (.txnPrepareRx f x) s = .next s ∧ exec (.txnVoteRx f x) s = .next s
      ∧ exec (.txnDecisionRx f x) s = .next s ∧ exec (.txnQueryRx f x) s = .next s
      ∧ exec (.txnAnswerRx f x) s = .next s)
    ∧ (∀ (f : Frame) (x : TxnMsg), s.m.runs 2 = true →
      (txnTaken s.m f 0x30 = false → ∃ t, exec (.txnPrepareRx f x) s = .next t ∧ t.m.fab.sent = s.m.fab.sent
        ∧ Frame [.fab, .po, .recd, .host] s t)
      ∧ (txnTaken s.m f 0x31 = false → ∃ t, exec (.txnVoteRx f x) s = .next t ∧ t.m.fab.sent = s.m.fab.sent
        ∧ Frame [.fab, .po, .recd, .host] s t)
      ∧ (txnTaken s.m f 0x32 = false → ∃ t, exec (.txnDecisionRx f x) s = .next t ∧ t.m.fab.sent = s.m.fab.sent
        ∧ Frame [.fab, .po, .recd, .host] s t)
      ∧ (txnTaken s.m f 0x33 = false → ∃ t, exec (.txnQueryRx f x) s = .next t ∧ t.m.fab.sent = s.m.fab.sent
        ∧ Frame [.fab, .po, .recd, .host] s t)
      ∧ (txnTaken s.m f 0x34 = false → ∃ t, exec (.txnAnswerRx f x) s = .next t ∧ t.m.fab.sent = s.m.fab.sent
        ∧ Frame [.fab, .po, .recd, .host] s t))
    ∧ (∀ (f : Frame) (key : TxnKey), s.m.runs 2 = true →
      (txnTaken s.m f 0x30 = true → ∀ (T V Q : Int) (parts : List Nat) (fab : List FabAct) (named : List Nat),
        parts.filter (fun a => decide (s.m.fab.addr = some a) || (s.m.tw.pairFormed && decide (s.m.peerAddr = some a))) = named →
        (named = [] ∨ (s.m.md ≠ .shadow ∧ (s.m.ctxByKey key (fun _ => true)).isSome = true)
            ∨ (s.m.md = .shadow ∧ s.m.tw.pairFormed = false) →
          ∃ t, exec (.txnPrepareRx f (.prepare key T V Q parts fab)) s = .next t ∧ t.m.fab.sent = s.m.fab.sent
          ∧ Frame [.fab] s t)
        ∧ (named ≠ [] → s.m.md = .shadow → s.m.tw.pairFormed = true →
          ∃ t, exec (.txnPrepareRx f (.prepare key T V Q parts fab)) s = .next t
          ∧ (∃ x ∈ t.m.fab.sent.drop s.m.fab.sent.length, x.link = 4 ∧ x.kind = 0x30
            ∧ x.body.take 6 = [(key.coord : Int), (key.epoch : Int), (key.serial : Int), T, V, Q]) ∧ Frame [.fab] s t)
        ∧ (named ≠ [] → s.m.md ≠ .shadow → s.m.ctxByKey key (fun _ => true) = none →
          (∀ z, s.m.txn.noVotes.find? (fun y => decide (y.1 = key)) = some z →
            ∃ t, exec (.txnPrepareRx f (.prepare key T V Q parts fab)) s = .next t
            ∧ (∀ a ∈ named, ∃ x ∈ t.m.fab.sent.drop s.m.fab.sent.length, x.kind = 0x31 ∧ x.dest = key.coord
                ∧ x.body.drop 7 = [(a : Int), 0, (z.2 : Int)]) ∧ Frame [.fab] s t)
          ∧ (s.m.txn.noVotes.any (fun y => decide (y.1 = key)) = false →
            (upto 256).find? (fun i => decide ((s.m.ctx i).st = 0)) = some c → s.m.voteFault T fab true = none →
            ∃ t, exec (.txnPrepareRx f (.prepare key T V Q parts fab)) s = .next t
            ∧ t.m.ctx c = { Ctx.reset with
                st := 4, fab := fab, c := T, v := V, q := Q, key := some key, addr := named.headD 0, parts := named }
            ∧ Raised s t 0x8002 c [(key.serial : Int), (key.coord : Int), 1, 0]
            ∧ (∀ a ∈ named, ∃ x ∈ t.m.fab.sent.drop s.m.fab.sent.length, x.kind = 0x31 ∧ x.dest = key.coord
                ∧ x.body.drop 7 = [(a : Int), 1, 0]) ∧ Frame [.fab, .txn, .po, .recd, .host] s t)
          ∧ (∀ r, s.m.txn.noVotes.any (fun y => decide (y.1 = key)) = false →
            s.m.voteFault T fab ((upto 256).any (fun i => decide ((s.m.ctx i).st = 0))) = some r →
            ∃ t, exec (.txnPrepareRx f (.prepare key T V Q parts fab)) s = .next t
            ∧ t.m.txn = { s.m.txn with noVotes := s.m.txn.noVotes ++ [(key, r)] }
            ∧ Raised s t 0x8002 0 [(key.serial : Int), (key.coord : Int), 0, (r : Int)]
            ∧ (∀ a ∈ named, ∃ x ∈ t.m.fab.sent.drop s.m.fab.sent.length, x.kind = 0x31 ∧ x.dest = key.coord
                ∧ x.body.drop 7 = [(a : Int), 0, (r : Int)]) ∧ Frame [.fab, .txn, .po, .recd, .host] s t)))
      ∧ (txnTaken s.m f 0x31 = true → ∀ voter reason,
        (s.m.ctxByKey key (fun y => y.coord && decide (y.st = 3) && y.ackBy.isNone) = none → ∀ yes,
          ∃ t, exec (.txnVoteRx f (.vote key voter yes reason)) s = .next t ∧ t.m.fab.sent = s.m.fab.sent
          ∧ Frame [.fab] s t)
        ∧ (s.m.ctxByKey key (fun y => y.coord && decide (y.st = 3) && y.ackBy.isNone) = some c →
          (∀ yes, (voter ∉ (s.m.ctx c).parts ∨ (s.m.ctx c).votes.any (fun z => z.1 == voter) = true
              ∨ (s.m.ctx c).v ≤ s.m.now) →
            ∃ t, exec (.txnVoteRx f (.vote key voter yes reason)) s = .next t ∧ t.m.fab.sent = s.m.fab.sent
            ∧ Frame [.fab] s t)
          ∧ ((s.m.ctx c).votes.all (fun z => z.2.1) = true → voter ∈ (s.m.ctx c).parts →
            (s.m.ctx c).votes.any (fun z => z.1 == voter) = false → s.m.now < (s.m.ctx c).v →
            (∃ t, exec (.txnVoteRx f (.vote key voter false reason)) s = .next t ∧ (t.m.ctx c).decision = some false
              ∧ (t.m.ctx c).out = some ⟨0x3901, voter, reason, 0⟩
              ∧ (t.m.ctx c).st = (if (s.m.ctx c).reusable then 1 else 7)
              ∧ (∃ x ∈ t.m.fab.sent.drop s.m.fab.sent.length, x.kind = 0x32 ∧ x.dest = 0xFFFF ∧ x.body.drop 7 = [0])
              ∧ Raised s t 0x8003 c [(key.serial : Int), (key.coord : Int), 0, (((s.m.ctx c).votes.length + 1 : Nat) : Int)]
              ∧ Raised s t 0x8001 c [(key.serial : Int), (key.coord : Int), 0x3901, 0]
              ∧ Frame [.fab, .txn, .po, .recd, .host] s t)
            ∧ ((∃ a ∈ (s.m.ctx c).parts, a ≠ voter ∧ (s.m.ctx c).votes.any (fun z => z.1 == a) = false) →
              ∃ t, exec (.txnVoteRx f (.vote key voter true reason)) s = .next t
              ∧ t.m.ctx c = { s.m.ctx c with votes := (s.m.ctx c).votes ++ [(voter, true, reason)] }
              ∧ Frame [.fab, .txn] s t)
            ∧ ((∀ a ∈ (s.m.ctx c).parts, a = voter ∨ (s.m.ctx c).votes.any (fun z => z.1 == a) = true) →
              (s.m.twinConf = false → ∃ t, exec (.txnVoteRx f (.vote key voter true reason)) s = .next t
                ∧ (t.m.ctx c).st = 5 ∧ (t.m.ctx c).decision = some true
                ∧ (∃ x ∈ t.m.fab.sent.drop s.m.fab.sent.length, x.kind = 0x32 ∧ x.dest = 0xFFFF ∧ x.body.drop 7 = [1])
                ∧ Raised s t 0x8003 c [(key.serial : Int), (key.coord : Int), 1, (((s.m.ctx c).votes.length + 1 : Nat) : Int)]
                ∧ Frame [.fab, .txn, .po, .recd, .host] s t)
              ∧ (s.m.twinConf = true → ∃ t, exec (.txnVoteRx f (.vote key voter true reason)) s = .next t
                ∧ (t.m.ctx c).st = 3 ∧ (t.m.ctx c).decision = (s.m.ctx c).decision
                ∧ (t.m.ctx c).ackBy = some (s.m.raw + 20000)
                ∧ (s.m.tw.pairFormed = true → ∃ x ∈ t.m.fab.sent.drop s.m.fab.sent.length, x.link = 4 ∧ x.kind = 0x32
                  ∧ x.body = [(key.coord : Int), (key.epoch : Int), (key.serial : Int), 1])
                ∧ Frame [.fab, .txn] s t)))))
      ∧ (txnTaken s.m f 0x32 = true →
        (∀ d, s.m.ctxByKey key (fun y => !y.coord && (decide (y.st = 4) || decide (y.st = 6))) = none →
          ∃ t, exec (.txnDecisionRx f (.decision key d)) s = .next t ∧ Frame [.fab] s t)
        ∧ (s.m.ctxByKey key (fun y => !y.coord && (decide (y.st = 4) || decide (y.st = 6))) = some c →
          (s.m.now ≤ (s.m.ctx c).c - 50000 → ∃ t, exec (.txnDecisionRx f (.decision key true)) s = .next t
            ∧ (t.m.ctx c).st = 5 ∧ (t.m.ctx c).decision = some true ∧ (t.m.ctx c).fab = (s.m.ctx c).fab
            ∧ (t.m.ctx c).lateAt = (s.m.ctx c).lateAt
            ∧ Raised s t 0x8003 c [(key.serial : Int), (key.coord : Int), 1, ((s.m.ctx c).votes.length : Int)]
            ∧ Frame [.fab, .txn, .po, .recd, .host] s t)
          ∧ ((s.m.ctx c).c - 50000 < s.m.now → ∃ t, exec (.txnDecisionRx f (.decision key true)) s = .next t
            ∧ (t.m.ctx c).st = 5 ∧ (t.m.ctx c).lateAt = some (s.m.raw + 10000) ∧ (t.m.ctx c).final = true
            ∧ Raised s t 0x8003 c [(key.serial : Int), (key.coord : Int), 1, ((s.m.ctx c).votes.length : Int)]
            ∧ Frame [.fab, .txn, .io, .po, .recd, .host] s t)
          ∧ (∃ t, exec (.txnDecisionRx f (.decision key false)) s = .next t ∧ (t.m.ctx c).decision = some false
            ∧ (t.m.ctx c).acts = [] ∧ (t.m.ctx c).fab = [] ∧ (t.m.ctx c).out = some ⟨0x2906, 0, 0, 0⟩
            ∧ (t.m.ctx c).st = (if (s.m.ctx c).reusable then 1 else 7)
            ∧ Raised s t 0x8003 c [(key.serial : Int), (key.coord : Int), 0, ((s.m.ctx c).votes.length : Int)]
            ∧ Frame [.fab, .txn, .po, .recd, .host] s t)))
      ∧ (txnTaken s.m f 0x34 = true →
        (∀ d, s.m.ctxByKey key (fun y => !y.coord && decide (y.st = 6)) = none →
          ∃ t, exec (.txnAnswerRx f (.answer key d)) s = .next t ∧ Frame [.fab] s t)
        ∧ (s.m.ctxByKey key (fun y => !y.coord && decide (y.st = 6)) = some c →
          (∃ t, exec (.txnAnswerRx f (.answer key false)) s = .next t ∧ (t.m.ctx c).decision = some false
            ∧ (t.m.ctx c).out = some ⟨0x2906, 0, 0, 0⟩ ∧ (t.m.ctx c).acts = [] ∧ (t.m.ctx c).fab = []
            ∧ Frame [.fab, .txn, .po, .recd, .host] s t)
          ∧ ((s.m.ctx c).c - 50000 < s.m.now → ∃ t, exec (.txnAnswerRx f (.answer key true)) s = .next t
            ∧ (t.m.ctx c).st = 5 ∧ (t.m.ctx c).lateAt = some (s.m.raw + 10000) ∧ (t.m.ctx c).final = true
            ∧ Frame [.fab, .txn, .io, .po, .recd, .host] s t)))
      ∧ (txnTaken s.m f 0x33 = true → ∀ q,
        (∀ d, s.m.heldDecision key = some d → ∃ t, exec (.txnQueryRx f (.query key q)) s = .next t
          ∧ (∃ x ∈ t.m.fab.sent.drop s.m.fab.sent.length, x.kind = 0x34 ∧ x.dest = q
            ∧ x.body.drop 7 = [(b2n d : Int)])
          ∧ Frame [.fab] s t)
        ∧ (s.m.heldDecision key = none → ∃ t, exec (.txnQueryRx f (.query key q)) s = .next t
          ∧ t.m.fab.sent = s.m.fab.sent ∧ Frame [.fab] s t)))
    ∧ (((s.m.ctx c).st ≠ 3 ∨ (s.m.ctx c).coord = false ∨ (s.m.ctx c).ackBy.isSome = true →
        exec (.txnVoteDeadline c) s = .next s)
      ∧ ((s.m.ctx c).ackBy = none → exec (.txnTwinAckRx c) s = .next s ∧ exec (.txnTwinAckTimeout c) s = .next s)
      ∧ ((s.m.ctx c).key = none → exec (.txnResendTimer c) s = .next s))
    ∧ (∀ (key : TxnKey), (s.m.ctx c).key = some key →
      ((s.m.ctx c).st = 3 → (s.m.ctx c).coord = true → (s.m.ctx c).ackBy = none →
        (∀ a, ((s.m.ctx c).parts.filter (fun a => !((s.m.ctx c).votes.any (fun v => v.1 == a)))).min? = some a →
          ∃ t, exec (.txnVoteDeadline c) s = .next t ∧ t.m.raw = max s.m.raw (rawAt s.m.time (s.m.ctx c).v)
          ∧ (t.m.ctx c).decision = some false ∧ (t.m.ctx c).out = some ⟨0x2908, a, 0, 0⟩
          ∧ (∃ x ∈ t.m.fab.sent.drop s.m.fab.sent.length, x.kind = 0x32 ∧ x.body.drop 7 = [0])
          ∧ Raised s t 0x8003 c [(key.serial : Int), (key.coord : Int), 0, ((s.m.ctx c).votes.length : Int)]
          ∧ Frame [.raw, .fab, .txn, .po, .recd, .host] s t)
        ∧ ((s.m.ctx c).parts.all (fun a => (s.m.ctx c).votes.any (fun v => v.1 == a)) = true →
          ∃ t, exec (.txnVoteDeadline c) s = .next t ∧ t.m.raw = max s.m.raw (rawAt s.m.time (s.m.ctx c).v)
          ∧ Frame [.raw] s t))
      ∧ (∀ u, (s.m.ctx c).ackBy = some u →
        (s.m.raw < u → ∃ t, exec (.txnTwinAckRx c) s = .next t ∧ (t.m.ctx c).st = 5 ∧ (t.m.ctx c).decision = some true
          ∧ (t.m.ctx c).ackBy = none ∧ (∃ x ∈ t.m.fab.sent.drop s.m.fab.sent.length, x.kind = 0x32 ∧ x.dest = 0xFFFF
            ∧ x.body.drop 7 = [1])
          ∧ Raised s t 0x8003 c [(key.serial : Int), (key.coord : Int), 1, ((s.m.ctx c).votes.length : Int)]
          ∧ Frame [.fab, .txn, .po, .recd, .host] s t)
        ∧ (u ≤ s.m.raw → exec (.txnTwinAckRx c) s = .next s)
        ∧ (∃ t, exec (.txnTwinAckTimeout c) s = .next t ∧ t.m.raw = max s.m.raw u
          ∧ (t.m.ctx c).decision = some false ∧ (t.m.ctx c).out = some ⟨0x290A, 0, 0, 0⟩
          ∧ (∃ x ∈ t.m.fab.sent.drop s.m.fab.sent.length, x.kind = 0x32 ∧ x.dest = 0xFFFF ∧ x.body.drop 7 = [0])
          ∧ Frame [.raw, .fab, .txn, .po, .recd, .host] s t))
      ∧ (∀ d, (s.m.ctx c).coord = true → (s.m.ctx c).decision = some d →
        (s.m.now < (s.m.ctx c).c → ∃ t, exec (.txnResendTimer c) s = .next t
          ∧ (∃ x ∈ t.m.fab.sent.drop s.m.fab.sent.length, x.kind = 0x32 ∧ x.body.drop 7 = [(b2n d : Int)])
          ∧ Frame [.fab] s t)
        ∧ ((s.m.ctx c).c ≤ s.m.now → exec (.txnResendTimer c) s = .next s))
      ∧ ((s.m.ctx c).coord = true → (s.m.ctx c).decision = none →
        ((s.m.ctx c).st = 3 → (s.m.ctx c).ackBy = none → ∃ t, exec (.txnResendTimer c) s = .next t
          ∧ (∃ x ∈ t.m.fab.sent.drop s.m.fab.sent.length, x.kind = 0x30) ∧ Frame [.fab] s t)
        ∧ ((s.m.ctx c).st ≠ 3 ∨ (s.m.ctx c).ackBy.isSome = true → exec (.txnResendTimer c) s = .next s))
      ∧ ((s.m.ctx c).coord = false → (s.m.ctx c).st = 4 → s.m.now < (s.m.ctx c).v →
          ∃ t, exec (.txnResendTimer c) s = .next t
        ∧ (∀ a ∈ (s.m.ctx c).parts, ∃ x ∈ t.m.fab.sent.drop s.m.fab.sent.length,
            x.kind = 0x31 ∧ x.dest = key.coord ∧ x.body.drop 7 = [(a : Int), 1, 0]) ∧ Frame [.fab] s t)
      ∧ ((s.m.ctx c).coord = false → (s.m.ctx c).st = 6 → ∃ t, exec (.txnResendTimer c) s = .next t
        ∧ (t.m.ctx c).queries = (s.m.ctx c).queries + 1
        ∧ (∃ x ∈ t.m.fab.sent.drop s.m.fab.sent.length, x.kind = 0x33) ∧ Frame [.fab, .txn] s t)
      ∧ ((s.m.ctx c).coord = false → (s.m.ctx c).st ≠ 6 → ((s.m.ctx c).st ≠ 4 ∨ (s.m.ctx c).v ≤ s.m.now) →
        exec (.txnResendTimer c) s = .next s))


/-! ### 14 Twin operation -/

/-- The ligature between twins: the link sends its version exchange, the pair forms or names its first failing
condition (R487); heartbeats go out and keep lanes and the counter mapping (R490, R491), and their loss starts the
SHADOW's check (R502); a valid mirror frame becomes the SHADOW's view and an invalid one nothing (R495, R499); timed
commands, currents, profiles, decisions, health and counters (R388, R473, R496, R497, R510, R513), sent to a twin only
over a formed pair (R487). Model's choices in it: assumptions 8, 111, 112, 113. -/
def Obligations.TwinLink : Prop :=
  ∀ s : State, s.m.alive = true →
    (∀ (peer : PeerHello) (v : Option (Nat × Nat)), negotiate (ownVer 3) ⟨peer.major, peer.minor, peer.prevMinor⟩ = v →
      ∃ t, exec (.ligatureLinkUp peer) s = .next t ∧ t.m.tw.linkUp = true ∧ t.m.tw.heart = true
      ∧ t.m.tw.lastHeart = s.m.raw ∧ t.m.tw.lanes = [(true, s.m.raw), (true, s.m.raw)]
      ∧ t.m.tw.peerHello = some peer ∧ t.m.tw.peerSerial = peer.serialLo ∧ t.m.tw.peerMode = peer.mode
      ∧ (∃ x ∈ t.m.fab.sent.drop s.m.fab.sent.length, x.link = 4 ∧ x.kind = 0 ∧ x.body = s.m.helloBody s.par)
      ∧ (3 < s.m.host.neg.length → t.m.host.neg.getD 3 none = v)
      ∧ (v = none → Raised s t 0x900F 0 [(peer.major : Int), (peer.minor : Int)])
      ∧ (s.m.twinConf = false → t.m.tw.pairFormed = s.m.tw.pairFormed ∧ Frame [.tw, .fab, .po, .recd, .host] s t)
      ∧ (s.m.twinConf = true → s.m.pairFault (s.m.pairCheck s.par) peer = 0 →
        t.m.tw.pairFormed = true ∧ t.m.tw.pairFail = 0 ∧ t.m.tw.ctxSent = []
        ∧ Raised s t 0x9001 0 [(peer.serialLo : Int), s.m.p P.twinRole 0]
        ∧ (∀ i ∈ s.m.axes, s.m.twinActive = true → s.m.isLeaf i = true →
          ∃ x ∈ t.m.fab.sent.drop s.m.fab.sent.length, x.link = 4 ∧ x.kind = 7 ∧ x.dest = i)
        ∧ Frame [.tw, .fab, .fw, .freeCtr, .po, .recd, .host] s t)
      ∧ (∀ k, s.m.twinConf = true → s.m.pairFault (s.m.pairCheck s.par) peer = k → k ≠ 0 →
        t.m.tw.pairFormed = false ∧ t.m.tw.pairFail = k ∧ Raised s t 0x9002 0 [(k : Int)]
        ∧ Frame [.tw, .fab, .po, .recd, .host] s t))
    ∧ (s.m.twinConf = true → s.m.beats = true → ∃ t, exec .ligatureHeartbeatSend s = .next t
      ∧ t.m.raw = nextMul s.m.raw 2000
      ∧ (∀ lane, lane = 0 ∨ lane = 1 → ∃ x ∈ t.m.fab.sent.drop s.m.fab.sent.length, x.link = 4 ∧ x.kind = 1
          ∧ x.dest = lane ∧ x.body = [(s.m.md.num : Int), (t.m.raw : Int), (s.m.tw.mirSeqTx : Int)])
      ∧ Frame [.raw, .fab] s t)
    ∧ (s.m.twinConf = false ∨ s.m.beats = false → exec .ligatureHeartbeatSend s = .next s)
    ∧ (∀ lane mode peerRaw sq, lane < 2 → s.m.tw.linkUp = true → lane < s.m.tw.lanes.length →
      ∃ t, exec (.ligatureHeartbeatRx lane mode peerRaw sq) s = .next t
      ∧ t.m.tw.lanes.getD lane (false, 0) = (true, s.m.raw) ∧ t.m.tw.heart = true ∧ t.m.tw.lastHeart = s.m.raw
      ∧ t.m.tw.peerMode = mode ∧ t.m.tw.mapOff = (s.m.raw : Int) - peerRaw ∧ t.m.tw.orphan = false
      ∧ t.m.tw.noTorque = false
      ∧ ((s.m.tw.lanes.getD lane (false, 0)).1 = false → Raised s t 0x9003 lane [(lane : Int), 1])
      ∧ (s.m.tw.orphan = false → Frame [.tw, .po, .recd, .host] s t)
      ∧ (s.m.tw.orphan = true → Raised s t 0x9009 0 [0] ∧ (∀ k, k < s.m.io.ls.length → (t.m.ls k).cmd = 0)
        ∧ Frame [.tw, .io, .live, .due, .po, .recd, .host] s t))
    ∧ (∀ lane mode peerRaw sq, 2 ≤ lane ∨ s.m.tw.linkUp = false →
      exec (.ligatureHeartbeatRx lane mode peerRaw sq) s = .next s)
    ∧ (∀ lane, lane < s.m.tw.lanes.length →
      ((s.m.tw.lanes.getD lane (false, 0)).1 = true → ∃ t, exec (.ligatureLaneLoss lane) s = .next t
        ∧ (t.m.tw.lanes.getD lane (false, 0)).1 = false ∧ t.m.tw.laneLosses = sat16 (s.m.tw.laneLosses + 1)
        ∧ t.m.raw = max s.m.raw ((s.m.tw.lanes.getD lane (false, 0)).2 + 20000) ∧ t.m.tw.heart = s.m.tw.heart
        ∧ Raised s t 0x9003 lane [(lane : Int), 0] ∧ Frame [.raw, .tw, .po, .recd, .host] s t)
      ∧ ((s.m.tw.lanes.getD lane (false, 0)).1 = false → exec (.ligatureLaneLoss lane) s = .next s))
    ∧ (s.m.tw.heart = true → ∃ t, exec .twinHeartbeatLost s = .next t ∧ t.m.tw.heart = false
      ∧ (∀ x ∈ t.m.tw.lanes, x.1 = false) ∧ t.m.tw.peerMode = 0
      ∧ t.m.raw = max s.m.raw (s.m.tw.lastHeart + 60000) ∧ t.m.host.faultBits.testBit 8 = true
      ∧ Raised s t 0x9004 0 [(((t.m.raw - s.m.tw.mirAt) / 200 : Nat) : Int)]
      ∧ (s.m.md = .shadow → s.m.takeoverFault = 0 → s.m.mirTorque ≠ [] → t.m.tw.checkAt = some (t.m.raw + 4000))
      ∧ (s.m.md = .shadow → s.m.takeoverFault = 0 → s.m.mirTorque = [] → t.m.tw.noTorque = true)
      ∧ (∀ k, s.m.md = .shadow → s.m.takeoverFault = k → k ≠ 0 → Raised s t 0x900E 0 [(k : Int)])
      ∧ (s.m.md ≠ .shadow → t.m.tw.checkAt = s.m.tw.checkAt ∧ t.m.tw.noTorque = s.m.tw.noTorque)
      ∧ Frame [.raw, .tw, .po, .recd, .host] s t)
    ∧ (s.m.tw.heart = false → exec .twinHeartbeatLost s = .next s)
    ∧ (∀ f : MirFrame, (f.crcOk = false ∨ s.m.tw.pairFormed = false ∨ s.m.md ≠ .shadow) →
        exec (.mirrorFrameRx f) s = .next s)
    ∧ (∀ f : MirFrame, f.crcOk = true → s.m.tw.pairFormed = true → s.m.md = .shadow →
      ∃ t, exec (.mirrorFrameRx f) s = .next t ∧ t.m.tw.mir = some f
      ∧ t.m.tw.mirAt = ((f.tick : Int) + s.m.tw.mapOff).toNat ∧ t.m.tw.late = false ∧ t.m.md = .shadow
      ∧ (∀ i x, f.axes[i]? = some x → i < s.m.ax.length → (t.m.axis i).pcmd = x.pcmd ∧ (t.m.axis i).addr = x.addr
        ∧ (t.m.axis i).lead = x.lead ∧ (t.m.axis i).amp = x.amp)
      ∧ (∀ i x, f.axes[i]? = some x → i < s.m.ob.ax.length → (t.m.obst i).acc = x.acc)
      ∧ (∀ p x, f.portals[p]? = some x → p < s.m.po.length → (t.m.portal p).state = x.state
        ∧ (t.m.portal p).openReq = x.openReq ∧ (t.m.portal p).probe = x.probe ∧ (t.m.portal p).user = x.user)
      ∧ t.m.side.L.grant = f.grants.1 ∧ t.m.side.R.grant = f.grants.2
      ∧ (t.m.saf.loops.get .L).latched = f.loopsLatched.1 ∧ (t.m.saf.loops.get .R).latched = f.loopsLatched.2
      ∧ (∀ n st, f.ls[n]? = some st → n < s.m.io.ls.length → s.m.tw.orphan = false → (t.m.ls n).cmd = st)
      ∧ (∀ n st u, f.timed[n]? = some (some (st, u)) → n < s.m.io.ls.length →
        (t.m.ls n).timed = some (st, s.m.mapped u))
      ∧ (∀ x, f.ctxs = [x] → x.no < s.m.txn.ctx.length → (t.m.ctx x.no).st = x.st ∧ (t.m.ctx x.no).acts = x.acts
        ∧ (t.m.ctx x.no).tags = x.tags ∧ (t.m.ctx x.no).c = x.c ∧ (t.m.ctx x.no).key = x.key
        ∧ (t.m.ctx x.no).final = x.final)
      ∧ Frame [.ob, .ax, .po, .side, .saf, .io, .txn, .tw, .live, .due, .start, .recd, .host] s t)
    ∧ (s.m.md = .shadow → s.m.tw.heart = true → s.m.tw.late = false → s.m.tw.mir.isSome = true →
      ∃ t, exec .twinMirrorLate s = .next t ∧ t.m.tw.late = true ∧ t.m.tw.lateCount = sat32 (s.m.tw.lateCount + 1)
      ∧ t.m.raw = max s.m.raw (s.m.tw.mirAt + 60000)
      ∧ Raised s t 0x900D 0 [(((t.m.raw - s.m.tw.mirAt) / 200 : Nat) : Int)]
        ∧ Frame [.raw, .tw, .po, .recd, .host] s t)
    ∧ (s.m.md ≠ .shadow ∨ s.m.tw.heart = false ∨ s.m.tw.late = true ∨ s.m.tw.mir = none →
      exec .twinMirrorLate s = .next s)
    ∧ (∀ n st u, n < s.m.io.ls.length → s.m.md = .shadow → s.m.tw.orphan = false →
      ∃ t, exec (.twinLsCommandRx n st u) s = .next t
      ∧ t.m.ls n = { s.m.ls n with timed := some (st, s.m.mapped u) } ∧ (∀ k, k ≠ n → t.m.ls k = s.m.ls k)
      ∧ Frame [.io] s t)
    ∧ (∀ n st u, s.m.md ≠ .shadow ∨ s.m.tw.orphan = true → exec (.twinLsCommandRx n st u) s = .next s)
    ∧ (∀ l, ∃ t, exec (.twinCurrentExchange l) s = .next t
      ∧ (∀ n ma, l[n]? = some ma → n < s.m.io.ls.length → (t.m.ls n).twinMa = ma ∧ (t.m.ls n).ma = (s.m.ls n).ma)
      ∧ (s.m.tw.pairFormed = true → ∃ x ∈ t.m.fab.sent.drop s.m.fab.sent.length, x.link = 4 ∧ x.kind = 10
        ∧ x.body = s.m.io.ls.map (fun c => (c.ma : Int)))
      ∧ (s.m.tw.pairFormed = false → t.m.fab = s.m.fab) ∧ Frame [.fab, .io] s t)
    ∧ (∀ ax bins ref, s.m.runs 8 = true → s.m.md = .shadow → s.m.tw.pairFormed = true → s.m.axes.contains ax = true →
      ax < s.m.ob.ax.length → ∃ t, exec (.twinProfileRx ax bins ref) s = .next t
      ∧ (t.m.obst ax).prof.compliance = ref.getD 0 (s.m.obst ax).prof.compliance
      ∧ (t.m.obst ax).prof.onset = (ref[1]?.map (ofBits 32)).getD (s.m.obst ax).prof.onset
      ∧ (t.m.obst ax).prof.cycles = ref.getD 2 (s.m.obst ax).prof.cycles
      ∧ (t.m.obst ax).prof.bins = bins.foldl (fun l x => putBin l x.1 x.2) (s.m.obst ax).prof.bins
      ∧ (t.m.obst ax).prof.valid = true ∧ (t.m.obst ax).changed = true
      ∧ Raised s t 0x900C ax [(ax : Int), (bins.length : Int)] ∧ Frame [.ob, .po, .recd, .host] s t)
    ∧ (∀ ax bins ref, s.m.runs 8 = false ∨ s.m.md ≠ .shadow ∨ s.m.tw.pairFormed = false ∨ s.m.axes.contains ax = false →
      exec (.twinProfileRx ax bins ref) s = .next s)
    ∧ (∀ key b, ∃ t, exec (.twinDecisionWriteRx key b) s = .next t ∧ (key, b) ∈ t.m.tw.decisions
      ∧ (∀ x ∈ t.m.tw.decisions, x.1 = key → x.2 = b) ∧ (∀ x ∈ s.m.tw.decisions, x.1 ≠ key → x ∈ t.m.tw.decisions)
      ∧ (s.m.tw.pairFormed = true → ∃ x ∈ t.m.fab.sent.drop s.m.fab.sent.length, x.link = 4 ∧ x.kind = 6
        ∧ x.body = [(key.coord : Int), (key.epoch : Int), (key.serial : Int), (b2n b : Int)]) ∧ Frame [.tw, .fab] s t)
    ∧ (∃ t, exec .twinCounterClear s = .next t
      ∧ t.m.tw = { s.m.tw with returns := 0, switchOvers := 0, laneLosses := 0, lateCount := 0, lastGap := 0 }
      ∧ Frame [.tw] s t)
    ∧ (∀ self peer, ∃ t, exec (.twinHealthReport self peer) s = .next t
      ∧ t.m.tw.selfHealth = (self.map s.m.ownHealth).getD s.m.tw.selfHealth
      ∧ t.m.tw.peerHealth = peer.getD s.m.tw.peerHealth
      ∧ (∀ n, self.map s.m.ownHealth = some n →
        t.m.tw.healthySince = (if n.testBit 31 then some (s.m.tw.healthySince.getD s.m.raw) else none)
        ∧ (n ≠ s.m.tw.selfHealth → Raised s t 0x9008 0 [0, (n : Int)])
        ∧ (s.m.tw.pairFormed = true → ∃ x ∈ t.m.fab.sent.drop s.m.fab.sent.length, x.link = 4 ∧ x.kind = 5
          ∧ x.body = [(n : Int)]))
      ∧ (∀ n, peer = some n → n ≠ s.m.tw.peerHealth → Raised s t 0x9008 0 [1, (n : Int)])
      ∧ (self = none → t.m.tw.healthySince = s.m.tw.healthySince ∧ t.m.fab = s.m.fab)
      ∧ Frame [.tw, .fab, .po, .recd, .host] s t)

/-- A SHADOW whose check finds no axis of its peer driven takes over at the next boundary, and one that finds a driven
axis is an orphan with its loops open and its load switches off (R502, R503, R507); RELINQUISH schedules the hand-
over, at whose instant the former ACTIVE drives no more (R503); the new one closes its isolators when the other's are
open, but none beside a phase wire above 10 V (R179); the PRIMARY asks for its return and the SECONDARY gives way
(R509); a start that waited for its twin goes on alone or as an orphan (R489). Model's choices in it: assumptions 8,
47, 112, 113, 135. -/
def Obligations.TwinSwitchOver : Prop :=
  ∀ s : State, s.m.alive = true →
    (∀ (sw hit : List (Nat × Nat × Nat)) (u : Nat), s.m.tw.checkAt = some u →
      sw.filter (fun x => s.m.mirTorque.contains x.1 && decide (10 < x.2.2)) = hit →
      (s.m.md = .shadow → hit = [] → ∃ t, exec (.takeoverCheckDone sw) s = .next t
        ∧ t.m.tw.takeover = some (if s.m.tw.orphan then 3 else 1) ∧ t.m.tw.gapFrom = s.m.tw.lastHeart
        ∧ t.m.tw.checkAt = none ∧ Trig.switchOver ∈ t.m.mode.trigs ∧ t.m.md = .shadow ∧ t.m.raw = max s.m.raw u
        ∧ Frame [.raw, .ax, .tw, .mode] s t)
      ∧ (s.m.md = .shadow → hit ≠ [] → ∃ t, exec (.takeoverCheckDone sw) s = .next t ∧ t.m.tw.orphan = true
        ∧ t.m.tw.checkAt = none ∧ t.m.md = .shadow ∧ t.m.raw = max s.m.raw u
        ∧ (∀ x ∈ hit, Raised s t 0x100E x.1 [(x.2.1 : Int), (x.2.2 : Int)])
        ∧ (s.m.tw.orphan = true → Frame [.raw, .ax, .tw, .po, .recd, .host] s t)
        ∧ (s.m.tw.orphan = false → t.m.tw.takeover = none ∧ Raised s t 0x9009 0 [1]
          ∧ t.m.saf.loops.L.closed = false ∧ t.m.saf.loops.R.closed = false
          ∧ (∀ n, n < 24 → n < s.m.io.ls.length → (t.m.ls n).out = false)
          ∧ Frame [.raw, .ax, .tw, .saf, .io, .live, .due, .po, .recd, .host] s t))
      ∧ (s.m.md ≠ .shadow → hit = [] → ∃ t, exec (.takeoverCheckDone sw) s = .next t
        ∧ t.m.tw.checkAt = none ∧ t.m.tw.closeBy = none
        ∧ (∀ i ∈ s.m.tw.resume, i < s.m.ax.length → (t.m.axis i).hotWire = none →
          (t.m.axis i).iso = (if (s.m.axis i).iso = .closed then .closed else .closing))
        ∧ (∀ i ∈ s.m.tw.resume, i < s.m.ax.length → ∀ w, (t.m.axis i).hotWire = some w →
          (s.m.axis i).iso ≠ .closed → (s.m.axis i).iso ≠ .closing →
          (t.m.axis i).iso ≠ .closing ∧ (t.m.axis i).fault.isSome = true
          ∧ Raised s t 0x100E i [(w.1 : Int), (w.2 : Int)])
        ∧ Frame [.raw, .tw, .ax, .due, .live, .ob, .saf, .po, .recd, .host] s t)
      ∧ (s.m.md ≠ .shadow → hit ≠ [] → ∃ t, exec (.takeoverCheckDone sw) s = .next t
        ∧ t.m.tw = { s.m.tw with checkAt := none } ∧ (∀ i, i < s.m.ax.length → (t.m.axis i).iso = (s.m.axis i).iso)
        ∧ Frame [.raw, .tw, .ax] s t))
    ∧ (s.m.tw.checkAt = none → ∀ sw, exec (.takeoverCheckDone sw) s = .next s)
    ∧ (s.m.md ≠ .shadow → exec .twinOrphanTimeout s = .next s)
    ∧ (∀ m1 : Mod, s.m.md = .shadow → s.m.tw.noTorque = true →
      s.m.advance (s.m.tw.lastHeart + s.m.pn P.twinOrphanTimeout 0 * 200000) = m1 →
      (m1.peerAlive = true → ∃ t, exec .twinOrphanTimeout s = .next t ∧ t.m.tw.noTorque = false
        ∧ t.m.tw.takeover = s.m.tw.takeover ∧ Raised s t 0x900E 0 [5] ∧ Frame [.raw, .tw, .po, .recd, .host] s t)
      ∧ (m1.peerAlive = false → ∃ t, exec .twinOrphanTimeout s = .next t ∧ t.m.tw.takeover = some 1
        ∧ t.m.raw = m1.raw ∧ Trig.switchOver ∈ t.m.mode.trigs ∧ Frame [.raw, .tw, .mode] s t))
    ∧ (s.m.md = .shadow → s.m.tw.noTorque = false → s.m.tw.orphan = true → s.m.peerAlive = false →
      (s.m.mirTorque = [] → ∃ t, exec .twinOrphanTimeout s = .next t ∧ t.m.tw.takeover = some 3
        ∧ Trig.switchOver ∈ t.m.mode.trigs ∧ Frame [.tw, .mode] s t)
      ∧ (s.m.mirTorque ≠ [] → ∃ t, exec .twinOrphanTimeout s = .next t ∧ t.m.tw.checkAt = some (s.m.raw + 4000)
        ∧ t.m.tw.takeover = s.m.tw.takeover ∧ Frame [.tw] s t))
    ∧ (s.m.md = .shadow → s.m.tw.noTorque = false → (s.m.tw.orphan = false ∨ s.m.peerAlive = true) →
      exec .twinOrphanTimeout s = .next s)
    ∧ (∀ H cause, s.m.md = .shadow → s.m.tw.pairFormed = true → ∃ t, exec (.relinquishRx H cause) s = .next t
      ∧ t.m.tw.handover = some (s.m.mapped H, cause, false) ∧ t.m.tw.takeover = some 2 ∧ t.m.tw.gapFrom = s.m.mapped H
      ∧ Trig.switchOver ∈ t.m.mode.trigs ∧ t.m.md = .shadow ∧ Frame [.tw, .mode] s t)
    ∧ (∀ H cause, (s.m.md ≠ .shadow ∨ s.m.tw.pairFormed = false) → exec (.relinquishRx H cause) s = .next s)
    ∧ (∀ u cause, s.m.tw.handover = some (u, cause, true) →
      (2 < cause → ∃ t, exec .handoverInstant s = .next t ∧ t.m.md = .shadow ∧ t.m.tw.handover = none
        ∧ t.m.tw.mir = none ∧ t.m.raw = max s.m.raw u
        ∧ (∀ i ∈ s.m.axes, i < s.m.ax.length → (t.m.axis i).torque = false ∧ (t.m.axis i).mv = none
            ∧ (t.m.axis i).iso
              = (if (s.m.axis i).iso = .closed ∨ (s.m.axis i).iso = .closing then .opening else (s.m.axis i).iso))
        ∧ (s.m.tw.pairFormed = true → ∃ x ∈ t.m.fab.sent.drop s.m.fab.sent.length, x.link = 4 ∧ x.kind = 3)
        ∧ (cause = 4 → Raised s t 0x9007 0 [(u : Int)]) ∧ (cause ≠ 4 → t.m.fw.pauseDue = true)
        ∧ t.pending = s.pending ∧ t.par = s.par ∧ t.boot = s.boot)
      ∧ (cause ≤ 2 → ∃ t, exec .handoverInstant s = .next t ∧ t.m.md = .starting ∧ t.m.start.inReset = true
        ∧ t.m.start.cause = some .relinquish ∧ t.m.start.cold = false ∧ t.pending = s.pending ∧ t.par = s.par
        ∧ t.boot = s.boot))
    ∧ (s.m.tw.handover = none → exec .handoverInstant s = .next s)
    ∧ (∀ u cause, s.m.tw.handover = some (u, cause, false) → exec .handoverInstant s = .next s)
    ∧ (s.m.md = .shadow → ∃ t, exec .isolatorsOpenReportRx s = .next t ∧ t.m.tw = { s.m.tw with closeBy := some 0 }
      ∧ Frame [.tw] s t)
    ∧ (∀ u, s.m.md ≠ .shadow → s.m.tw.closeBy = some u → ∃ t, exec .isolatorsOpenReportRx s = .next t
      ∧ t.m.tw.closeBy = none
      ∧ (∀ i ∈ s.m.tw.resume, i < s.m.ax.length → (s.m.axis i).hotWire = none →
        (t.m.axis i).iso = (if (s.m.axis i).iso = .closed then .closed else .closing))
      ∧ (∀ i ∈ s.m.tw.resume, i < s.m.ax.length → ∀ w, (s.m.axis i).hotWire = some w →
        (s.m.axis i).iso ≠ .closed → (s.m.axis i).iso ≠ .closing →
        (t.m.axis i).iso ≠ .closing ∧ (t.m.axis i).fault.isSome = true ∧ Raised s t 0x100E i [(w.1 : Int), (w.2 : Int)])
      ∧ Frame [.tw, .ax, .due, .live, .ob, .saf, .po, .recd, .host] s t)
    ∧ (s.m.md ≠ .shadow → s.m.tw.closeBy = none → exec .isolatorsOpenReportRx s = .next s)
    ∧ (∀ u, s.m.primary = true → s.m.tw.healthySince = some u → s.m.md = .shadow → s.m.pn P.twinReturnDelay 0 ≠ 0 →
      s.m.tw.returnInhibit = false → s.m.bothLanes = true → 7 ≤ s.m.mirMode → s.m.mirMode ≤ 9 → s.m.mirQuiet = true →
      s.m.txnOpen = false → ∃ t, exec .twinReturn s = .next t
      ∧ t.m.raw = max s.m.raw (u + s.m.pn P.twinReturnDelay 0 * 200000000)
      ∧ (s.m.tw.pairFormed = true → ∃ x ∈ t.m.fab.sent.drop s.m.fab.sent.length, x.link = 4 ∧ x.kind = 4)
      ∧ Frame [.raw, .fab] s t)
    ∧ (s.m.primary = true → (s.m.tw.healthySince = none ∨ s.m.md ≠ .shadow ∨ s.m.pn P.twinReturnDelay 0 = 0
        ∨ s.m.tw.returnInhibit = true ∨ s.m.bothLanes = false ∨ s.m.mirMode < 7 ∨ 9 < s.m.mirMode
        ∨ s.m.mirQuiet = false ∨ s.m.txnOpen = true) → exec .twinReturn s = .next s)
    ∧ (s.m.primary = false → s.m.canRelinquish = true → s.m.bothLanes = true → s.m.quiet = true →
        s.m.txnOpen = false →
      (s.m.io.ls.all (fun c => c.timed.isNone)) = true → ∃ t T, exec .twinReturn s = .next t
      ∧ t.m.tw.handover = some (T, 4, true) ∧ T % 50000 = 0 ∧ s.m.raw + 60000 ≤ T ∧ T < s.m.raw + 110000
      ∧ Raised s t 0x9006 0 [4, (T : Int)]
      ∧ (∃ x ∈ t.m.fab.sent.drop s.m.fab.sent.length, x.link = 4 ∧ x.kind = 2 ∧ x.body = [(T : Int), 4])
      ∧ Frame [.tw, .fab, .po, .recd, .host] s t)
    ∧ (s.m.primary = false → (s.m.canRelinquish = false ∨ s.m.bothLanes = false ∨ s.m.quiet = false
        ∨ s.m.txnOpen = true ∨ (s.m.io.ls.all (fun c => c.timed.isNone)) = false) → exec .twinReturn s = .next s)
    ∧ (∀ u, s.m.allPassed = true → (s.m.ligUp && s.m.tw.pairFormed) = false → s.m.tw.waitUntil = some u → ∀ m1 : Mod,
      s.m.advance u = m1 →
      (m1.peerAlive = true → ∃ t, exec .twinPeerWaitExpiry s = .next t ∧ t.m.md = .shadow ∧ t.m.tw.orphan = true
        ∧ t.m.tw.waitUntil = none ∧ t.m.raw = m1.raw ∧ t.pending = s.pending ∧ t.par = s.par ∧ t.boot = s.boot)
      ∧ (m1.peerAlive = false → ∃ t, exec .twinPeerWaitExpiry s = .next t ∧ t.m.md = s.m.resumeMode
        ∧ t.m.tw.waitUntil = none ∧ t.m.raw = m1.raw ∧ t.pending = s.pending ∧ t.par = s.par ∧ t.boot = s.boot))
    ∧ (s.m.allPassed = false ∨ (s.m.ligUp && s.m.tw.pairFormed) = true ∨ s.m.tw.waitUntil = none →
      exec .twinPeerWaitExpiry s = .next s)


/-! ### 15 Recorder -/

/-- The three parts of an incident as INCIDENT_READ numbers them: the header, the pre-trigger records, the records after
the trigger (R536). -/
def Sys2Proof.Safety.incPart (c : Inc) (part : Nat) : List Byte :=
  match part with
  | 0 => c.header
  | 1 => ((c.preMram.map IEnt.bytes).flatten).take c.preCopied
  | _ => (c.post.map IEnt.bytes).flatten

/-- The sentinel area as SENTINEL_READ gives it: a header with the count and the first stamp, then the units (R539). -/
def Sys2Proof.Safety.sentinelArea (l : List Ev) (t : Int) : List Byte :=
  fitBytes 4096 (fitBytes 32 (le4 (l.length : Int) ++ le4 (nsOf t) ++ le4 (secOf t)) ++ (l.map Ev.bytes).flatten)

/-- The recorder: a staged record is committed under the next number of its ring, and a write that fails twice is a
memory fault, under which the records go to the twin (R518, R519, R538, R540); a block closes at its boundary (R525);
frames, the pre-trigger copy and the end of an incident (R529 to R531); the lifetime counters, of which the older copy
is written (R527); the twin's records (R540); the commands that read and clear (R534, R536, R539, R542); and no
recorder work while its class is suspended (R29). A ring command is taken here as Ready: its descriptor is fetched and
next on its ring. Model's choices in it: assumptions 8, 115, 118, 144, 149. -/
def Obligations.Recorder : Prop :=
  ∀ s : State, s.m.alive = true →
    (∀ cyc rb, s.m.recd.memFault = false → s.m.runs 6 = true →
      (takeStaged cyc s.m.recd.staged = none → ∃ t, exec (.recordCommit cyc rb) s = .next t
        ∧ t.m.recd = { s.m.recd with inc := s.m.recd.inc.commit } ∧ Frame [.recd] s t)
      ∧ (∀ r rest, takeStaged cyc s.m.recd.staged = some (r, rest) →
        (writeFault 3 rb = none → ∃ t, exec (.recordCommit cyc rb) s = .next t ∧ t.m.recd.staged = rest
          ∧ (t.m.recd.ring cyc).head = (s.m.recd.ring cyc).head + 1
          ∧ (t.m.recd.ring cyc).recs.getLast? = some { r with seq := (s.m.recd.ring cyc).head + 1 }
          ∧ (t.m.recd.ring cyc).floor = max (s.m.recd.ring cyc).floor ((s.m.recd.ring cyc).head + 2 - JRing.size cyc)
          ∧ t.m.recd.ring (!cyc) = s.m.recd.ring (!cyc) ∧ t.m.recd.inc = s.m.recd.inc.commit ∧ Frame [.recd] s t)
        ∧ (∀ w, writeFault 3 rb = some w → ∃ t, exec (.recordCommit cyc rb) s = .next t ∧ t.m.recd.memFault = true
          ∧ (t.m.recd.ring cyc).head = (s.m.recd.ring cyc).head ∧ t.m.host.faultBits.testBit 9 = true
          ∧ t.m.recd.inc.st = .off ∧ t.m.recd.staged = []
          ∧ (s.m.tw.pairFormed = true → (s.m.recd.toTwin ++ s.m.recd.staged) <+: t.m.recd.toTwin)
          ∧ Raised s t 0xA001 0 [(if cyc then 0 else 1),
              (((s.m.recd.ring cyc).head + 1) % JRing.size cyc * 256 + (if w = 1 then 8 else 0) : Nat)]
          ∧ Frame [.recd, .po, .host] s t)))
    ∧ (∀ cyc rb, s.m.recd.memFault = true → s.m.runs 8 = true → ∃ t, exec (.recordCommit cyc rb) s = .next t
      ∧ t.m.recd = { s.m.recd with toTwin := [] }
      ∧ (s.m.tw.pairFormed = true → t.m.fab.sent.length = s.m.fab.sent.length + s.m.recd.toTwin.length
        ∧ ∀ r ∈ s.m.recd.toTwin, ∃ x ∈ t.m.fab.sent.drop s.m.fab.sent.length, x.link = 4
          ∧ x.body = r.bytes.map (fun b => (b.toNat : Int)))
      ∧ Frame [.recd, .fab] s t)
    ∧ (∀ cyc rb, (if s.m.recd.memFault then s.m.runs 8 else s.m.runs 6) = false →
      exec (.recordCommit cyc rb) s = .next s)
    ∧ (s.m.recd.blk = [] ∨ s.m.runs 6 = false → exec .eventBlockClose s = .next s)
    ∧ (s.m.recd.blk ≠ [] → s.m.runs 6 = true → ∃ t, exec .eventBlockClose s = .next t
      ∧ t.m.raw = max s.m.raw (nextMul s.m.recd.blkAt 200000)
      ∧ (s.m.recd.memFault = false → t.m.recd.staged = s.m.recd.staged
          ++ [⟨0, 2, s.m.recd.blk.length, 0, t.m.raw, .block s.m.recd.dropped s.m.recd.blk⟩])
      ∧ (s.m.recd.memFault = true → s.m.tw.pairFormed = true → t.m.recd.toTwin = s.m.recd.toTwin
          ++ [⟨0, 2, s.m.recd.blk.length, 0, t.m.raw, .block s.m.recd.dropped s.m.recd.blk⟩])
      ∧ (s.m.recd.memFault = true → t.m.recd.staged = s.m.recd.staged)
      ∧ (s.m.recd.dropped = 0 → t.m.recd.blk = [])
      ∧ (s.m.recd.dropped ≠ 0 → Raised s t 0xA007 0 [(s.m.recd.dropped : Int)])
      ∧ Frame [.raw, .recd, .po, .host] s t)
    ∧ (∃ t, exec .incidentFrameSample s = .next t ∧ s.m.now ≤ t.m.recd.lastFrameMs * 1000000
      ∧ (s.m.recd.lastFrameMs * 1000000 ≤ s.m.now → s.m.recd.lastFrameMs < t.m.recd.lastFrameMs)
      ∧ (s.m.now < s.m.recd.lastFrameMs * 1000000 → t.m.recd.lastFrameMs = (s.m.now + 999999) / 1000000)
      ∧ t.m.recd.inc.frameNo = s.m.recd.inc.frameNo + 1
      ∧ t.m.raw = max s.m.raw (rawAt s.m.time (t.m.recd.lastFrameMs * 1000000))
      ∧ (∀ e, IEnt.frame (t.m.recd.lastFrameMs * 1000000)
            (upd s.m.recd.tickFrame 0 (fun _ => 0xF1000000 + s.m.recd.inc.frameNo % 65536)) = e →
        (s.m.recd.inc.copying = false → t.m.recd.inc.pre.getLast? = some e)
        ∧ (s.m.recd.inc.st = .recording → s.m.recd.stageUsed + 9 ≤ stageUnits → t.m.recd.inc.stage.getLast? = some e)
        ∧ (s.m.recd.inc.st = .recording → stageUnits < s.m.recd.stageUsed + 9 →
          t.m.recd.inc.gapMs = s.m.recd.inc.gapMs + 1))
      ∧ (s.m.runs 6 = true → s.m.recd.inc.copying = true → t.m.freeCtr = s.m.freeCtr + 1
        ∧ t.m.recd.inc.preCopied ≤ s.m.recd.inc.preLen
        ∧ min s.m.recd.inc.preLen (s.m.recd.inc.preCopied + 2016) ≤ t.m.recd.inc.preCopied)
      ∧ (s.m.runs 6 = false ∨ s.m.recd.inc.copying = false → t.m.recd.inc.preCopied = s.m.recd.inc.preCopied
        ∧ t.m.freeCtr = s.m.freeCtr)
      ∧ Frame [.raw, .recd, .freeCtr] s t)
    ∧ (s.m.runs 6 = true → s.m.recd.inc.copying = true → ∃ t, exec .preTriggerCopied s = .next t
      ∧ t.m.recd.inc.preMram = s.m.recd.inc.preMram ∧ t.m.recd.inc.copying = false
      ∧ t.m.recd.inc.preCopied = s.m.recd.inc.preLen
      ∧ Raised s t 0xA006 0 [(s.m.recd.inc.preLen : Int)] ∧ Frame [.recd, .po, .host] s t)
    ∧ (s.m.runs 6 = false ∨ s.m.recd.inc.copying = false → exec .preTriggerCopied s = .next s)
    ∧ (s.m.recd.inc.st = .recording → postUnits < unitsOf s.m.recd.inc.post + unitsOf s.m.recd.inc.stage + 9 →
      ∃ t, exec .incidentFull s = .next t ∧ t.m.recd.inc.st = .full ∧ t.m.recd.inc.endCause = 1
      ∧ t.m.recd.inc.no = s.m.recd.inc.no
      ∧ Raised s t 0xA003 0 [(s.m.recd.inc.no : Int), 1, (t.m.recd.inc.postLen : Int)]
        ∧ Frame [.recd, .po, .host] s t)
    ∧ (s.m.recd.inc.st ≠ .recording ∨ unitsOf s.m.recd.inc.post + unitsOf s.m.recd.inc.stage + 9 ≤ postUnits →
      exec .incidentFull s = .next s)
    ∧ (s.m.recd.life ≠ [] → s.m.runs 6 = true → ∃ t, exec .lifetimeCounterWrite s = .next t
      ∧ t.m.raw = max s.m.raw (s.m.recd.lifeAt + 2000000000)
      ∧ t.m.recd.life.getD 0 0
          = min (s.m.recd.life.getD 0 0 + (t.m.raw - s.m.recd.lifeAt) / 200000000) 0xFFFFFFFFFFFFFFFF
      ∧ t.m.recd.lifeAt = s.m.recd.lifeAt + (t.m.raw - s.m.recd.lifeAt) / 200000000 * 200000000
      ∧ t.m.recd.lifeKept = t.m.recd.life
      ∧ (if s.m.recd.lifeNv.1.1 < s.m.recd.lifeNv.2.1 then t.m.recd.lifeNv.2 = s.m.recd.lifeNv.2
          else t.m.recd.lifeNv.1 = s.m.recd.lifeNv.1)
      ∧ Frame [.raw, .recd, .ax] s t)
    ∧ (s.m.runs 6 = false → exec .lifetimeCounterWrite s = .next s)
    ∧ (∀ cyc b w, s.m.tw.pairFormed = true → s.m.recd.memFault = false → fitBytes 256 b = w →
      ∃ t, exec (.twinRecordRx cyc b) s = .next t
      ∧ t.m.recd = { s.m.recd with staged := s.m.recd.staged ++ [⟨0, if cyc then 0x81 else 0x82, ofLe ((w.drop 9).take 1),
          ofLe ((w.drop 10).take 2), ofLe ((w.drop 16).take 8), .bytes (w.drop 24)⟩] } ∧ Frame [.recd] s t)
    ∧ (∀ cyc b, s.m.tw.pairFormed = false ∨ s.m.recd.memFault = true → exec (.twinRecordRx cyc b) s = .next s)
    ∧ (s.m.md.reads = true → ∀ h : Hdr,
      (Ready (.recorderStatus h) s → ∃ t, exec (.recorderStatus h) s = .next t ∧ After s t s.m
        ∧ Gave s t h { status := 0, res := res2 s.m.recd.cyc.head s.m.recd.evr.head, detail := s.m.recd.inc.stNum })
      ∧ (∀ ring first len, Ready (.journalRead h ring first len) s →
        (ring < 2 → len ≠ 0 → len % 256 = 0 → s.m.recd.memFault = false →
          (first ≤ (s.m.recd.ring (decide (ring = 0))).head → s.m.host.ops.length < 8 →
            ∃ t, exec (.journalRead h ring first len) s = .next t
            ∧ t.m.host.ops = (s.m.addOp (some h) (.journalRead ring first len) (len / 256)).host.ops
            ∧ Frame [.host] s t)
          ∧ (first ≤ (s.m.recd.ring (decide (ring = 0))).head → 8 ≤ s.m.host.ops.length →
            ∃ t, exec (.journalRead h ring first len) s = .next t ∧ After s t s.m ∧ Answered s t h 0x2002 0)
          ∧ ((s.m.recd.ring (decide (ring = 0))).head < first →
              ∃ t, exec (.journalRead h ring first len) s = .next t
            ∧ After s t s.m ∧ Answered s t h 0x1B01 0))
        ∧ (2 ≤ ring → ∃ t, exec (.journalRead h ring first len) s = .next t ∧ After s t s.m ∧ Answered s t h 0x1004 0)
        ∧ (ring < 2 → (len = 0 ∨ len % 256 ≠ 0) →
          ∃ t, exec (.journalRead h ring first len) s = .next t ∧ After s t s.m ∧ Answered s t h 0x1006 0)
        ∧ (ring < 2 → len ≠ 0 → len % 256 = 0 → s.m.recd.memFault = true →
          ∃ t, exec (.journalRead h ring first len) s = .next t ∧ After s t s.m ∧ Answered s t h 0x4B01 0))
      ∧ (∀ part off len, Ready (.incidentRead h part off len) s →
        (part < 3 → off % 32 = 0 → s.m.recd.memFault = false →
          ∃ t, exec (.incidentRead h part off len) s = .next t ∧ After s t s.m
          ∧ Gave s t h {
            status := 0, res := res2 (((incPart s.m.recd.inc part).drop off).take len).length (incPart s.m.recd.inc part).length,
            buf := ((incPart s.m.recd.inc part).drop off).take len })
        ∧ (3 ≤ part ∨ off % 32 ≠ 0 →
            ∃ t, exec (.incidentRead h part off len) s = .next t ∧ After s t s.m ∧ Answered s t h 0x1003 0)
        ∧ (part < 3 → off % 32 = 0 → s.m.recd.memFault = true →
            ∃ t, exec (.incidentRead h part off len) s = .next t ∧ After s t s.m ∧ Answered s t h 0x4B01 0))
      ∧ (∀ len, len < 1200 → Ready (.countersRead h len) s → ∃ t, exec (.countersRead h len) s = .next t
        ∧ After s t s.m ∧ Answered s t h 0x1006 0)
      ∧ (∀ len, 1200 ≤ len → Ready (.countersRead h len) s → ∃ t, exec (.countersRead h len) s = .next t
        ∧ Gave s t h { status := 0, buf := (t.m.recd.life.map (fun n => leBytes 8 n)).flatten }
        ∧ t.m.recd.lifeAt = s.m.recd.lifeAt + (s.m.raw - s.m.recd.lifeAt) / 200000000 * 200000000
        ∧ t.m.recd.lifeNv = s.m.recd.lifeNv ∧ Frame [.recd, .ax, .host] s t)
      ∧ (∀ len, len < 4096 → Ready (.sentinelRead h len) s → ∃ t, exec (.sentinelRead h len) s = .next t
        ∧ After s t s.m ∧ Answered s t h 0x1006 0)
      ∧ (∀ len, 4096 ≤ len → Ready (.sentinelRead h len) s → ∃ t, exec (.sentinelRead h len) s = .next t
        ∧ After s t s.m
        ∧ Gave s t h {
            status := 0, res := res2 s.m.recd.sentinel.length 0,
            buf := sentinelArea s.m.recd.sentinel ((s.m.recd.sentinel.head?.map (fun e => e.time)).getD 0) }))
    ∧ (s.m.md.comm = true → ∀ h : Hdr,
      (Ready (.incidentTrigger h) s → (s.m.pn P.incidentTriggers 0).testBit 3 = true →
        (s.m.recd.inc.st = .armed → ∃ t, exec (.incidentTrigger h) s = .next t ∧ t.m.recd.inc.st = .recording
          ∧ t.m.recd.inc.no = s.m.recd.inc.no + 1 ∧ t.m.recd.inc.trigCode = 0 ∧ t.m.recd.inc.trigTime = s.m.now
          ∧ t.m.recd.inc.copying = true ∧ t.m.recd.inc.post = []
          ∧ Raised s t 0xA002 0 [((s.m.recd.inc.no + 1 : Nat) : Int), 0]
          ∧ Answered s t h 0 (res2 (s.m.recd.inc.no + 1 : Nat) 0) ∧ Frame [.recd, .po, .host] s t)
        ∧ (s.m.recd.inc.st = .recording ∨ s.m.recd.inc.st = .full → ∃ t, exec (.incidentTrigger h) s = .next t
          ∧ t.m.recd.inc.missed = min (s.m.recd.inc.missed + 1) 0xFFFFFFFF ∧ t.m.recd.inc.st = s.m.recd.inc.st
          ∧ (s.m.recd.inc.lastMissEv = none → Raised s t 0xA004 0 [0, (t.m.recd.inc.missed : Int)])
          ∧ Answered s t h 0 (res2 0 0) ∧ Frame [.recd, .po, .host] s t))
      ∧ (((s.m.pn P.incidentTriggers 0).testBit 3 = false ∨ s.m.recd.inc.st = .off) → Ready (.incidentTrigger h) s →
          ∃ t, exec (.incidentTrigger h) s = .next t
        ∧ After s t s.m ∧ Answered s t h 0 (res2 0 0))
      ∧ (∀ no, s.m.recd.inc.st = .full →
        (no = s.m.recd.inc.no → Ready (.incidentRearm h no) s → ∃ t, exec (.incidentRearm h no) s = .next t
          ∧ t.m.recd.inc.st = .armed
          ∧ t.m.recd.inc.no = s.m.recd.inc.no ∧ t.m.recd.inc.post = [] ∧ t.m.recd.inc.preMram = []
          ∧ t.m.recd.inc.frameNo = s.m.recd.inc.frameNo
          ∧ Raised s t 0xA005 0 [(no : Int)] ∧ Answered s t h 0 0 ∧ Frame [.recd, .po, .host] s t)
        ∧ (no ≠ s.m.recd.inc.no → Ready (.incidentRearm h no) s → ∃ t, exec (.incidentRearm h no) s = .next t
          ∧ After s t s.m ∧ Answered s t h 0x1B02 0))
      ∧ (∀ no, s.m.recd.inc.st = .recording → Ready (.incidentRearm h no) s →
          ∃ t, exec (.incidentRearm h no) s = .next t ∧ After s t s.m ∧ Answered s t h 0x2B01 0)
      ∧ (∀ no, s.m.recd.inc.st = .armed ∨ s.m.recd.inc.st = .off → Ready (.incidentRearm h no) s →
          ∃ t, exec (.incidentRearm h no) s = .next t ∧ After s t s.m ∧ Answered s t h 0x2B02 0)
      ∧ (s.m.md = .service → s.m.recd.memFault = false → Ready (.sentinelClear h) s →
          ∃ t, exec (.sentinelClear h) s = .next t
        ∧ t.m.recd.sentinel = [] ∧ t.m.recd.sentinelFull = false ∧ Answered s t h 0 0 ∧ Frame [.recd, .host] s t)
      ∧ (s.m.md ≠ .service ∨ s.m.recd.memFault = true → Ready (.sentinelClear h) s →
          ∃ t, exec (.sentinelClear h) s = .next t
        ∧ After s t s.m ∧ Answered s t h 0x2B03 0))


/-! ### 16 Service port and update -/

/-- The verification of an authentication, as a long operation. -/
def Sys2Proof.Safety.verifiesAuth (o : LongOp) : Bool :=
  match o.kind with
  | .auth _ _ _ _ => true
  | _ => false

/-- The service port: one connection, with a version in common (R121, R549); nonces, an authentication that runs as a
long operation and that the checks accept or count, and a lockout after five failures in a row (R139, R550, R551); the
confirmation of the check value (R102); debug access for its time (R552); the report and the certificate, over the
port and over a ring (R546, R547); nothing without a connection, and refusals by mode and by role (R80, R551). A ring
command is taken here as Ready: its descriptor is fetched and next on its ring. Model's choices in it: assumptions 8,
15, 120, 121, 144. -/
def Obligations.ServicePort : Prop :=
  ∀ s : State, s.m.alive = true →
    (∀ major minor prev v, s.m.sec.conn = false → negotiate (ownVer 4) ⟨major, minor, prev⟩ = v →
      ∃ t, exec (.svcConnectionOpen major minor prev) s = .next t
      ∧ t.m.sec.conn = v.isSome ∧ t.m.sec.ver = v ∧ t.m.sec.svcLink = true ∧ t.m.sec.roles = s.m.sec.roles
      ∧ (4 < s.m.host.neg.length → t.m.host.neg.getD 4 none = v)
      ∧ (v = none → Raised s t 0xB00E 0 [(major : Int), (minor : Int)])
      ∧ Frame [.sec, .po, .recd, .host] s t)
    ∧ (∀ major minor prev, s.m.sec.conn = true → exec (.svcConnectionOpen major minor prev) s = .next s)
    ∧ (s.m.sec.conn = true → ∃ t, exec .svcConnectionClose s = .next t ∧ t.m.sec.conn = false ∧ t.m.sec.ver = none
      ∧ t.m.sec.nonces = [] ∧ t.m.sec.roles = none ∧ t.m.sec.debugUntil = none
      ∧ t.m.host.ops = s.m.host.ops.filter (fun o => !verifiesAuth o)
      ∧ (s.m.sec.debugUntil.isSome = true → Raised s t 0xB00C 0 [0, 3]) ∧ Frame [.sec, .obs, .po, .recd, .host] s t)
    ∧ (s.m.sec.conn = false → exec .svcConnectionClose s = .next s)
    ∧ (∀ icmp ip, ∃ t, exec (.svcNetworkFrame icmp ip) s = .next t ∧ t.m.sec.svcLink = true
      ∧ (ip = s.m.pn P.svcIpv4Addr 0 → t.m.fab.sent = s.m.fab.sent ++ [⟨5, b2n icmp, 0, [(ip : Int)], []⟩])
      ∧ (ip ≠ s.m.pn P.svcIpv4Addr 0 → t.m.fab = s.m.fab)
      ∧ Frame [.sec, .fab] s t)
    ∧ (∀ u, s.m.sec.lockUntil = some u → ∃ t, exec .authLockoutExpiry s = .next t
      ∧ t.m.sec = { s.m.sec with lockUntil := none, consecFails := 0 } ∧ t.m.raw = max s.m.raw u
        ∧ Frame [.raw, .sec] s t)
    ∧ (s.m.sec.lockUntil = none → exec .authLockoutExpiry s = .next s)
    ∧ (∀ u, s.m.sec.debugUntil = some u → ∃ t, exec .debugUnlockExpiry s = .next t ∧ t.m.sec.debugUntil = none
      ∧ t.m.raw = max s.m.raw u ∧ t.m.obs.en = [false, false, false, false]
      ∧ Raised s t 0xB00C 0 [0, 1] ∧ Frame [.raw, .sec, .obs, .po, .recd, .host] s t)
    ∧ (s.m.sec.debugUntil = none → exec .debugUnlockExpiry s = .next s)
    ∧ (s.m.svcUp = false → exec .svcChallenge s = .next s ∧ (∀ c n g, exec (.svcAuthenticate c n g) s = .next s)
      ∧ (∀ v, exec (.checkValueConfirm v) s = .next s) ∧ exec .debugUnlock s = .next s ∧ exec .debugLock s = .next s
      ∧ (∀ n len, exec (.attest .svc n len) s = .next s) ∧ ∀ len, exec (.certRead .svc len) s = .next s)
    ∧ (s.m.svcUp = true → s.m.md.reads = false →
      (∃ t, exec .svcChallenge s = .next t
        ∧ t.m.sec = { s.m.sec with resp := s.m.sec.resp ++ [(0xB020, 0x2101, 0)] } ∧ Frame [.sec] s t)
      ∧ (∀ c n g, ∃ t, exec (.svcAuthenticate c n g) s = .next t
        ∧ t.m.sec = { s.m.sec with resp := s.m.sec.resp ++ [(0xB021, 0x2101, 0)] } ∧ Frame [.sec] s t)
      ∧ (∀ v, ∃ t, exec (.checkValueConfirm v) s = .next t
        ∧ t.m.sec = { s.m.sec with resp := s.m.sec.resp ++ [(0xB02A, 0x2101, 0)] } ∧ Frame [.sec] s t)
      ∧ (∃ t, exec .debugUnlock s = .next t
        ∧ t.m.sec = { s.m.sec with resp := s.m.sec.resp ++ [(0xB028, 0x2101, 0)] } ∧ Frame [.sec] s t)
      ∧ (∃ t, exec .debugLock s = .next t
        ∧ t.m.sec = { s.m.sec with resp := s.m.sec.resp ++ [(0xB029, 0x2101, 0)] } ∧ Frame [.sec] s t)
      ∧ (∀ n len, ∃ t, exec (.attest .svc n len) s = .next t
        ∧ t.m.sec = { s.m.sec with resp := s.m.sec.resp ++ [(0xB010, 0x2101, 0)] } ∧ Frame [.sec] s t)
      ∧ (∀ len, ∃ t, exec (.certRead .svc len) s = .next t
        ∧ t.m.sec = { s.m.sec with resp := s.m.sec.resp ++ [(0xB011, 0x2101, 0)] } ∧ Frame [.sec] s t))
    ∧ (s.m.svcUp = true → s.m.md.reads = true →
      (∃ t, exec .svcChallenge s = .next t ∧ t.m.sec = { s.m.sec with
          nonces := s.m.sec.nonces ++ [s.m.sec.nonceCtr], nonceCtr := s.m.sec.nonceCtr + 1,
          resp := s.m.sec.resp ++ [(0xB020, 0, (Config.nonce s.m.sec.nonceCtr : Int))] } ∧ Frame [.sec] s t)
      ∧ (∀ c nonce sig,
        (∀ u, s.m.sec.lockUntil = some u → s.m.raw < u → ∃ t, exec (.svcAuthenticate c nonce sig) s = .next t
          ∧ t.m.sec = { s.m.sec with resp := s.m.sec.resp ++ [(0xB021, 0x2C04, 0)] } ∧ Frame [.sec] s t)
        ∧ (s.m.lockEnd.sec.lockUntil = none → s.m.host.ops.length < 8 →
          ∃ t, exec (.svcAuthenticate c nonce sig) s = .next t
          ∧ t.m.sec = { s.m.lockEnd.sec with nonces := s.m.sec.nonces.filter (fun n => n != nonce) }
          ∧ t.m.host.ops = (s.m.addOp none (.auth c nonce (s.m.sec.nonces.contains nonce) sig) 0).host.ops
          ∧ Frame [.sec, .host] s t)
        ∧ (s.m.lockEnd.sec.lockUntil = none → 8 ≤ s.m.host.ops.length →
          ∃ t, exec (.svcAuthenticate c nonce sig) s = .next t
          ∧ t.m.sec = { s.m.lockEnd.sec with resp := s.m.sec.resp ++ [(0xB021, 0x2002, 0)] } ∧ Frame [.sec] s t))
      ∧ (s.m.sec.roles = none → ∀ v, ∃ t, exec (.checkValueConfirm v) s = .next t
        ∧ t.m.sec = { s.m.sec with resp := s.m.sec.resp ++ [(0xB02A, 0x2C03, 0)] } ∧ Frame [.sec] s t)
      ∧ (s.m.sec.roles = none →
        (∃ t, exec .debugUnlock s = .next t
          ∧ t.m.sec = { s.m.sec with resp := s.m.sec.resp ++ [(0xB028, 0x2C03, 0)] } ∧ Frame [.sec] s t)
        ∧ ∃ t, exec .debugLock s = .next t
          ∧ t.m.sec = { s.m.sec with resp := s.m.sec.resp ++ [(0xB029, 0x2C03, 0)] } ∧ Frame [.sec] s t)
      ∧ (∀ r v, s.m.sec.roles = some r →
        (r.testBit 1 = false → ∃ t, exec (.checkValueConfirm v) s = .next t
          ∧ t.m.sec = { s.m.sec with resp := s.m.sec.resp ++ [(0xB02A, 0x3C02, 0)] } ∧ Frame [.sec] s t)
        ∧ (r.testBit 1 = true → s.m.md ≠ .commission → ∃ t, exec (.checkValueConfirm v) s = .next t
          ∧ t.m.sec = { s.m.sec with resp := s.m.sec.resp ++ [(0xB02A, 0x2101, 0)] } ∧ Frame [.sec] s t)
        ∧ (r.testBit 1 = true → s.m.md = .commission →
          (s.m.nv.computed ≠ some v → ∃ t, exec (.checkValueConfirm v) s = .next t
            ∧ t.m.sec = { s.m.sec with resp := s.m.sec.resp ++ [(0xB02A, 0x3102, 0)] } ∧ Frame [.sec] s t)
          ∧ (∀ e, s.m.nv.computed = some v → s.m.serviceFault s.par = some e →
              ∃ t, exec (.checkValueConfirm v) s = .next t
            ∧ t.m.sec = { s.m.sec with resp := s.m.sec.resp ++ [(0xB02A, e, 0)] } ∧ Frame [.sec] s t)
          ∧ (s.m.nv.computed = some v → s.m.serviceFault s.par = none → ∃ t, exec (.checkValueConfirm v) s = .next t
            ∧ t.m.nv.confirmed = some v ∧ Trig.confirmed ∈ t.m.mode.trigs ∧ t.m.md = .commission
            ∧ t.m.sec = { s.m.sec with resp := s.m.sec.resp ++ [(0xB02A, 0, 0)] } ∧ Frame [.nv, .mode, .sec, .host] s t)))
      ∧ (∀ r, s.m.sec.roles = some r →
        (r.testBit 3 = false → ∃ t, exec .debugUnlock s = .next t
          ∧ t.m.sec = { s.m.sec with resp := s.m.sec.resp ++ [(0xB028, 0x3C02, 0)] } ∧ Frame [.sec] s t)
        ∧ (r.testBit 3 = true → s.m.md.debug = true → ∃ t, exec .debugUnlock s = .next t
          ∧ t.m.sec.debugUntil = some (s.m.raw + s.m.pn P.debugUnlockTime 0 * 12000000000)
          ∧ t.m.sec.debugCount = sat32 (s.m.sec.debugCount + 1)
          ∧ t.m.sec.resp = s.m.sec.resp ++ [(0xB028, 0, (s.m.pn P.debugUnlockTime 0 : Int))]
          ∧ Raised s t 0xB00C 0 [1, 0] ∧ Frame [.sec, .po, .recd, .host] s t)
        ∧ (r.testBit 3 = true → s.m.md.debug = false → ∃ t, exec .debugUnlock s = .next t
          ∧ t.m.sec = { s.m.sec with resp := s.m.sec.resp ++ [(0xB028, 0x2101, 0)] } ∧ Frame [.sec] s t)
        ∧ (r.testBit 0 = false → ∃ t, exec .debugLock s = .next t
          ∧ t.m.sec = { s.m.sec with resp := s.m.sec.resp ++ [(0xB029, 0x3C02, 0)] } ∧ Frame [.sec] s t)
        ∧ (r.testBit 0 = true → s.m.sec.debugUntil = none → ∃ t, exec .debugLock s = .next t
          ∧ t.m.sec = { s.m.sec with resp := s.m.sec.resp ++ [(0xB029, 0, 0)] } ∧ Frame [.sec] s t)
        ∧ (∀ u, r.testBit 0 = true → s.m.sec.debugUntil = some u → ∃ t, exec .debugLock s = .next t
          ∧ t.m.sec.debugUntil = none ∧ t.m.obs.en = [false, false, false, false]
          ∧ t.m.sec.resp = s.m.sec.resp ++ [(0xB029, 0, 0)]
          ∧ Raised s t 0xB00C 0 [0, 2] ∧ Frame [.sec, .obs, .po, .recd, .host] s t)))
    ∧ (∀ slot o r c nonce fresh sig, s.m.host.ops[slot]? = some o → s.m.turnSlot = some slot → s.m.runs 7 = true →
      o.kind = .auth c nonce fresh sig → r.last = true → ∃ t, exec (.longOpStep slot r) s = .next t
      ∧ t.m.host.ops = s.m.host.ops.eraseIdx slot ∧ t.m.sec.nonces = s.m.sec.nonces
      ∧ (s.m.authOk c nonce fresh sig = true →
          t.m.sec.roles = some (c.roles % 16) ∧ t.m.sec.consecFails = 0 ∧ t.m.sec.timeUnchecked = !s.m.trusted
          ∧ t.m.sec.authFails = s.m.sec.authFails
          ∧ t.m.sec.resp = s.m.sec.resp ++ [(0xB021, 0, ((c.roles % 16 : Nat) : Int))]
          ∧ Raised s t 0xB00B 0 [0, ((c.roles % 16 : Nat) : Int), ((c.subject % 4294967296 : Nat) : Int)])
      ∧ (s.m.authOk c nonce fresh sig = false →
          t.m.sec.roles = s.m.sec.roles ∧ t.m.sec.consecFails = s.m.sec.consecFails + 1
          ∧ t.m.sec.lockUntil
            = (if 5 ≤ s.m.sec.consecFails + 1 then some (s.m.raw + 12000000000) else s.m.sec.lockUntil)
          ∧ t.m.sec.authFails = sat32 (s.m.sec.authFails + 1)
          ∧ t.m.sec.resp = s.m.sec.resp ++ [(0xB021, 0x3C01, 0)]
          ∧ Raised s t 0xB00B 0 [1, 0, ((c.subject % 4294967296 : Nat) : Int)])
      ∧ Frame [.sec, .po, .recd, .host] s t)
    ∧ (s.m.md.reads = true → ∀ (h : Hdr) nonce,
      (∀ len, Ready (.attest (.ring h) nonce len) s →
        (len < 50368 → ∃ t, exec (.attest (.ring h) nonce len) s = .next t ∧ After s t s.m ∧ Answered s t h 0x1006 0)
        ∧ (50368 ≤ len → s.m.host.ops.length < 8 → ∃ t, exec (.attest (.ring h) nonce len) s = .next t
          ∧ t.m.host.ops = (s.m.addOp (some h) (.attest (s.m.attBody s.boot nonce)) 300).host.ops ∧ Frame [.host] s t)
        ∧ (50368 ≤ len → 8 ≤ s.m.host.ops.length → ∃ t, exec (.attest (.ring h) nonce len) s = .next t
          ∧ After s t s.m ∧ Answered s t h 0x2002 0))
      ∧ (∀ len, s.m.svcUp = true →
        (s.m.host.ops.length < 8 → ∃ t, exec (.attest .svc nonce len) s = .next t
          ∧ t.m.host.ops = (s.m.addOp none (.attest (s.m.attBody s.boot nonce)) 300).host.ops ∧ Frame [.host] s t)
        ∧ (8 ≤ s.m.host.ops.length → ∃ t, exec (.attest .svc nonce len) s = .next t
          ∧ t.m.sec = { s.m.sec with resp := s.m.sec.resp ++ [(0xB010, 0x2002, 0)] } ∧ Frame [.sec] s t))
      ∧ (∀ len, len < 30048 → Ready (.certRead (.ring h) len) s → ∃ t, exec (.certRead (.ring h) len) s = .next t
        ∧ After s t s.m ∧ Answered s t h 0x1006 0)
      ∧ (∀ len, 30048 ≤ len → Ready (.certRead (.ring h) len) s → ∃ t, exec (.certRead (.ring h) len) s = .next t
        ∧ After s t s.m
        ∧ Gave s t h { status := 0, buf := fitBytes 30048 Config.identityCert })
      ∧ (∀ len, s.m.svcUp = true → ∃ t, exec (.certRead .svc len) s = .next t
        ∧ t.m.sec = { s.m.sec with
            resp := s.m.sec.resp ++ [(0xB011, 0, (ofLe (fitBytes 30048 Config.identityCert) : Int))] } ∧ Frame [.sec] s t))

/-- A firmware update (R560 to R566, R568): the header's checks, the data in order, the verification as a long
operation, the activation as a trial, its confirmation, which alone raises the rollback counter, its abort; refusals
by stage, by role and by mode; a trial window that ends falls back to the previous image as soon as R563 holds, an
idle session ends; what the holder of the pair's session passes on runs here without an answer, the twin's header
opens the module to the twin's session or loses to an earlier one, and the SHADOW activates first (R568, R569). A ring
command is taken here as Ready: its descriptor is fetched and next on its ring. Model's choices in it: assumptions 8,
122, 123, 130, 144. -/
def Obligations.FirmwareUpdate : Prop :=
  ∀ s : State, s.m.alive = true →
    (s.m.svcUp = true → s.m.md.reads = true → s.m.fw.source ≠ 2 → ∀ e, s.m.grantFault (some 2) = some e →
      (∀ i, ∃ t, exec (.updateHeader i) s = .next t ∧ t.boot = s.boot
        ∧ t.m.sec = { s.m.sec with resp := s.m.sec.resp ++ [(0xB022, e, 0)] } ∧ Frame [.sec] s t)
      ∧ (∀ off data rb, ∃ t, exec (.updateData off data rb) s = .next t
        ∧ t.m.sec = { s.m.sec with resp := s.m.sec.resp ++ [(0xB023, e, 0)] } ∧ Frame [.sec] s t)
      ∧ (∃ t, exec .updateVerify s = .next t
        ∧ t.m.sec = { s.m.sec with resp := s.m.sec.resp ++ [(0xB024, e, 0)] } ∧ Frame [.sec] s t)
      ∧ (∃ t, exec .updateActivate s = .next t
        ∧ t.m.sec = { s.m.sec with resp := s.m.sec.resp ++ [(0xB025, e, 0)] } ∧ Frame [.sec] s t)
      ∧ (∃ t, exec .updateConfirm s = .next t
        ∧ t.m.sec = { s.m.sec with resp := s.m.sec.resp ++ [(0xB026, e, 0)] } ∧ Frame [.sec] s t)
      ∧ (∃ t, exec .updateAbort s = .next t
        ∧ t.m.sec = { s.m.sec with resp := s.m.sec.resp ++ [(0xB027, e, 0)] } ∧ Frame [.sec] s t))
    ∧ (s.m.svcUp = false → (s.m.fw.source ≠ 2 ∨ s.m.tw.pairFormed = false) →
      (∀ i, exec (.updateHeader i) s = .next s) ∧ (∀ off data rb, exec (.updateData off data rb) s = .next s)
      ∧ exec .updateVerify s = .next s ∧ exec .updateActivate s = .next s ∧ exec .updateConfirm s = .next s
      ∧ exec .updateAbort s = .next s)
    ∧ (s.m.svcUp = true → s.m.md.reads = false → s.m.fw.source ≠ 2 →
      (∀ i, ∃ t, exec (.updateHeader i) s = .next t ∧ t.m.fw.stage = s.m.fw.stage
        ∧ t.m.sec.resp = s.m.sec.resp ++ [(0xB022, 0x2101, 0)] ∧ Frame [.fw, .sec] s t)
      ∧ (∀ off data rb, ∃ t, exec (.updateData off data rb) s = .next t ∧ t.m.fw.stage = s.m.fw.stage
        ∧ t.m.sec.resp = s.m.sec.resp ++ [(0xB023, 0x2101, 0)] ∧ Frame [.fw, .sec] s t)
      ∧ (∃ t, exec .updateVerify s = .next t ∧ t.m.fw.stage = s.m.fw.stage
        ∧ t.m.sec.resp = s.m.sec.resp ++ [(0xB024, 0x2101, 0)] ∧ Frame [.fw, .sec] s t)
      ∧ (∃ t, exec .updateActivate s = .next t ∧ t.m.fw.stage = s.m.fw.stage
        ∧ t.m.sec.resp = s.m.sec.resp ++ [(0xB025, 0x2101, 0)] ∧ Frame [.fw, .sec] s t)
      ∧ (∃ t, exec .updateConfirm s = .next t ∧ t.m.fw.stage = s.m.fw.stage
        ∧ t.m.sec.resp = s.m.sec.resp ++ [(0xB026, 0x2101, 0)] ∧ Frame [.fw, .sec] s t)
      ∧ (∃ t, exec .updateAbort s = .next t ∧ t.m.fw.stage = s.m.fw.stage
        ∧ t.m.sec.resp = s.m.sec.resp ++ [(0xB027, 0x2101, 0)] ∧ Frame [.fw, .sec] s t))
    ∧ (∀ r i, s.m.svcUp = true → s.m.md.reads = true → s.m.sec.roles = some r → r.testBit 2 = true → s.m.fw.source = 2 →
      ∃ t, exec (.updateHeader i) s = .next t ∧ t.m.fw.stage = s.m.fw.stage ∧ t.m.fw.source = 2
      ∧ t.m.fw.lastCmd = s.m.raw ∧ Raised s t 0xB002 0 [1, 0x2C01]
      ∧ t.m.sec.resp = s.m.sec.resp ++ [(0xB022, 0x2C01, 0)] ∧ Frame [.fw, .sec, .po, .recd, .host] s t)
    ∧ (∀ r, s.m.svcUp = true → s.m.md.reads = true → s.m.sec.roles = some r → r.testBit 2 = true → s.m.fw.source ≠ 2 →
      (∀ (i : ImgHdr), s.m.fw.stage = 0 ∨ s.m.fw.stage = 7 →
        (s.m.hdrFault s.boot i = none → s.boot.target < s.boot.slots.length → ∃ t, exec (.updateHeader i) s = .next t
          ∧ t.m.fw.stage = 2 ∧ t.m.fw.source = 1 ∧ t.m.fw.target = some s.boot.target ∧ t.m.fw.offset = 1024
          ∧ t.m.fw.fileLen = 1024 + i.bodyLength + 29792 ∧ t.m.fw.acceptedAt = s.m.raw ∧ t.m.fw.lastCmd = s.m.raw
          ∧ t.boot = { s.boot with slots := t.boot.slots } ∧ t.boot.slot s.boot.target = ⟨0, some i, []⟩
          ∧ (∀ k, k ≠ s.boot.target → t.boot.slot k = s.boot.slot k)
          ∧ Raised s t 0xB001 s.boot.target [1, (i.fwVersion : Int)]
          ∧ t.m.sec.resp = s.m.sec.resp ++ [(0xB022, if t.m.fw.pairSession = s.m.tw.pairFormed then 0 else 0x0060, (s.boot.target : Int))]
          ∧ (s.m.tw.pairFormed = true → ∃ x ∈ t.m.fab.sent.drop s.m.fab.sent.length, x.link = 4 ∧ x.kind = 11)
          ∧ (s.m.tw.pairFormed = false → t.m.fw.pairSession = false ∧ t.m.freeCtr = s.m.freeCtr ∧ t.m.fab = s.m.fab)
          ∧ Frame [.fw, .sec, .fab, .freeCtr, .po, .recd, .host] { s with boot := t.boot } t)
        ∧ (∀ e, s.m.hdrFault s.boot i = some e → ∃ t, exec (.updateHeader i) s = .next t
          ∧ t.m.fw.stage = s.m.fw.stage ∧ t.m.fw.lastStatus = e ∧ Raised s t 0xB002 0 [1, (e : Int)]
          ∧ t.m.sec.resp = s.m.sec.resp ++ [(0xB022, e, 0)] ∧ Frame [.fw, .sec, .po, .recd, .host] s t))
      ∧ (∀ (i : ImgHdr), s.m.fw.stage ≠ 0 → s.m.fw.stage ≠ 7 → ∃ t, exec (.updateHeader i) s = .next t
        ∧ t.m.fw.stage = s.m.fw.stage ∧ Raised s t 0xB002 0 [1, 0x2C02]
        ∧ t.m.sec.resp = s.m.sec.resp ++ [(0xB022, 0x2C02, 0)]
        ∧ Frame [.fw, .sec, .po, .recd, .host] s t)
      ∧ (∀ off data rb, s.m.fw.stage ≠ 2 → ∃ t, exec (.updateData off data rb) s = .next t
        ∧ t.m.fw.offset = s.m.fw.offset ∧ t.m.fw.stage = s.m.fw.stage
        ∧ t.m.sec.resp = s.m.sec.resp ++ [(0xB023, 0x2C02, 0)] ∧ Frame [.fw, .sec] s t)
      ∧ (∀ k off data, s.m.fw.stage = 2 → s.m.fw.target = some k → k < s.boot.slots.length →
        (∀ e rb, (off ≠ s.m.fw.offset ∧ e = 0x1C08)
            ∨ (off = s.m.fw.offset ∧ (data = [] ∨ 65536 < data.length) ∧ e = 0x1003)
            ∨ (off = s.m.fw.offset ∧ data ≠ [] ∧ data.length ≤ 65536 ∧ s.m.fw.fileLen < off + data.length ∧ e = 0x1C05) →
          ∃ t, exec (.updateData off data rb) s = .next t ∧ t.m.fw.offset = s.m.fw.offset ∧ t.m.fw.stage = 2
          ∧ t.m.sec.resp = s.m.sec.resp ++ [(0xB023, e, (s.m.fw.offset : Int))] ∧ Frame [.fw, .sec] s t)
        ∧ (off = s.m.fw.offset → data ≠ [] → data.length ≤ 65536 →
          (off + data.length < s.m.fw.fileLen → ∃ t, exec (.updateData off data true) s = .next t
            ∧ t.m.fw.offset = off + data.length ∧ t.m.fw.stage = 2
            ∧ t.m.fw.offsetMram = max s.m.fw.offsetMram ((off + data.length) / 65536 * 65536)
            ∧ (t.boot.slot k).content = (s.boot.slot k).content.take (off - 1024) ++ data
            ∧ (t.boot.slot k).st = (s.boot.slot k).st
            ∧ t.m.sec.resp = s.m.sec.resp ++ [(0xB023, 0, ((off + data.length : Nat) : Int))]
            ∧ (s.m.fw.pairSession = true → s.m.tw.pairFormed = true → s.m.fw.source = 1 →
              ∃ x ∈ t.m.fab.sent.drop s.m.fab.sent.length, x.link = 4 ∧ x.kind = 11
                ∧ x.body = (off : Int) :: data.map (fun b => (b.toNat : Int)))
            ∧ (s.m.fw.pairSession = false → t.m.fab = s.m.fab)
            ∧ Frame [.fw, .sec, .fab] { s with boot := t.boot } t)
          ∧ (off + data.length = s.m.fw.fileLen → ∃ t, exec (.updateData off data true) s = .next t
            ∧ t.m.fw.stage = 3 ∧ (t.boot.slot k).st = 1 ∧ t.m.fw.offsetMram = off + data.length
            ∧ (t.boot.slot k).content = (s.boot.slot k).content.take (off - 1024) ++ data
            ∧ Raised s t 0xB003 k [((off + data.length : Nat) : Int)]
            ∧ t.m.sec.resp = s.m.sec.resp ++ [(0xB023, 0, ((off + data.length : Nat) : Int))]
            ∧ (s.m.fw.pairSession = false → t.m.fab = s.m.fab)
            ∧ Frame [.fw, .sec, .fab, .po, .recd, .host] { s with boot := t.boot } t)
          ∧ (off + data.length ≤ s.m.fw.fileLen → ∃ t, exec (.updateData off data false) s = .next t
            ∧ t.m.fw.stage = 7 ∧ t.m.fw.offset = s.m.fw.offset ∧ (t.boot.slot k).st = 3 ∧ Raised s t 0xB004 k [2]
            ∧ t.m.sec.resp = s.m.sec.resp ++ [(0xB023, 0x4C02, (off : Int))]
            ∧ Frame [.fw, .sec, .po, .recd, .host] { s with boot := t.boot } t)))
      ∧ (s.m.fw.stage = 3 → s.m.host.ops.length < 8 → ∃ t, exec .updateVerify s = .next t ∧ t.m.fw.stage = 4
        ∧ t.m.host.ops = (s.m.addOp none .updateVerify 6000).host.ops ∧ Frame [.fw, .host] s t)
      ∧ (s.m.fw.stage = 3 → 8 ≤ s.m.host.ops.length → ∃ t, exec .updateVerify s = .next t ∧ t.m.fw.stage = 3
        ∧ t.m.sec.resp = s.m.sec.resp ++ [(0xB024, 0x2002, 0)] ∧ Frame [.fw, .sec] s t)
      ∧ (s.m.fw.stage ≠ 3 → ∃ t, exec .updateVerify s = .next t ∧ t.m.fw.stage = s.m.fw.stage
        ∧ t.m.sec.resp = s.m.sec.resp ++ [(0xB024, 0x2C02, 0)] ∧ Frame [.fw, .sec] s t)
      ∧ (s.m.actTarget s.boot = none → ∃ t, exec .updateActivate s = .next t ∧ t.m.fw.stage = s.m.fw.stage
        ∧ t.m.sec.resp = s.m.sec.resp ++ [(0xB025, 0x2C02, 0)] ∧ Frame [.fw, .sec] s t)
      ∧ (∀ k, s.m.actTarget s.boot = some k →
        (∀ c, s.m.actReady = c → c ≠ 0 → ∃ t, exec .updateActivate s = .next t ∧ t.m.fw.stage = s.m.fw.stage
          ∧ t.m.sec.resp = s.m.sec.resp ++ [(0xB025, 0x2C08, (c : Int))] ∧ Frame [.fw, .sec] s t)
        ∧ (s.m.actReady = 0 → ∃ t, exec .updateActivate s = .next t
          ∧ t.m.sec.resp = s.m.sec.resp ++ [(0xB025, 0, (((s.boot.seq + 1) % 4294967296 : Nat) : Int))]
          ∧ (s.m.passes = true → ∃ x ∈ t.m.fab.sent.drop s.m.fab.sent.length, x.link = 4 ∧ x.kind = 11 ∧ x.body = [0xB025])
          ∧ (s.m.passes = true → s.m.tw.peerMode = 6 → t.m.fw.stage = 5 ∧ t.m.fw.target = some k ∧ t.m.fw.twinAct = 1
            ∧ t.boot = s.boot ∧ Frame [.fw, .sec, .fab] s t)
          ∧ (s.m.passes = false ∨ s.m.tw.peerMode ≠ 6 →
            (s.m.tw.handover.isSome = true → t.boot = s.boot ∧ t.m.fw.stage = s.m.fw.stage ∧ Frame [.fw, .sec, .fab] s t)
            ∧ (s.m.tw.handover = none → s.m.md = .activeClosed → s.m.tw.pairFormed = true → s.m.canRelinquish = true →
              t.boot = s.boot ∧ t.m.fw.stage = 5 ∧ t.m.fw.target = some k ∧ t.m.fw.pauseDue = s.m.fw.pauseDue
              ∧ t.m.tw.handover.map (fun x => x.2) = some (3, true)
              ∧ Frame [.fw, .sec, .fab, .tw, .po, .recd, .host] s t)
            ∧ (s.m.tw.handover = none →
              (s.m.md ≠ .activeClosed ∨ s.m.tw.pairFormed = false ∨ s.m.canRelinquish = false) →
              t.m.fw.stage = 6 ∧ t.m.fw.pauseDue = true ∧ t.boot.current = k ∧ t.boot.trial = true
              ∧ (s.m.fw.pairSession = false → t.m.fab = s.m.fab)
              ∧ t.boot.previous = some s.boot.current ∧ t.boot.seq = s.boot.seq + 1 ∧ t.boot.older = s.boot.record
              ∧ t.boot.curDigest = s.boot.digest k ∧ t.boot.prevDigest = s.boot.curDigest ∧ t.boot.trialFails = 0
              ∧ t.boot.antiRollback = s.boot.antiRollback ∧ t.boot.slots = s.boot.slots ∧ t.boot.revoked = s.boot.revoked
              ∧ Raised s t 0xB005 k [((t.boot.seq % 4294967296 : Nat) : Int)]
              ∧ Frame [.fw, .sec, .start, .fab, .po, .recd, .host] { s with boot := t.boot } t))))
      ∧ (∀ (i : ImgHdr) u, s.m.fw.trial = true → s.boot.trial = true → s.m.fw.windowEnd = some u → s.m.raw < u →
        s.m.fw.fallbackDue = false → (s.boot.slot s.boot.current).hdr = some i → ∃ t, exec .updateConfirm s = .next t
        ∧ t.m.fw.trial = false ∧ t.m.fw.windowEnd = none ∧ t.m.fw.stage = 0
        ∧ t.boot = { s.boot with
            seq := s.boot.seq + 1, trial := false, antiRollback := max s.boot.antiRollback i.antiRollback,
            revoked := t.boot.revoked, older := s.boot.record }
        ∧ (∀ j, j < 4 → t.boot.revoked.getLsbD j
            = (s.boot.revoked.getLsbD j || (i.revokeMask.testBit j && decide (j ≠ i.keyId))))
        ∧ Raised s t 0xB007 s.boot.current [(s.m.fw.version : Int), (t.boot.antiRollback : Int)]
        ∧ t.m.sec.resp = s.m.sec.resp ++ [(0xB026, 0, (t.boot.antiRollback : Int))]
        ∧ Raised s t 0xB009 0 [1] ∧ Frame [.fw, .sec, .po, .recd, .host] { s with boot := t.boot } t)
      ∧ (s.m.fw.trial = false ∨ s.boot.trial = false ∨ s.m.fw.fallbackDue = true
          ∨ s.m.fw.windowEnd.all (fun u => decide (u ≤ s.m.raw)) = true ∨ (s.boot.slot s.boot.current).hdr = none →
        ∃ t, exec .updateConfirm s = .next t ∧ t.m.fw.trial = s.m.fw.trial
        ∧ t.m.sec.resp = s.m.sec.resp ++ [(0xB026, 0x2C07, 0)] ∧ Frame [.fw, .sec] s t)
      ∧ (s.m.fw.stage ≠ 0 → s.m.fw.stage ≠ 6 → ∃ t, exec .updateAbort s = .next t ∧ t.m.fw.stage = 0 ∧ t.m.fw.target = none
        ∧ t.m.fw.source = 0 ∧ t.boot = { s.boot with slots := t.boot.slots }
        ∧ (∀ k, s.m.fw.target = some k → k < s.boot.slots.length → (t.boot.slot k).st = 3)
        ∧ (∀ k, s.m.fw.target ≠ some k → t.boot.slot k = s.boot.slot k)
        ∧ t.m.host.ops = s.m.host.ops.filter (fun o => !decide (o.kind = .updateVerify))
        ∧ Raised s t 0xB009 0 [3] ∧ t.m.sec.resp = s.m.sec.resp ++ [(0xB027, 0, 0)]
        ∧ Frame [.fw, .sec, .po, .recd, .host] { s with boot := t.boot } t)
      ∧ (s.m.fw.stage = 0 ∨ s.m.fw.stage = 6 → ∃ t, exec .updateAbort s = .next t
        ∧ t.m.sec.resp = s.m.sec.resp ++ [(0xB027, 0x2C02, 0)] ∧ Frame [.fw, .sec] s t))
    ∧ (s.m.fw.source = 2 → s.m.tw.pairFormed = true → s.m.md.reads = true → ∀ k, s.m.fw.target = some k →
      k < s.boot.slots.length →
      (∀ off data, s.m.fw.stage = 2 → off = s.m.fw.offset → data ≠ [] → data.length ≤ 65536 →
        off + data.length < s.m.fw.fileLen → ∃ t, exec (.updateData off data true) s = .next t
        ∧ t.m.fw.offset = off + data.length ∧ (t.boot.slot k).content = (s.boot.slot k).content.take (off - 1024) ++ data
        ∧ Frame [.fw] { s with boot := t.boot } t)
      ∧ (s.m.fw.stage = 3 → s.m.host.ops.length < 8 → ∃ t, exec .updateVerify s = .next t ∧ t.m.fw.stage = 4
        ∧ t.m.host.ops = (s.m.addOp none .updateVerify 6000).host.ops ∧ Frame [.fw, .host] s t)
      ∧ (s.m.actTarget s.boot = some k → s.m.actReady = 0 → s.m.md = .shadow → s.m.tw.handover = none →
        ∃ t, exec .updateActivate s = .next t ∧ t.m.fw.stage = 6 ∧ t.m.fw.pauseDue = true ∧ t.boot.current = k
        ∧ t.boot.trial = true ∧ Raised s t 0xB005 k [((t.boot.seq % 4294967296 : Nat) : Int)]
        ∧ Frame [.fw, .start, .po, .recd, .host] { s with boot := t.boot } t)
      ∧ (s.m.fw.stage ≠ 0 → s.m.fw.stage ≠ 6 → ∃ t, exec .updateAbort s = .next t ∧ t.m.fw.stage = 0
        ∧ (t.boot.slot k).st = 3 ∧ Raised s t 0xB009 0 [3] ∧ Frame [.fw, .po, .recd, .host] { s with boot := t.boot } t))
    ∧ (∀ slot o r k, s.m.host.ops[slot]? = some o → s.m.turnSlot = some slot → s.m.runs 7 = true →
      o.kind = .updateVerify → r.last = true → s.m.fw.target = some k → k < s.boot.slots.length →
      (s.boot.slotGood k = true → ∃ t, exec (.longOpStep slot r) s = .next t ∧ t.m.fw.stage = 5 ∧ (t.boot.slot k).st = 2
        ∧ (t.boot.slot k).content = (s.boot.slot k).content ∧ Raised s t 0xB004 k [0]
        ∧ t.m.sec.resp = s.m.sec.resp ++ [(0xB024, 0, ((s.boot.digest k).toNat : Int))]
        ∧ t.m.host.ops = s.m.host.ops.eraseIdx slot
        ∧ Frame [.fw, .sec, .po, .recd, .host] { s with boot := t.boot } t)
      ∧ (s.boot.slotGood k = false → ∃ t, exec (.longOpStep slot r) s = .next t ∧ t.m.fw.stage = 2
        ∧ t.m.fw.offset = 1024 ∧ (t.boot.slot k).st = 3 ∧ (t.boot.slot k).content = [] ∧ Raised s t 0xB004 k [1]
        ∧ t.m.sec.resp = s.m.sec.resp ++ [(0xB024, 0x4C01, 0)] ∧ t.m.host.ops = s.m.host.ops.eraseIdx slot
        ∧ Frame [.fw, .sec, .po, .recd, .host] { s with boot := t.boot } t))
    ∧ (∀ u k, s.m.fw.trial = true → s.boot.trial = true → s.m.fw.windowEnd = some u → s.boot.previous = some k →
      k < s.boot.slots.length → ∃ t, exec .trialWindowExpiry s = .next t ∧ t.m.raw = max s.m.raw u
      ∧ t.m.fw.windowEnd = none ∧ t.boot.antiRollback = s.boot.antiRollback
      ∧ (s.boot.slotGood k = false → (t.boot.slot k).st = 3 ∧ t.boot = { s.boot with slots := t.boot.slots }
        ∧ t.m.fw.trial = true ∧ Frame [.raw, .fw] { s with boot := t.boot } t)
      ∧ (s.boot.slotGood k = true → (s.m.advance u).actReady ≠ 0 → t.m.fw.fallbackDue = true ∧ t.boot = s.boot
        ∧ Frame [.raw, .fw, .start] s t)
      ∧ (s.boot.slotGood k = true → (s.m.advance u).actReady = 0 →
        (s.m.tw.handover.isSome = true → t.m.fw.fallbackDue = true ∧ t.boot = s.boot)
        ∧ (s.m.tw.handover = none → s.m.md = .activeClosed → s.m.tw.pairFormed = true → s.m.canRelinquish = true →
          t.m.fw.fallbackDue = true ∧ t.boot = s.boot ∧ t.m.tw.handover.map (fun x => x.2) = some (3, true))
        ∧ (s.m.tw.handover = none →
          (s.m.md ≠ .activeClosed ∨ s.m.tw.pairFormed = false ∨ s.m.canRelinquish = false) →
          t.boot.current = k ∧ t.boot.trial = false ∧ t.boot.seq = s.boot.seq + 1 ∧ t.boot.older = s.boot.record
          ∧ t.boot.slots = s.boot.slots ∧ t.m.fw.pauseDue = true ∧ t.m.fw.stage = 0 ∧ t.m.fw.fallbackDue = false
          ∧ Raised s t 0xB005 k [((t.boot.seq % 4294967296 : Nat) : Int)]
          ∧ Raised s t 0xB008 k [1]))
      ∧ Frame [.raw, .fw, .start, .fab, .tw, .po, .recd, .host] { s with boot := t.boot } t)
    ∧ (s.m.fw.windowEnd = none ∨ s.m.fw.trial = false ∨ s.boot.trial = false → exec .trialWindowExpiry s = .next s)
    ∧ (s.m.fw.stage ≠ 0 → s.m.fw.stage ≠ 6 → s.m.fw.trial = false → ∃ t, exec .updateIdleTimeout s = .next t
      ∧ t.m.fw.stage = 0 ∧ t.m.fw.source = 0
      ∧ t.m.raw = max s.m.raw (s.m.fw.lastCmd + s.m.pn P.updateIdleTimeout 0 * 12000000000)
      ∧ Raised s t 0xB009 0 [4] ∧ Frame [.raw, .fw, .po, .recd, .host] s t)
    ∧ (s.m.fw.stage = 0 ∨ s.m.fw.stage = 6 ∨ s.m.fw.trial = true → exec .updateIdleTimeout s = .next s)
    ∧ (∀ (i : ImgHdr) u wins, s.m.md.reads = true → s.m.tw.pairFormed = true →
      (decide (s.m.fw.stage = 0) || decide (s.m.fw.source = 1) && decide (s.m.fw.stage ≠ 6)
        && (decide (s.m.mapped u < s.m.fw.acceptedAt)
          || decide (s.m.mapped u = s.m.fw.acceptedAt) && !s.m.primary)) = wins →
      (wins = true → s.m.hdrFault s.boot i = none → s.boot.target < s.boot.slots.length →
        ∃ t, exec (.twinUpdateForwardRx i u) s = .next t ∧ t.m.fw.stage = 2 ∧ t.m.fw.source = 2
        ∧ t.m.fw.target = some s.boot.target ∧ t.m.fw.acceptedAt = s.m.mapped u
        ∧ t.boot.slot s.boot.target = ⟨0, some i, []⟩
        ∧ (s.m.fw.stage ≠ 0 → Raised s t 0xB009 0 [5])
        ∧ Raised s t 0xB001 s.boot.target [2, (i.fwVersion : Int)]
        ∧ Frame [.fw, .po, .recd, .host] { s with boot := t.boot } t)
      ∧ (∀ e, wins = true → s.m.hdrFault s.boot i = some e → ∃ t, exec (.twinUpdateForwardRx i u) s = .next t
        ∧ t.m.fw.stage = s.m.fw.stage ∧ t.m.fw.source = s.m.fw.source ∧ Raised s t 0xB002 0 [2, (e : Int)]
        ∧ Frame [.fw, .po, .recd, .host] s t)
      ∧ (wins = false → ∃ t, exec (.twinUpdateForwardRx i u) s = .next t
        ∧ t.m.fw = s.m.fw ∧ Raised s t 0xB002 0 [2, 0x2C01] ∧ Frame [.po, .recd, .host] s t))
    ∧ (∀ i u, s.m.tw.pairFormed = false ∨ s.m.md.reads = false → exec (.twinUpdateForwardRx i u) s = .next s)
end

