-- ==== Sys2Proof/Laws/State.lean ====
section
/-! SUPPORT. What each update of the module leaves alone, field by field, and what it sets: no later proof unfolds a
record update. -/
namespace Sys2Proof.Machine

@[simp] theorem Mod.onHost_id (m : Mod) (f : HostSt → HostSt) : (m.onHost f).id = m.id := rfl
@[simp] theorem Mod.onHost_raw (m : Mod) (f : HostSt → HostSt) : (m.onHost f).raw = m.raw := rfl
@[simp] theorem Mod.onHost_tickAt (m : Mod) (f : HostSt → HostSt) : (m.onHost f).tickAt = m.tickAt := rfl
@[simp] theorem Mod.onHost_sup (m : Mod) (f : HostSt → HostSt) : (m.onHost f).sup = m.sup := rfl
@[simp] theorem Mod.onHost_gov (m : Mod) (f : HostSt → HostSt) : (m.onHost f).gov = m.gov := rfl
@[simp] theorem Mod.onHost_clk (m : Mod) (f : HostSt → HostSt) : (m.onHost f).clk = m.clk := rfl
@[simp] theorem Mod.onHost_mode (m : Mod) (f : HostSt → HostSt) : (m.onHost f).mode = m.mode := rfl
@[simp] theorem Mod.onHost_start (m : Mod) (f : HostSt → HostSt) : (m.onHost f).start = m.start := rfl
@[simp] theorem Mod.onHost_srst (m : Mod) (f : HostSt → HostSt) : (m.onHost f).srst = m.srst := rfl
@[simp] theorem Mod.onHost_nv (m : Mod) (f : HostSt → HostSt) : (m.onHost f).nv = m.nv := rfl
@[simp] theorem Mod.onHost_obs (m : Mod) (f : HostSt → HostSt) : (m.onHost f).obs = m.obs := rfl
@[simp] theorem Mod.onHost_live (m : Mod) (f : HostSt → HostSt) : (m.onHost f).live = m.live := rfl
@[simp] theorem Mod.onHost_due (m : Mod) (f : HostSt → HostSt) : (m.onHost f).due = m.due := rfl
@[simp] theorem Mod.onHost_ax (m : Mod) (f : HostSt → HostSt) : (m.onHost f).ax = m.ax := rfl
@[simp] theorem Mod.onHost_po (m : Mod) (f : HostSt → HostSt) : (m.onHost f).po = m.po := rfl
@[simp] theorem Mod.onHost_side (m : Mod) (f : HostSt → HostSt) : (m.onHost f).side = m.side := rfl
@[simp] theorem Mod.onHost_ob (m : Mod) (f : HostSt → HostSt) : (m.onHost f).ob = m.ob := rfl
@[simp] theorem Mod.onHost_saf (m : Mod) (f : HostSt → HostSt) : (m.onHost f).saf = m.saf := rfl
@[simp] theorem Mod.onHost_time (m : Mod) (f : HostSt → HostSt) : (m.onHost f).time = m.time := rfl
@[simp] theorem Mod.onHost_recd (m : Mod) (f : HostSt → HostSt) : (m.onHost f).recd = m.recd := rfl
@[simp] theorem Mod.onHost_io (m : Mod) (f : HostSt → HostSt) : (m.onHost f).io = m.io := rfl
@[simp] theorem Mod.onHost_txn (m : Mod) (f : HostSt → HostSt) : (m.onHost f).txn = m.txn := rfl
@[simp] theorem Mod.onHost_can (m : Mod) (f : HostSt → HostSt) : (m.onHost f).can = m.can := rfl
@[simp] theorem Mod.onHost_fab (m : Mod) (f : HostSt → HostSt) : (m.onHost f).fab = m.fab := rfl
@[simp] theorem Mod.onHost_tw (m : Mod) (f : HostSt → HostSt) : (m.onHost f).tw = m.tw := rfl
@[simp] theorem Mod.onHost_sec (m : Mod) (f : HostSt → HostSt) : (m.onHost f).sec = m.sec := rfl
@[simp] theorem Mod.onHost_fw (m : Mod) (f : HostSt → HostSt) : (m.onHost f).fw = m.fw := rfl
@[simp] theorem Mod.onHost_freeCtr (m : Mod) (f : HostSt → HostSt) : (m.onHost f).freeCtr = m.freeCtr := rfl
@[simp] theorem Mod.onHost_host (m : Mod) (f : HostSt → HostSt) : (m.onHost f).host = f m.host := rfl

@[simp] theorem Mod.onRec_id (m : Mod) (f : RecSt → RecSt) : (m.onRec f).id = m.id := rfl
@[simp] theorem Mod.onRec_raw (m : Mod) (f : RecSt → RecSt) : (m.onRec f).raw = m.raw := rfl
@[simp] theorem Mod.onRec_tickAt (m : Mod) (f : RecSt → RecSt) : (m.onRec f).tickAt = m.tickAt := rfl
@[simp] theorem Mod.onRec_sup (m : Mod) (f : RecSt → RecSt) : (m.onRec f).sup = m.sup := rfl
@[simp] theorem Mod.onRec_gov (m : Mod) (f : RecSt → RecSt) : (m.onRec f).gov = m.gov := rfl
@[simp] theorem Mod.onRec_clk (m : Mod) (f : RecSt → RecSt) : (m.onRec f).clk = m.clk := rfl
@[simp] theorem Mod.onRec_mode (m : Mod) (f : RecSt → RecSt) : (m.onRec f).mode = m.mode := rfl
@[simp] theorem Mod.onRec_start (m : Mod) (f : RecSt → RecSt) : (m.onRec f).start = m.start := rfl
@[simp] theorem Mod.onRec_srst (m : Mod) (f : RecSt → RecSt) : (m.onRec f).srst = m.srst := rfl
@[simp] theorem Mod.onRec_nv (m : Mod) (f : RecSt → RecSt) : (m.onRec f).nv = m.nv := rfl
@[simp] theorem Mod.onRec_obs (m : Mod) (f : RecSt → RecSt) : (m.onRec f).obs = m.obs := rfl
@[simp] theorem Mod.onRec_host (m : Mod) (f : RecSt → RecSt) : (m.onRec f).host = m.host := rfl
@[simp] theorem Mod.onRec_live (m : Mod) (f : RecSt → RecSt) : (m.onRec f).live = m.live := rfl
@[simp] theorem Mod.onRec_due (m : Mod) (f : RecSt → RecSt) : (m.onRec f).due = m.due := rfl
@[simp] theorem Mod.onRec_ax (m : Mod) (f : RecSt → RecSt) : (m.onRec f).ax = m.ax := rfl
@[simp] theorem Mod.onRec_po (m : Mod) (f : RecSt → RecSt) : (m.onRec f).po = m.po := rfl
@[simp] theorem Mod.onRec_side (m : Mod) (f : RecSt → RecSt) : (m.onRec f).side = m.side := rfl
@[simp] theorem Mod.onRec_ob (m : Mod) (f : RecSt → RecSt) : (m.onRec f).ob = m.ob := rfl
@[simp] theorem Mod.onRec_saf (m : Mod) (f : RecSt → RecSt) : (m.onRec f).saf = m.saf := rfl
@[simp] theorem Mod.onRec_time (m : Mod) (f : RecSt → RecSt) : (m.onRec f).time = m.time := rfl
@[simp] theorem Mod.onRec_io (m : Mod) (f : RecSt → RecSt) : (m.onRec f).io = m.io := rfl
@[simp] theorem Mod.onRec_txn (m : Mod) (f : RecSt → RecSt) : (m.onRec f).txn = m.txn := rfl
@[simp] theorem Mod.onRec_can (m : Mod) (f : RecSt → RecSt) : (m.onRec f).can = m.can := rfl
@[simp] theorem Mod.onRec_fab (m : Mod) (f : RecSt → RecSt) : (m.onRec f).fab = m.fab := rfl
@[simp] theorem Mod.onRec_tw (m : Mod) (f : RecSt → RecSt) : (m.onRec f).tw = m.tw := rfl
@[simp] theorem Mod.onRec_sec (m : Mod) (f : RecSt → RecSt) : (m.onRec f).sec = m.sec := rfl
@[simp] theorem Mod.onRec_fw (m : Mod) (f : RecSt → RecSt) : (m.onRec f).fw = m.fw := rfl
@[simp] theorem Mod.onRec_freeCtr (m : Mod) (f : RecSt → RecSt) : (m.onRec f).freeCtr = m.freeCtr := rfl
@[simp] theorem Mod.onRec_recd (m : Mod) (f : RecSt → RecSt) : (m.onRec f).recd = f m.recd := rfl

@[simp] theorem Mod.onInc_id (m : Mod) (f : Inc → Inc) : (m.onInc f).id = m.id := rfl
@[simp] theorem Mod.onInc_raw (m : Mod) (f : Inc → Inc) : (m.onInc f).raw = m.raw := rfl
@[simp] theorem Mod.onInc_tickAt (m : Mod) (f : Inc → Inc) : (m.onInc f).tickAt = m.tickAt := rfl
@[simp] theorem Mod.onInc_sup (m : Mod) (f : Inc → Inc) : (m.onInc f).sup = m.sup := rfl
@[simp] theorem Mod.onInc_gov (m : Mod) (f : Inc → Inc) : (m.onInc f).gov = m.gov := rfl
@[simp] theorem Mod.onInc_clk (m : Mod) (f : Inc → Inc) : (m.onInc f).clk = m.clk := rfl
@[simp] theorem Mod.onInc_mode (m : Mod) (f : Inc → Inc) : (m.onInc f).mode = m.mode := rfl
@[simp] theorem Mod.onInc_start (m : Mod) (f : Inc → Inc) : (m.onInc f).start = m.start := rfl
@[simp] theorem Mod.onInc_srst (m : Mod) (f : Inc → Inc) : (m.onInc f).srst = m.srst := rfl
@[simp] theorem Mod.onInc_nv (m : Mod) (f : Inc → Inc) : (m.onInc f).nv = m.nv := rfl
@[simp] theorem Mod.onInc_obs (m : Mod) (f : Inc → Inc) : (m.onInc f).obs = m.obs := rfl
@[simp] theorem Mod.onInc_host (m : Mod) (f : Inc → Inc) : (m.onInc f).host = m.host := rfl
@[simp] theorem Mod.onInc_live (m : Mod) (f : Inc → Inc) : (m.onInc f).live = m.live := rfl
@[simp] theorem Mod.onInc_due (m : Mod) (f : Inc → Inc) : (m.onInc f).due = m.due := rfl
@[simp] theorem Mod.onInc_ax (m : Mod) (f : Inc → Inc) : (m.onInc f).ax = m.ax := rfl
@[simp] theorem Mod.onInc_po (m : Mod) (f : Inc → Inc) : (m.onInc f).po = m.po := rfl
@[simp] theorem Mod.onInc_side (m : Mod) (f : Inc → Inc) : (m.onInc f).side = m.side := rfl
@[simp] theorem Mod.onInc_ob (m : Mod) (f : Inc → Inc) : (m.onInc f).ob = m.ob := rfl
@[simp] theorem Mod.onInc_saf (m : Mod) (f : Inc → Inc) : (m.onInc f).saf = m.saf := rfl
@[simp] theorem Mod.onInc_time (m : Mod) (f : Inc → Inc) : (m.onInc f).time = m.time := rfl
@[simp] theorem Mod.onInc_io (m : Mod) (f : Inc → Inc) : (m.onInc f).io = m.io := rfl
@[simp] theorem Mod.onInc_txn (m : Mod) (f : Inc → Inc) : (m.onInc f).txn = m.txn := rfl
@[simp] theorem Mod.onInc_can (m : Mod) (f : Inc → Inc) : (m.onInc f).can = m.can := rfl
@[simp] theorem Mod.onInc_fab (m : Mod) (f : Inc → Inc) : (m.onInc f).fab = m.fab := rfl
@[simp] theorem Mod.onInc_tw (m : Mod) (f : Inc → Inc) : (m.onInc f).tw = m.tw := rfl
@[simp] theorem Mod.onInc_sec (m : Mod) (f : Inc → Inc) : (m.onInc f).sec = m.sec := rfl
@[simp] theorem Mod.onInc_fw (m : Mod) (f : Inc → Inc) : (m.onInc f).fw = m.fw := rfl
@[simp] theorem Mod.onInc_freeCtr (m : Mod) (f : Inc → Inc) : (m.onInc f).freeCtr = m.freeCtr := rfl
@[simp] theorem Mod.onInc_recd (m : Mod) (f : Inc → Inc) : (m.onInc f).recd = { m.recd with inc := f m.recd.inc } := rfl

@[simp] theorem Mod.onRing_id (m : Mod) (i : Nat) (f : Ring → Ring) : (m.onRing i f).id = m.id := rfl
@[simp] theorem Mod.onRing_raw (m : Mod) (i : Nat) (f : Ring → Ring) : (m.onRing i f).raw = m.raw := rfl
@[simp] theorem Mod.onRing_tickAt (m : Mod) (i : Nat) (f : Ring → Ring) : (m.onRing i f).tickAt = m.tickAt := rfl
@[simp] theorem Mod.onRing_sup (m : Mod) (i : Nat) (f : Ring → Ring) : (m.onRing i f).sup = m.sup := rfl
@[simp] theorem Mod.onRing_gov (m : Mod) (i : Nat) (f : Ring → Ring) : (m.onRing i f).gov = m.gov := rfl
@[simp] theorem Mod.onRing_clk (m : Mod) (i : Nat) (f : Ring → Ring) : (m.onRing i f).clk = m.clk := rfl
@[simp] theorem Mod.onRing_mode (m : Mod) (i : Nat) (f : Ring → Ring) : (m.onRing i f).mode = m.mode := rfl
@[simp] theorem Mod.onRing_start (m : Mod) (i : Nat) (f : Ring → Ring) : (m.onRing i f).start = m.start := rfl
@[simp] theorem Mod.onRing_srst (m : Mod) (i : Nat) (f : Ring → Ring) : (m.onRing i f).srst = m.srst := rfl
@[simp] theorem Mod.onRing_nv (m : Mod) (i : Nat) (f : Ring → Ring) : (m.onRing i f).nv = m.nv := rfl
@[simp] theorem Mod.onRing_obs (m : Mod) (i : Nat) (f : Ring → Ring) : (m.onRing i f).obs = m.obs := rfl
@[simp] theorem Mod.onRing_live (m : Mod) (i : Nat) (f : Ring → Ring) : (m.onRing i f).live = m.live := rfl
@[simp] theorem Mod.onRing_due (m : Mod) (i : Nat) (f : Ring → Ring) : (m.onRing i f).due = m.due := rfl
@[simp] theorem Mod.onRing_ax (m : Mod) (i : Nat) (f : Ring → Ring) : (m.onRing i f).ax = m.ax := rfl
@[simp] theorem Mod.onRing_po (m : Mod) (i : Nat) (f : Ring → Ring) : (m.onRing i f).po = m.po := rfl
@[simp] theorem Mod.onRing_side (m : Mod) (i : Nat) (f : Ring → Ring) : (m.onRing i f).side = m.side := rfl
@[simp] theorem Mod.onRing_ob (m : Mod) (i : Nat) (f : Ring → Ring) : (m.onRing i f).ob = m.ob := rfl
@[simp] theorem Mod.onRing_saf (m : Mod) (i : Nat) (f : Ring → Ring) : (m.onRing i f).saf = m.saf := rfl
@[simp] theorem Mod.onRing_time (m : Mod) (i : Nat) (f : Ring → Ring) : (m.onRing i f).time = m.time := rfl
@[simp] theorem Mod.onRing_recd (m : Mod) (i : Nat) (f : Ring → Ring) : (m.onRing i f).recd = m.recd := rfl
@[simp] theorem Mod.onRing_io (m : Mod) (i : Nat) (f : Ring → Ring) : (m.onRing i f).io = m.io := rfl
@[simp] theorem Mod.onRing_txn (m : Mod) (i : Nat) (f : Ring → Ring) : (m.onRing i f).txn = m.txn := rfl
@[simp] theorem Mod.onRing_can (m : Mod) (i : Nat) (f : Ring → Ring) : (m.onRing i f).can = m.can := rfl
@[simp] theorem Mod.onRing_fab (m : Mod) (i : Nat) (f : Ring → Ring) : (m.onRing i f).fab = m.fab := rfl
@[simp] theorem Mod.onRing_tw (m : Mod) (i : Nat) (f : Ring → Ring) : (m.onRing i f).tw = m.tw := rfl
@[simp] theorem Mod.onRing_sec (m : Mod) (i : Nat) (f : Ring → Ring) : (m.onRing i f).sec = m.sec := rfl
@[simp] theorem Mod.onRing_fw (m : Mod) (i : Nat) (f : Ring → Ring) : (m.onRing i f).fw = m.fw := rfl
@[simp] theorem Mod.onRing_freeCtr (m : Mod) (i : Nat) (f : Ring → Ring) : (m.onRing i f).freeCtr = m.freeCtr := rfl
@[simp] theorem Mod.onRing_host (m : Mod) (i : Nat) (f : Ring → Ring) : (m.onRing i f).host = { m.host with rings := upd m.host.rings i f } := rfl

@[simp] theorem Mod.onAx_id (m : Mod) (i : Nat) (f : Axis → Axis) : (m.onAx i f).id = m.id := rfl
@[simp] theorem Mod.onAx_raw (m : Mod) (i : Nat) (f : Axis → Axis) : (m.onAx i f).raw = m.raw := rfl
@[simp] theorem Mod.onAx_tickAt (m : Mod) (i : Nat) (f : Axis → Axis) : (m.onAx i f).tickAt = m.tickAt := rfl
@[simp] theorem Mod.onAx_sup (m : Mod) (i : Nat) (f : Axis → Axis) : (m.onAx i f).sup = m.sup := rfl
@[simp] theorem Mod.onAx_gov (m : Mod) (i : Nat) (f : Axis → Axis) : (m.onAx i f).gov = m.gov := rfl
@[simp] theorem Mod.onAx_clk (m : Mod) (i : Nat) (f : Axis → Axis) : (m.onAx i f).clk = m.clk := rfl
@[simp] theorem Mod.onAx_mode (m : Mod) (i : Nat) (f : Axis → Axis) : (m.onAx i f).mode = m.mode := rfl
@[simp] theorem Mod.onAx_start (m : Mod) (i : Nat) (f : Axis → Axis) : (m.onAx i f).start = m.start := rfl
@[simp] theorem Mod.onAx_srst (m : Mod) (i : Nat) (f : Axis → Axis) : (m.onAx i f).srst = m.srst := rfl
@[simp] theorem Mod.onAx_nv (m : Mod) (i : Nat) (f : Axis → Axis) : (m.onAx i f).nv = m.nv := rfl
@[simp] theorem Mod.onAx_obs (m : Mod) (i : Nat) (f : Axis → Axis) : (m.onAx i f).obs = m.obs := rfl
@[simp] theorem Mod.onAx_host (m : Mod) (i : Nat) (f : Axis → Axis) : (m.onAx i f).host = m.host := rfl
@[simp] theorem Mod.onAx_live (m : Mod) (i : Nat) (f : Axis → Axis) : (m.onAx i f).live = m.live := rfl
@[simp] theorem Mod.onAx_due (m : Mod) (i : Nat) (f : Axis → Axis) : (m.onAx i f).due = m.due := rfl
@[simp] theorem Mod.onAx_po (m : Mod) (i : Nat) (f : Axis → Axis) : (m.onAx i f).po = m.po := rfl
@[simp] theorem Mod.onAx_side (m : Mod) (i : Nat) (f : Axis → Axis) : (m.onAx i f).side = m.side := rfl
@[simp] theorem Mod.onAx_ob (m : Mod) (i : Nat) (f : Axis → Axis) : (m.onAx i f).ob = m.ob := rfl
@[simp] theorem Mod.onAx_saf (m : Mod) (i : Nat) (f : Axis → Axis) : (m.onAx i f).saf = m.saf := rfl
@[simp] theorem Mod.onAx_time (m : Mod) (i : Nat) (f : Axis → Axis) : (m.onAx i f).time = m.time := rfl
@[simp] theorem Mod.onAx_recd (m : Mod) (i : Nat) (f : Axis → Axis) : (m.onAx i f).recd = m.recd := rfl
@[simp] theorem Mod.onAx_io (m : Mod) (i : Nat) (f : Axis → Axis) : (m.onAx i f).io = m.io := rfl
@[simp] theorem Mod.onAx_txn (m : Mod) (i : Nat) (f : Axis → Axis) : (m.onAx i f).txn = m.txn := rfl
@[simp] theorem Mod.onAx_can (m : Mod) (i : Nat) (f : Axis → Axis) : (m.onAx i f).can = m.can := rfl
@[simp] theorem Mod.onAx_fab (m : Mod) (i : Nat) (f : Axis → Axis) : (m.onAx i f).fab = m.fab := rfl
@[simp] theorem Mod.onAx_tw (m : Mod) (i : Nat) (f : Axis → Axis) : (m.onAx i f).tw = m.tw := rfl
@[simp] theorem Mod.onAx_sec (m : Mod) (i : Nat) (f : Axis → Axis) : (m.onAx i f).sec = m.sec := rfl
@[simp] theorem Mod.onAx_fw (m : Mod) (i : Nat) (f : Axis → Axis) : (m.onAx i f).fw = m.fw := rfl
@[simp] theorem Mod.onAx_freeCtr (m : Mod) (i : Nat) (f : Axis → Axis) : (m.onAx i f).freeCtr = m.freeCtr := rfl
@[simp] theorem Mod.onAx_ax (m : Mod) (i : Nat) (f : Axis → Axis) : (m.onAx i f).ax = upd m.ax i f := rfl

@[simp] theorem Mod.onPo_id (m : Mod) (i : Nat) (f : Portal → Portal) : (m.onPo i f).id = m.id := rfl
@[simp] theorem Mod.onPo_raw (m : Mod) (i : Nat) (f : Portal → Portal) : (m.onPo i f).raw = m.raw := rfl
@[simp] theorem Mod.onPo_tickAt (m : Mod) (i : Nat) (f : Portal → Portal) : (m.onPo i f).tickAt = m.tickAt := rfl
@[simp] theorem Mod.onPo_sup (m : Mod) (i : Nat) (f : Portal → Portal) : (m.onPo i f).sup = m.sup := rfl
@[simp] theorem Mod.onPo_gov (m : Mod) (i : Nat) (f : Portal → Portal) : (m.onPo i f).gov = m.gov := rfl
@[simp] theorem Mod.onPo_clk (m : Mod) (i : Nat) (f : Portal → Portal) : (m.onPo i f).clk = m.clk := rfl
@[simp] theorem Mod.onPo_mode (m : Mod) (i : Nat) (f : Portal → Portal) : (m.onPo i f).mode = m.mode := rfl
@[simp] theorem Mod.onPo_start (m : Mod) (i : Nat) (f : Portal → Portal) : (m.onPo i f).start = m.start := rfl
@[simp] theorem Mod.onPo_srst (m : Mod) (i : Nat) (f : Portal → Portal) : (m.onPo i f).srst = m.srst := rfl
@[simp] theorem Mod.onPo_nv (m : Mod) (i : Nat) (f : Portal → Portal) : (m.onPo i f).nv = m.nv := rfl
@[simp] theorem Mod.onPo_obs (m : Mod) (i : Nat) (f : Portal → Portal) : (m.onPo i f).obs = m.obs := rfl
@[simp] theorem Mod.onPo_host (m : Mod) (i : Nat) (f : Portal → Portal) : (m.onPo i f).host = m.host := rfl
@[simp] theorem Mod.onPo_live (m : Mod) (i : Nat) (f : Portal → Portal) : (m.onPo i f).live = m.live := rfl
@[simp] theorem Mod.onPo_due (m : Mod) (i : Nat) (f : Portal → Portal) : (m.onPo i f).due = m.due := rfl
@[simp] theorem Mod.onPo_ax (m : Mod) (i : Nat) (f : Portal → Portal) : (m.onPo i f).ax = m.ax := rfl
@[simp] theorem Mod.onPo_side (m : Mod) (i : Nat) (f : Portal → Portal) : (m.onPo i f).side = m.side := rfl
@[simp] theorem Mod.onPo_ob (m : Mod) (i : Nat) (f : Portal → Portal) : (m.onPo i f).ob = m.ob := rfl
@[simp] theorem Mod.onPo_saf (m : Mod) (i : Nat) (f : Portal → Portal) : (m.onPo i f).saf = m.saf := rfl
@[simp] theorem Mod.onPo_time (m : Mod) (i : Nat) (f : Portal → Portal) : (m.onPo i f).time = m.time := rfl
@[simp] theorem Mod.onPo_recd (m : Mod) (i : Nat) (f : Portal → Portal) : (m.onPo i f).recd = m.recd := rfl
@[simp] theorem Mod.onPo_io (m : Mod) (i : Nat) (f : Portal → Portal) : (m.onPo i f).io = m.io := rfl
@[simp] theorem Mod.onPo_txn (m : Mod) (i : Nat) (f : Portal → Portal) : (m.onPo i f).txn = m.txn := rfl
@[simp] theorem Mod.onPo_can (m : Mod) (i : Nat) (f : Portal → Portal) : (m.onPo i f).can = m.can := rfl
@[simp] theorem Mod.onPo_fab (m : Mod) (i : Nat) (f : Portal → Portal) : (m.onPo i f).fab = m.fab := rfl
@[simp] theorem Mod.onPo_tw (m : Mod) (i : Nat) (f : Portal → Portal) : (m.onPo i f).tw = m.tw := rfl
@[simp] theorem Mod.onPo_sec (m : Mod) (i : Nat) (f : Portal → Portal) : (m.onPo i f).sec = m.sec := rfl
@[simp] theorem Mod.onPo_fw (m : Mod) (i : Nat) (f : Portal → Portal) : (m.onPo i f).fw = m.fw := rfl
@[simp] theorem Mod.onPo_freeCtr (m : Mod) (i : Nat) (f : Portal → Portal) : (m.onPo i f).freeCtr = m.freeCtr := rfl
@[simp] theorem Mod.onPo_po (m : Mod) (i : Nat) (f : Portal → Portal) : (m.onPo i f).po = upd m.po i f := rfl

@[simp] theorem Mod.onOb_id (m : Mod) (i : Nat) (f : Obst → Obst) : (m.onOb i f).id = m.id := rfl
@[simp] theorem Mod.onOb_raw (m : Mod) (i : Nat) (f : Obst → Obst) : (m.onOb i f).raw = m.raw := rfl
@[simp] theorem Mod.onOb_tickAt (m : Mod) (i : Nat) (f : Obst → Obst) : (m.onOb i f).tickAt = m.tickAt := rfl
@[simp] theorem Mod.onOb_sup (m : Mod) (i : Nat) (f : Obst → Obst) : (m.onOb i f).sup = m.sup := rfl
@[simp] theorem Mod.onOb_gov (m : Mod) (i : Nat) (f : Obst → Obst) : (m.onOb i f).gov = m.gov := rfl
@[simp] theorem Mod.onOb_clk (m : Mod) (i : Nat) (f : Obst → Obst) : (m.onOb i f).clk = m.clk := rfl
@[simp] theorem Mod.onOb_mode (m : Mod) (i : Nat) (f : Obst → Obst) : (m.onOb i f).mode = m.mode := rfl
@[simp] theorem Mod.onOb_start (m : Mod) (i : Nat) (f : Obst → Obst) : (m.onOb i f).start = m.start := rfl
@[simp] theorem Mod.onOb_srst (m : Mod) (i : Nat) (f : Obst → Obst) : (m.onOb i f).srst = m.srst := rfl
@[simp] theorem Mod.onOb_nv (m : Mod) (i : Nat) (f : Obst → Obst) : (m.onOb i f).nv = m.nv := rfl
@[simp] theorem Mod.onOb_obs (m : Mod) (i : Nat) (f : Obst → Obst) : (m.onOb i f).obs = m.obs := rfl
@[simp] theorem Mod.onOb_host (m : Mod) (i : Nat) (f : Obst → Obst) : (m.onOb i f).host = m.host := rfl
@[simp] theorem Mod.onOb_live (m : Mod) (i : Nat) (f : Obst → Obst) : (m.onOb i f).live = m.live := rfl
@[simp] theorem Mod.onOb_due (m : Mod) (i : Nat) (f : Obst → Obst) : (m.onOb i f).due = m.due := rfl
@[simp] theorem Mod.onOb_ax (m : Mod) (i : Nat) (f : Obst → Obst) : (m.onOb i f).ax = m.ax := rfl
@[simp] theorem Mod.onOb_po (m : Mod) (i : Nat) (f : Obst → Obst) : (m.onOb i f).po = m.po := rfl
@[simp] theorem Mod.onOb_side (m : Mod) (i : Nat) (f : Obst → Obst) : (m.onOb i f).side = m.side := rfl
@[simp] theorem Mod.onOb_saf (m : Mod) (i : Nat) (f : Obst → Obst) : (m.onOb i f).saf = m.saf := rfl
@[simp] theorem Mod.onOb_time (m : Mod) (i : Nat) (f : Obst → Obst) : (m.onOb i f).time = m.time := rfl
@[simp] theorem Mod.onOb_recd (m : Mod) (i : Nat) (f : Obst → Obst) : (m.onOb i f).recd = m.recd := rfl
@[simp] theorem Mod.onOb_io (m : Mod) (i : Nat) (f : Obst → Obst) : (m.onOb i f).io = m.io := rfl
@[simp] theorem Mod.onOb_txn (m : Mod) (i : Nat) (f : Obst → Obst) : (m.onOb i f).txn = m.txn := rfl
@[simp] theorem Mod.onOb_can (m : Mod) (i : Nat) (f : Obst → Obst) : (m.onOb i f).can = m.can := rfl
@[simp] theorem Mod.onOb_fab (m : Mod) (i : Nat) (f : Obst → Obst) : (m.onOb i f).fab = m.fab := rfl
@[simp] theorem Mod.onOb_tw (m : Mod) (i : Nat) (f : Obst → Obst) : (m.onOb i f).tw = m.tw := rfl
@[simp] theorem Mod.onOb_sec (m : Mod) (i : Nat) (f : Obst → Obst) : (m.onOb i f).sec = m.sec := rfl
@[simp] theorem Mod.onOb_fw (m : Mod) (i : Nat) (f : Obst → Obst) : (m.onOb i f).fw = m.fw := rfl
@[simp] theorem Mod.onOb_freeCtr (m : Mod) (i : Nat) (f : Obst → Obst) : (m.onOb i f).freeCtr = m.freeCtr := rfl
@[simp] theorem Mod.onOb_ob (m : Mod) (i : Nat) (f : Obst → Obst) : (m.onOb i f).ob = { m.ob with ax := upd m.ob.ax i f } := rfl

@[simp] theorem Mod.onEdge_id (m : Mod) (i : Nat) (f : Edge → Edge) : (m.onEdge i f).id = m.id := rfl
@[simp] theorem Mod.onEdge_raw (m : Mod) (i : Nat) (f : Edge → Edge) : (m.onEdge i f).raw = m.raw := rfl
@[simp] theorem Mod.onEdge_tickAt (m : Mod) (i : Nat) (f : Edge → Edge) : (m.onEdge i f).tickAt = m.tickAt := rfl
@[simp] theorem Mod.onEdge_sup (m : Mod) (i : Nat) (f : Edge → Edge) : (m.onEdge i f).sup = m.sup := rfl
@[simp] theorem Mod.onEdge_gov (m : Mod) (i : Nat) (f : Edge → Edge) : (m.onEdge i f).gov = m.gov := rfl
@[simp] theorem Mod.onEdge_clk (m : Mod) (i : Nat) (f : Edge → Edge) : (m.onEdge i f).clk = m.clk := rfl
@[simp] theorem Mod.onEdge_mode (m : Mod) (i : Nat) (f : Edge → Edge) : (m.onEdge i f).mode = m.mode := rfl
@[simp] theorem Mod.onEdge_start (m : Mod) (i : Nat) (f : Edge → Edge) : (m.onEdge i f).start = m.start := rfl
@[simp] theorem Mod.onEdge_srst (m : Mod) (i : Nat) (f : Edge → Edge) : (m.onEdge i f).srst = m.srst := rfl
@[simp] theorem Mod.onEdge_nv (m : Mod) (i : Nat) (f : Edge → Edge) : (m.onEdge i f).nv = m.nv := rfl
@[simp] theorem Mod.onEdge_obs (m : Mod) (i : Nat) (f : Edge → Edge) : (m.onEdge i f).obs = m.obs := rfl
@[simp] theorem Mod.onEdge_host (m : Mod) (i : Nat) (f : Edge → Edge) : (m.onEdge i f).host = m.host := rfl
@[simp] theorem Mod.onEdge_live (m : Mod) (i : Nat) (f : Edge → Edge) : (m.onEdge i f).live = m.live := rfl
@[simp] theorem Mod.onEdge_due (m : Mod) (i : Nat) (f : Edge → Edge) : (m.onEdge i f).due = m.due := rfl
@[simp] theorem Mod.onEdge_ax (m : Mod) (i : Nat) (f : Edge → Edge) : (m.onEdge i f).ax = m.ax := rfl
@[simp] theorem Mod.onEdge_po (m : Mod) (i : Nat) (f : Edge → Edge) : (m.onEdge i f).po = m.po := rfl
@[simp] theorem Mod.onEdge_side (m : Mod) (i : Nat) (f : Edge → Edge) : (m.onEdge i f).side = m.side := rfl
@[simp] theorem Mod.onEdge_saf (m : Mod) (i : Nat) (f : Edge → Edge) : (m.onEdge i f).saf = m.saf := rfl
@[simp] theorem Mod.onEdge_time (m : Mod) (i : Nat) (f : Edge → Edge) : (m.onEdge i f).time = m.time := rfl
@[simp] theorem Mod.onEdge_recd (m : Mod) (i : Nat) (f : Edge → Edge) : (m.onEdge i f).recd = m.recd := rfl
@[simp] theorem Mod.onEdge_io (m : Mod) (i : Nat) (f : Edge → Edge) : (m.onEdge i f).io = m.io := rfl
@[simp] theorem Mod.onEdge_txn (m : Mod) (i : Nat) (f : Edge → Edge) : (m.onEdge i f).txn = m.txn := rfl
@[simp] theorem Mod.onEdge_can (m : Mod) (i : Nat) (f : Edge → Edge) : (m.onEdge i f).can = m.can := rfl
@[simp] theorem Mod.onEdge_fab (m : Mod) (i : Nat) (f : Edge → Edge) : (m.onEdge i f).fab = m.fab := rfl
@[simp] theorem Mod.onEdge_tw (m : Mod) (i : Nat) (f : Edge → Edge) : (m.onEdge i f).tw = m.tw := rfl
@[simp] theorem Mod.onEdge_sec (m : Mod) (i : Nat) (f : Edge → Edge) : (m.onEdge i f).sec = m.sec := rfl
@[simp] theorem Mod.onEdge_fw (m : Mod) (i : Nat) (f : Edge → Edge) : (m.onEdge i f).fw = m.fw := rfl
@[simp] theorem Mod.onEdge_freeCtr (m : Mod) (i : Nat) (f : Edge → Edge) : (m.onEdge i f).freeCtr = m.freeCtr := rfl
@[simp] theorem Mod.onEdge_ob (m : Mod) (i : Nat) (f : Edge → Edge) : (m.onEdge i f).ob = { m.ob with edges := upd m.ob.edges i f } := rfl

@[simp] theorem Mod.onSafAx_id (m : Mod) (i : Nat) (f : SafAx → SafAx) : (m.onSafAx i f).id = m.id := rfl
@[simp] theorem Mod.onSafAx_raw (m : Mod) (i : Nat) (f : SafAx → SafAx) : (m.onSafAx i f).raw = m.raw := rfl
@[simp] theorem Mod.onSafAx_tickAt (m : Mod) (i : Nat) (f : SafAx → SafAx) : (m.onSafAx i f).tickAt = m.tickAt := rfl
@[simp] theorem Mod.onSafAx_sup (m : Mod) (i : Nat) (f : SafAx → SafAx) : (m.onSafAx i f).sup = m.sup := rfl
@[simp] theorem Mod.onSafAx_gov (m : Mod) (i : Nat) (f : SafAx → SafAx) : (m.onSafAx i f).gov = m.gov := rfl
@[simp] theorem Mod.onSafAx_clk (m : Mod) (i : Nat) (f : SafAx → SafAx) : (m.onSafAx i f).clk = m.clk := rfl
@[simp] theorem Mod.onSafAx_mode (m : Mod) (i : Nat) (f : SafAx → SafAx) : (m.onSafAx i f).mode = m.mode := rfl
@[simp] theorem Mod.onSafAx_start (m : Mod) (i : Nat) (f : SafAx → SafAx) : (m.onSafAx i f).start = m.start := rfl
@[simp] theorem Mod.onSafAx_srst (m : Mod) (i : Nat) (f : SafAx → SafAx) : (m.onSafAx i f).srst = m.srst := rfl
@[simp] theorem Mod.onSafAx_nv (m : Mod) (i : Nat) (f : SafAx → SafAx) : (m.onSafAx i f).nv = m.nv := rfl
@[simp] theorem Mod.onSafAx_obs (m : Mod) (i : Nat) (f : SafAx → SafAx) : (m.onSafAx i f).obs = m.obs := rfl
@[simp] theorem Mod.onSafAx_host (m : Mod) (i : Nat) (f : SafAx → SafAx) : (m.onSafAx i f).host = m.host := rfl
@[simp] theorem Mod.onSafAx_live (m : Mod) (i : Nat) (f : SafAx → SafAx) : (m.onSafAx i f).live = m.live := rfl
@[simp] theorem Mod.onSafAx_due (m : Mod) (i : Nat) (f : SafAx → SafAx) : (m.onSafAx i f).due = m.due := rfl
@[simp] theorem Mod.onSafAx_ax (m : Mod) (i : Nat) (f : SafAx → SafAx) : (m.onSafAx i f).ax = m.ax := rfl
@[simp] theorem Mod.onSafAx_po (m : Mod) (i : Nat) (f : SafAx → SafAx) : (m.onSafAx i f).po = m.po := rfl
@[simp] theorem Mod.onSafAx_side (m : Mod) (i : Nat) (f : SafAx → SafAx) : (m.onSafAx i f).side = m.side := rfl
@[simp] theorem Mod.onSafAx_ob (m : Mod) (i : Nat) (f : SafAx → SafAx) : (m.onSafAx i f).ob = m.ob := rfl
@[simp] theorem Mod.onSafAx_time (m : Mod) (i : Nat) (f : SafAx → SafAx) : (m.onSafAx i f).time = m.time := rfl
@[simp] theorem Mod.onSafAx_recd (m : Mod) (i : Nat) (f : SafAx → SafAx) : (m.onSafAx i f).recd = m.recd := rfl
@[simp] theorem Mod.onSafAx_io (m : Mod) (i : Nat) (f : SafAx → SafAx) : (m.onSafAx i f).io = m.io := rfl
@[simp] theorem Mod.onSafAx_txn (m : Mod) (i : Nat) (f : SafAx → SafAx) : (m.onSafAx i f).txn = m.txn := rfl
@[simp] theorem Mod.onSafAx_can (m : Mod) (i : Nat) (f : SafAx → SafAx) : (m.onSafAx i f).can = m.can := rfl
@[simp] theorem Mod.onSafAx_fab (m : Mod) (i : Nat) (f : SafAx → SafAx) : (m.onSafAx i f).fab = m.fab := rfl
@[simp] theorem Mod.onSafAx_tw (m : Mod) (i : Nat) (f : SafAx → SafAx) : (m.onSafAx i f).tw = m.tw := rfl
@[simp] theorem Mod.onSafAx_sec (m : Mod) (i : Nat) (f : SafAx → SafAx) : (m.onSafAx i f).sec = m.sec := rfl
@[simp] theorem Mod.onSafAx_fw (m : Mod) (i : Nat) (f : SafAx → SafAx) : (m.onSafAx i f).fw = m.fw := rfl
@[simp] theorem Mod.onSafAx_freeCtr (m : Mod) (i : Nat) (f : SafAx → SafAx) : (m.onSafAx i f).freeCtr = m.freeCtr := rfl
@[simp] theorem Mod.onSafAx_saf (m : Mod) (i : Nat) (f : SafAx → SafAx) : (m.onSafAx i f).saf = { m.saf with ax := upd m.saf.ax i f } := rfl

@[simp] theorem Mod.onSaf_id (m : Mod) (f : Safety → Safety) : (m.onSaf f).id = m.id := rfl
@[simp] theorem Mod.onSaf_raw (m : Mod) (f : Safety → Safety) : (m.onSaf f).raw = m.raw := rfl
@[simp] theorem Mod.onSaf_tickAt (m : Mod) (f : Safety → Safety) : (m.onSaf f).tickAt = m.tickAt := rfl
@[simp] theorem Mod.onSaf_sup (m : Mod) (f : Safety → Safety) : (m.onSaf f).sup = m.sup := rfl
@[simp] theorem Mod.onSaf_gov (m : Mod) (f : Safety → Safety) : (m.onSaf f).gov = m.gov := rfl
@[simp] theorem Mod.onSaf_clk (m : Mod) (f : Safety → Safety) : (m.onSaf f).clk = m.clk := rfl
@[simp] theorem Mod.onSaf_mode (m : Mod) (f : Safety → Safety) : (m.onSaf f).mode = m.mode := rfl
@[simp] theorem Mod.onSaf_start (m : Mod) (f : Safety → Safety) : (m.onSaf f).start = m.start := rfl
@[simp] theorem Mod.onSaf_srst (m : Mod) (f : Safety → Safety) : (m.onSaf f).srst = m.srst := rfl
@[simp] theorem Mod.onSaf_nv (m : Mod) (f : Safety → Safety) : (m.onSaf f).nv = m.nv := rfl
@[simp] theorem Mod.onSaf_obs (m : Mod) (f : Safety → Safety) : (m.onSaf f).obs = m.obs := rfl
@[simp] theorem Mod.onSaf_host (m : Mod) (f : Safety → Safety) : (m.onSaf f).host = m.host := rfl
@[simp] theorem Mod.onSaf_live (m : Mod) (f : Safety → Safety) : (m.onSaf f).live = m.live := rfl
@[simp] theorem Mod.onSaf_due (m : Mod) (f : Safety → Safety) : (m.onSaf f).due = m.due := rfl
@[simp] theorem Mod.onSaf_ax (m : Mod) (f : Safety → Safety) : (m.onSaf f).ax = m.ax := rfl
@[simp] theorem Mod.onSaf_po (m : Mod) (f : Safety → Safety) : (m.onSaf f).po = m.po := rfl
@[simp] theorem Mod.onSaf_side (m : Mod) (f : Safety → Safety) : (m.onSaf f).side = m.side := rfl
@[simp] theorem Mod.onSaf_ob (m : Mod) (f : Safety → Safety) : (m.onSaf f).ob = m.ob := rfl
@[simp] theorem Mod.onSaf_time (m : Mod) (f : Safety → Safety) : (m.onSaf f).time = m.time := rfl
@[simp] theorem Mod.onSaf_recd (m : Mod) (f : Safety → Safety) : (m.onSaf f).recd = m.recd := rfl
@[simp] theorem Mod.onSaf_io (m : Mod) (f : Safety → Safety) : (m.onSaf f).io = m.io := rfl
@[simp] theorem Mod.onSaf_txn (m : Mod) (f : Safety → Safety) : (m.onSaf f).txn = m.txn := rfl
@[simp] theorem Mod.onSaf_can (m : Mod) (f : Safety → Safety) : (m.onSaf f).can = m.can := rfl
@[simp] theorem Mod.onSaf_fab (m : Mod) (f : Safety → Safety) : (m.onSaf f).fab = m.fab := rfl
@[simp] theorem Mod.onSaf_tw (m : Mod) (f : Safety → Safety) : (m.onSaf f).tw = m.tw := rfl
@[simp] theorem Mod.onSaf_sec (m : Mod) (f : Safety → Safety) : (m.onSaf f).sec = m.sec := rfl
@[simp] theorem Mod.onSaf_fw (m : Mod) (f : Safety → Safety) : (m.onSaf f).fw = m.fw := rfl
@[simp] theorem Mod.onSaf_freeCtr (m : Mod) (f : Safety → Safety) : (m.onSaf f).freeCtr = m.freeCtr := rfl
@[simp] theorem Mod.onSaf_saf (m : Mod) (f : Safety → Safety) : (m.onSaf f).saf = f m.saf := rfl

@[simp] theorem Mod.onLoop_id (m : Mod) (s : Side) (f : Loop → Loop) : (m.onLoop s f).id = m.id := rfl
@[simp] theorem Mod.onLoop_raw (m : Mod) (s : Side) (f : Loop → Loop) : (m.onLoop s f).raw = m.raw := rfl
@[simp] theorem Mod.onLoop_tickAt (m : Mod) (s : Side) (f : Loop → Loop) : (m.onLoop s f).tickAt = m.tickAt := rfl
@[simp] theorem Mod.onLoop_sup (m : Mod) (s : Side) (f : Loop → Loop) : (m.onLoop s f).sup = m.sup := rfl
@[simp] theorem Mod.onLoop_gov (m : Mod) (s : Side) (f : Loop → Loop) : (m.onLoop s f).gov = m.gov := rfl
@[simp] theorem Mod.onLoop_clk (m : Mod) (s : Side) (f : Loop → Loop) : (m.onLoop s f).clk = m.clk := rfl
@[simp] theorem Mod.onLoop_mode (m : Mod) (s : Side) (f : Loop → Loop) : (m.onLoop s f).mode = m.mode := rfl
@[simp] theorem Mod.onLoop_start (m : Mod) (s : Side) (f : Loop → Loop) : (m.onLoop s f).start = m.start := rfl
@[simp] theorem Mod.onLoop_srst (m : Mod) (s : Side) (f : Loop → Loop) : (m.onLoop s f).srst = m.srst := rfl
@[simp] theorem Mod.onLoop_nv (m : Mod) (s : Side) (f : Loop → Loop) : (m.onLoop s f).nv = m.nv := rfl
@[simp] theorem Mod.onLoop_obs (m : Mod) (s : Side) (f : Loop → Loop) : (m.onLoop s f).obs = m.obs := rfl
@[simp] theorem Mod.onLoop_host (m : Mod) (s : Side) (f : Loop → Loop) : (m.onLoop s f).host = m.host := rfl
@[simp] theorem Mod.onLoop_live (m : Mod) (s : Side) (f : Loop → Loop) : (m.onLoop s f).live = m.live := rfl
@[simp] theorem Mod.onLoop_due (m : Mod) (s : Side) (f : Loop → Loop) : (m.onLoop s f).due = m.due := rfl
@[simp] theorem Mod.onLoop_ax (m : Mod) (s : Side) (f : Loop → Loop) : (m.onLoop s f).ax = m.ax := rfl
@[simp] theorem Mod.onLoop_po (m : Mod) (s : Side) (f : Loop → Loop) : (m.onLoop s f).po = m.po := rfl
@[simp] theorem Mod.onLoop_side (m : Mod) (s : Side) (f : Loop → Loop) : (m.onLoop s f).side = m.side := rfl
@[simp] theorem Mod.onLoop_ob (m : Mod) (s : Side) (f : Loop → Loop) : (m.onLoop s f).ob = m.ob := rfl
@[simp] theorem Mod.onLoop_time (m : Mod) (s : Side) (f : Loop → Loop) : (m.onLoop s f).time = m.time := rfl
@[simp] theorem Mod.onLoop_recd (m : Mod) (s : Side) (f : Loop → Loop) : (m.onLoop s f).recd = m.recd := rfl
@[simp] theorem Mod.onLoop_io (m : Mod) (s : Side) (f : Loop → Loop) : (m.onLoop s f).io = m.io := rfl
@[simp] theorem Mod.onLoop_txn (m : Mod) (s : Side) (f : Loop → Loop) : (m.onLoop s f).txn = m.txn := rfl
@[simp] theorem Mod.onLoop_can (m : Mod) (s : Side) (f : Loop → Loop) : (m.onLoop s f).can = m.can := rfl
@[simp] theorem Mod.onLoop_fab (m : Mod) (s : Side) (f : Loop → Loop) : (m.onLoop s f).fab = m.fab := rfl
@[simp] theorem Mod.onLoop_tw (m : Mod) (s : Side) (f : Loop → Loop) : (m.onLoop s f).tw = m.tw := rfl
@[simp] theorem Mod.onLoop_sec (m : Mod) (s : Side) (f : Loop → Loop) : (m.onLoop s f).sec = m.sec := rfl
@[simp] theorem Mod.onLoop_fw (m : Mod) (s : Side) (f : Loop → Loop) : (m.onLoop s f).fw = m.fw := rfl
@[simp] theorem Mod.onLoop_freeCtr (m : Mod) (s : Side) (f : Loop → Loop) : (m.onLoop s f).freeCtr = m.freeCtr := rfl
@[simp] theorem Mod.onLoop_saf (m : Mod) (s : Side) (f : Loop → Loop) : (m.onLoop s f).saf = { m.saf with loops := m.saf.loops.map1 s f } := rfl

@[simp] theorem Mod.onSide_id (m : Mod) (s : Side) (f : SideSt → SideSt) : (m.onSide s f).id = m.id := rfl
@[simp] theorem Mod.onSide_raw (m : Mod) (s : Side) (f : SideSt → SideSt) : (m.onSide s f).raw = m.raw := rfl
@[simp] theorem Mod.onSide_tickAt (m : Mod) (s : Side) (f : SideSt → SideSt) : (m.onSide s f).tickAt = m.tickAt := rfl
@[simp] theorem Mod.onSide_sup (m : Mod) (s : Side) (f : SideSt → SideSt) : (m.onSide s f).sup = m.sup := rfl
@[simp] theorem Mod.onSide_gov (m : Mod) (s : Side) (f : SideSt → SideSt) : (m.onSide s f).gov = m.gov := rfl
@[simp] theorem Mod.onSide_clk (m : Mod) (s : Side) (f : SideSt → SideSt) : (m.onSide s f).clk = m.clk := rfl
@[simp] theorem Mod.onSide_mode (m : Mod) (s : Side) (f : SideSt → SideSt) : (m.onSide s f).mode = m.mode := rfl
@[simp] theorem Mod.onSide_start (m : Mod) (s : Side) (f : SideSt → SideSt) : (m.onSide s f).start = m.start := rfl
@[simp] theorem Mod.onSide_srst (m : Mod) (s : Side) (f : SideSt → SideSt) : (m.onSide s f).srst = m.srst := rfl
@[simp] theorem Mod.onSide_nv (m : Mod) (s : Side) (f : SideSt → SideSt) : (m.onSide s f).nv = m.nv := rfl
@[simp] theorem Mod.onSide_obs (m : Mod) (s : Side) (f : SideSt → SideSt) : (m.onSide s f).obs = m.obs := rfl
@[simp] theorem Mod.onSide_host (m : Mod) (s : Side) (f : SideSt → SideSt) : (m.onSide s f).host = m.host := rfl
@[simp] theorem Mod.onSide_live (m : Mod) (s : Side) (f : SideSt → SideSt) : (m.onSide s f).live = m.live := rfl
@[simp] theorem Mod.onSide_due (m : Mod) (s : Side) (f : SideSt → SideSt) : (m.onSide s f).due = m.due := rfl
@[simp] theorem Mod.onSide_ax (m : Mod) (s : Side) (f : SideSt → SideSt) : (m.onSide s f).ax = m.ax := rfl
@[simp] theorem Mod.onSide_po (m : Mod) (s : Side) (f : SideSt → SideSt) : (m.onSide s f).po = m.po := rfl
@[simp] theorem Mod.onSide_ob (m : Mod) (s : Side) (f : SideSt → SideSt) : (m.onSide s f).ob = m.ob := rfl
@[simp] theorem Mod.onSide_saf (m : Mod) (s : Side) (f : SideSt → SideSt) : (m.onSide s f).saf = m.saf := rfl
@[simp] theorem Mod.onSide_time (m : Mod) (s : Side) (f : SideSt → SideSt) : (m.onSide s f).time = m.time := rfl
@[simp] theorem Mod.onSide_recd (m : Mod) (s : Side) (f : SideSt → SideSt) : (m.onSide s f).recd = m.recd := rfl
@[simp] theorem Mod.onSide_io (m : Mod) (s : Side) (f : SideSt → SideSt) : (m.onSide s f).io = m.io := rfl
@[simp] theorem Mod.onSide_txn (m : Mod) (s : Side) (f : SideSt → SideSt) : (m.onSide s f).txn = m.txn := rfl
@[simp] theorem Mod.onSide_can (m : Mod) (s : Side) (f : SideSt → SideSt) : (m.onSide s f).can = m.can := rfl
@[simp] theorem Mod.onSide_fab (m : Mod) (s : Side) (f : SideSt → SideSt) : (m.onSide s f).fab = m.fab := rfl
@[simp] theorem Mod.onSide_tw (m : Mod) (s : Side) (f : SideSt → SideSt) : (m.onSide s f).tw = m.tw := rfl
@[simp] theorem Mod.onSide_sec (m : Mod) (s : Side) (f : SideSt → SideSt) : (m.onSide s f).sec = m.sec := rfl
@[simp] theorem Mod.onSide_fw (m : Mod) (s : Side) (f : SideSt → SideSt) : (m.onSide s f).fw = m.fw := rfl
@[simp] theorem Mod.onSide_freeCtr (m : Mod) (s : Side) (f : SideSt → SideSt) : (m.onSide s f).freeCtr = m.freeCtr := rfl
@[simp] theorem Mod.onSide_side (m : Mod) (s : Side) (f : SideSt → SideSt) : (m.onSide s f).side = m.side.map1 s f := rfl

@[simp] theorem Mod.onGov_id (m : Mod) (f : Gov → Gov) : (m.onGov f).id = m.id := rfl
@[simp] theorem Mod.onGov_raw (m : Mod) (f : Gov → Gov) : (m.onGov f).raw = m.raw := rfl
@[simp] theorem Mod.onGov_tickAt (m : Mod) (f : Gov → Gov) : (m.onGov f).tickAt = m.tickAt := rfl
@[simp] theorem Mod.onGov_sup (m : Mod) (f : Gov → Gov) : (m.onGov f).sup = m.sup := rfl
@[simp] theorem Mod.onGov_clk (m : Mod) (f : Gov → Gov) : (m.onGov f).clk = m.clk := rfl
@[simp] theorem Mod.onGov_mode (m : Mod) (f : Gov → Gov) : (m.onGov f).mode = m.mode := rfl
@[simp] theorem Mod.onGov_start (m : Mod) (f : Gov → Gov) : (m.onGov f).start = m.start := rfl
@[simp] theorem Mod.onGov_srst (m : Mod) (f : Gov → Gov) : (m.onGov f).srst = m.srst := rfl
@[simp] theorem Mod.onGov_nv (m : Mod) (f : Gov → Gov) : (m.onGov f).nv = m.nv := rfl
@[simp] theorem Mod.onGov_obs (m : Mod) (f : Gov → Gov) : (m.onGov f).obs = m.obs := rfl
@[simp] theorem Mod.onGov_host (m : Mod) (f : Gov → Gov) : (m.onGov f).host = m.host := rfl
@[simp] theorem Mod.onGov_live (m : Mod) (f : Gov → Gov) : (m.onGov f).live = m.live := rfl
@[simp] theorem Mod.onGov_due (m : Mod) (f : Gov → Gov) : (m.onGov f).due = m.due := rfl
@[simp] theorem Mod.onGov_ax (m : Mod) (f : Gov → Gov) : (m.onGov f).ax = m.ax := rfl
@[simp] theorem Mod.onGov_po (m : Mod) (f : Gov → Gov) : (m.onGov f).po = m.po := rfl
@[simp] theorem Mod.onGov_side (m : Mod) (f : Gov → Gov) : (m.onGov f).side = m.side := rfl
@[simp] theorem Mod.onGov_ob (m : Mod) (f : Gov → Gov) : (m.onGov f).ob = m.ob := rfl
@[simp] theorem Mod.onGov_saf (m : Mod) (f : Gov → Gov) : (m.onGov f).saf = m.saf := rfl
@[simp] theorem Mod.onGov_time (m : Mod) (f : Gov → Gov) : (m.onGov f).time = m.time := rfl
@[simp] theorem Mod.onGov_recd (m : Mod) (f : Gov → Gov) : (m.onGov f).recd = m.recd := rfl
@[simp] theorem Mod.onGov_io (m : Mod) (f : Gov → Gov) : (m.onGov f).io = m.io := rfl
@[simp] theorem Mod.onGov_txn (m : Mod) (f : Gov → Gov) : (m.onGov f).txn = m.txn := rfl
@[simp] theorem Mod.onGov_can (m : Mod) (f : Gov → Gov) : (m.onGov f).can = m.can := rfl
@[simp] theorem Mod.onGov_fab (m : Mod) (f : Gov → Gov) : (m.onGov f).fab = m.fab := rfl
@[simp] theorem Mod.onGov_tw (m : Mod) (f : Gov → Gov) : (m.onGov f).tw = m.tw := rfl
@[simp] theorem Mod.onGov_sec (m : Mod) (f : Gov → Gov) : (m.onGov f).sec = m.sec := rfl
@[simp] theorem Mod.onGov_fw (m : Mod) (f : Gov → Gov) : (m.onGov f).fw = m.fw := rfl
@[simp] theorem Mod.onGov_freeCtr (m : Mod) (f : Gov → Gov) : (m.onGov f).freeCtr = m.freeCtr := rfl
@[simp] theorem Mod.onGov_gov (m : Mod) (f : Gov → Gov) : (m.onGov f).gov = f m.gov := rfl

@[simp] theorem Mod.onClk_id (m : Mod) (f : Clk → Clk) : (m.onClk f).id = m.id := rfl
@[simp] theorem Mod.onClk_raw (m : Mod) (f : Clk → Clk) : (m.onClk f).raw = m.raw := rfl
@[simp] theorem Mod.onClk_tickAt (m : Mod) (f : Clk → Clk) : (m.onClk f).tickAt = m.tickAt := rfl
@[simp] theorem Mod.onClk_sup (m : Mod) (f : Clk → Clk) : (m.onClk f).sup = m.sup := rfl
@[simp] theorem Mod.onClk_gov (m : Mod) (f : Clk → Clk) : (m.onClk f).gov = m.gov := rfl
@[simp] theorem Mod.onClk_mode (m : Mod) (f : Clk → Clk) : (m.onClk f).mode = m.mode := rfl
@[simp] theorem Mod.onClk_start (m : Mod) (f : Clk → Clk) : (m.onClk f).start = m.start := rfl
@[simp] theorem Mod.onClk_srst (m : Mod) (f : Clk → Clk) : (m.onClk f).srst = m.srst := rfl
@[simp] theorem Mod.onClk_nv (m : Mod) (f : Clk → Clk) : (m.onClk f).nv = m.nv := rfl
@[simp] theorem Mod.onClk_obs (m : Mod) (f : Clk → Clk) : (m.onClk f).obs = m.obs := rfl
@[simp] theorem Mod.onClk_host (m : Mod) (f : Clk → Clk) : (m.onClk f).host = m.host := rfl
@[simp] theorem Mod.onClk_live (m : Mod) (f : Clk → Clk) : (m.onClk f).live = m.live := rfl
@[simp] theorem Mod.onClk_due (m : Mod) (f : Clk → Clk) : (m.onClk f).due = m.due := rfl
@[simp] theorem Mod.onClk_ax (m : Mod) (f : Clk → Clk) : (m.onClk f).ax = m.ax := rfl
@[simp] theorem Mod.onClk_po (m : Mod) (f : Clk → Clk) : (m.onClk f).po = m.po := rfl
@[simp] theorem Mod.onClk_side (m : Mod) (f : Clk → Clk) : (m.onClk f).side = m.side := rfl
@[simp] theorem Mod.onClk_ob (m : Mod) (f : Clk → Clk) : (m.onClk f).ob = m.ob := rfl
@[simp] theorem Mod.onClk_saf (m : Mod) (f : Clk → Clk) : (m.onClk f).saf = m.saf := rfl
@[simp] theorem Mod.onClk_time (m : Mod) (f : Clk → Clk) : (m.onClk f).time = m.time := rfl
@[simp] theorem Mod.onClk_recd (m : Mod) (f : Clk → Clk) : (m.onClk f).recd = m.recd := rfl
@[simp] theorem Mod.onClk_io (m : Mod) (f : Clk → Clk) : (m.onClk f).io = m.io := rfl
@[simp] theorem Mod.onClk_txn (m : Mod) (f : Clk → Clk) : (m.onClk f).txn = m.txn := rfl
@[simp] theorem Mod.onClk_can (m : Mod) (f : Clk → Clk) : (m.onClk f).can = m.can := rfl
@[simp] theorem Mod.onClk_fab (m : Mod) (f : Clk → Clk) : (m.onClk f).fab = m.fab := rfl
@[simp] theorem Mod.onClk_tw (m : Mod) (f : Clk → Clk) : (m.onClk f).tw = m.tw := rfl
@[simp] theorem Mod.onClk_sec (m : Mod) (f : Clk → Clk) : (m.onClk f).sec = m.sec := rfl
@[simp] theorem Mod.onClk_fw (m : Mod) (f : Clk → Clk) : (m.onClk f).fw = m.fw := rfl
@[simp] theorem Mod.onClk_freeCtr (m : Mod) (f : Clk → Clk) : (m.onClk f).freeCtr = m.freeCtr := rfl
@[simp] theorem Mod.onClk_clk (m : Mod) (f : Clk → Clk) : (m.onClk f).clk = f m.clk := rfl

@[simp] theorem Mod.onMode_id (m : Mod) (f : ModeSt → ModeSt) : (m.onMode f).id = m.id := rfl
@[simp] theorem Mod.onMode_raw (m : Mod) (f : ModeSt → ModeSt) : (m.onMode f).raw = m.raw := rfl
@[simp] theorem Mod.onMode_tickAt (m : Mod) (f : ModeSt → ModeSt) : (m.onMode f).tickAt = m.tickAt := rfl
@[simp] theorem Mod.onMode_sup (m : Mod) (f : ModeSt → ModeSt) : (m.onMode f).sup = m.sup := rfl
@[simp] theorem Mod.onMode_gov (m : Mod) (f : ModeSt → ModeSt) : (m.onMode f).gov = m.gov := rfl
@[simp] theorem Mod.onMode_clk (m : Mod) (f : ModeSt → ModeSt) : (m.onMode f).clk = m.clk := rfl
@[simp] theorem Mod.onMode_start (m : Mod) (f : ModeSt → ModeSt) : (m.onMode f).start = m.start := rfl
@[simp] theorem Mod.onMode_srst (m : Mod) (f : ModeSt → ModeSt) : (m.onMode f).srst = m.srst := rfl
@[simp] theorem Mod.onMode_nv (m : Mod) (f : ModeSt → ModeSt) : (m.onMode f).nv = m.nv := rfl
@[simp] theorem Mod.onMode_obs (m : Mod) (f : ModeSt → ModeSt) : (m.onMode f).obs = m.obs := rfl
@[simp] theorem Mod.onMode_host (m : Mod) (f : ModeSt → ModeSt) : (m.onMode f).host = m.host := rfl
@[simp] theorem Mod.onMode_live (m : Mod) (f : ModeSt → ModeSt) : (m.onMode f).live = m.live := rfl
@[simp] theorem Mod.onMode_due (m : Mod) (f : ModeSt → ModeSt) : (m.onMode f).due = m.due := rfl
@[simp] theorem Mod.onMode_ax (m : Mod) (f : ModeSt → ModeSt) : (m.onMode f).ax = m.ax := rfl
@[simp] theorem Mod.onMode_po (m : Mod) (f : ModeSt → ModeSt) : (m.onMode f).po = m.po := rfl
@[simp] theorem Mod.onMode_side (m : Mod) (f : ModeSt → ModeSt) : (m.onMode f).side = m.side := rfl
@[simp] theorem Mod.onMode_ob (m : Mod) (f : ModeSt → ModeSt) : (m.onMode f).ob = m.ob := rfl
@[simp] theorem Mod.onMode_saf (m : Mod) (f : ModeSt → ModeSt) : (m.onMode f).saf = m.saf := rfl
@[simp] theorem Mod.onMode_time (m : Mod) (f : ModeSt → ModeSt) : (m.onMode f).time = m.time := rfl
@[simp] theorem Mod.onMode_recd (m : Mod) (f : ModeSt → ModeSt) : (m.onMode f).recd = m.recd := rfl
@[simp] theorem Mod.onMode_io (m : Mod) (f : ModeSt → ModeSt) : (m.onMode f).io = m.io := rfl
@[simp] theorem Mod.onMode_txn (m : Mod) (f : ModeSt → ModeSt) : (m.onMode f).txn = m.txn := rfl
@[simp] theorem Mod.onMode_can (m : Mod) (f : ModeSt → ModeSt) : (m.onMode f).can = m.can := rfl
@[simp] theorem Mod.onMode_fab (m : Mod) (f : ModeSt → ModeSt) : (m.onMode f).fab = m.fab := rfl
@[simp] theorem Mod.onMode_tw (m : Mod) (f : ModeSt → ModeSt) : (m.onMode f).tw = m.tw := rfl
@[simp] theorem Mod.onMode_sec (m : Mod) (f : ModeSt → ModeSt) : (m.onMode f).sec = m.sec := rfl
@[simp] theorem Mod.onMode_fw (m : Mod) (f : ModeSt → ModeSt) : (m.onMode f).fw = m.fw := rfl
@[simp] theorem Mod.onMode_freeCtr (m : Mod) (f : ModeSt → ModeSt) : (m.onMode f).freeCtr = m.freeCtr := rfl
@[simp] theorem Mod.onMode_mode (m : Mod) (f : ModeSt → ModeSt) : (m.onMode f).mode = f m.mode := rfl

@[simp] theorem Mod.onStart_id (m : Mod) (f : StartSt → StartSt) : (m.onStart f).id = m.id := rfl
@[simp] theorem Mod.onStart_raw (m : Mod) (f : StartSt → StartSt) : (m.onStart f).raw = m.raw := rfl
@[simp] theorem Mod.onStart_tickAt (m : Mod) (f : StartSt → StartSt) : (m.onStart f).tickAt = m.tickAt := rfl
@[simp] theorem Mod.onStart_sup (m : Mod) (f : StartSt → StartSt) : (m.onStart f).sup = m.sup := rfl
@[simp] theorem Mod.onStart_gov (m : Mod) (f : StartSt → StartSt) : (m.onStart f).gov = m.gov := rfl
@[simp] theorem Mod.onStart_clk (m : Mod) (f : StartSt → StartSt) : (m.onStart f).clk = m.clk := rfl
@[simp] theorem Mod.onStart_mode (m : Mod) (f : StartSt → StartSt) : (m.onStart f).mode = m.mode := rfl
@[simp] theorem Mod.onStart_srst (m : Mod) (f : StartSt → StartSt) : (m.onStart f).srst = m.srst := rfl
@[simp] theorem Mod.onStart_nv (m : Mod) (f : StartSt → StartSt) : (m.onStart f).nv = m.nv := rfl
@[simp] theorem Mod.onStart_obs (m : Mod) (f : StartSt → StartSt) : (m.onStart f).obs = m.obs := rfl
@[simp] theorem Mod.onStart_host (m : Mod) (f : StartSt → StartSt) : (m.onStart f).host = m.host := rfl
@[simp] theorem Mod.onStart_live (m : Mod) (f : StartSt → StartSt) : (m.onStart f).live = m.live := rfl
@[simp] theorem Mod.onStart_due (m : Mod) (f : StartSt → StartSt) : (m.onStart f).due = m.due := rfl
@[simp] theorem Mod.onStart_ax (m : Mod) (f : StartSt → StartSt) : (m.onStart f).ax = m.ax := rfl
@[simp] theorem Mod.onStart_po (m : Mod) (f : StartSt → StartSt) : (m.onStart f).po = m.po := rfl
@[simp] theorem Mod.onStart_side (m : Mod) (f : StartSt → StartSt) : (m.onStart f).side = m.side := rfl
@[simp] theorem Mod.onStart_ob (m : Mod) (f : StartSt → StartSt) : (m.onStart f).ob = m.ob := rfl
@[simp] theorem Mod.onStart_saf (m : Mod) (f : StartSt → StartSt) : (m.onStart f).saf = m.saf := rfl
@[simp] theorem Mod.onStart_time (m : Mod) (f : StartSt → StartSt) : (m.onStart f).time = m.time := rfl
@[simp] theorem Mod.onStart_recd (m : Mod) (f : StartSt → StartSt) : (m.onStart f).recd = m.recd := rfl
@[simp] theorem Mod.onStart_io (m : Mod) (f : StartSt → StartSt) : (m.onStart f).io = m.io := rfl
@[simp] theorem Mod.onStart_txn (m : Mod) (f : StartSt → StartSt) : (m.onStart f).txn = m.txn := rfl
@[simp] theorem Mod.onStart_can (m : Mod) (f : StartSt → StartSt) : (m.onStart f).can = m.can := rfl
@[simp] theorem Mod.onStart_fab (m : Mod) (f : StartSt → StartSt) : (m.onStart f).fab = m.fab := rfl
@[simp] theorem Mod.onStart_tw (m : Mod) (f : StartSt → StartSt) : (m.onStart f).tw = m.tw := rfl
@[simp] theorem Mod.onStart_sec (m : Mod) (f : StartSt → StartSt) : (m.onStart f).sec = m.sec := rfl
@[simp] theorem Mod.onStart_fw (m : Mod) (f : StartSt → StartSt) : (m.onStart f).fw = m.fw := rfl
@[simp] theorem Mod.onStart_freeCtr (m : Mod) (f : StartSt → StartSt) : (m.onStart f).freeCtr = m.freeCtr := rfl
@[simp] theorem Mod.onStart_start (m : Mod) (f : StartSt → StartSt) : (m.onStart f).start = f m.start := rfl

@[simp] theorem Mod.onSup_id (m : Mod) (f : Sup → Sup) : (m.onSup f).id = m.id := rfl
@[simp] theorem Mod.onSup_raw (m : Mod) (f : Sup → Sup) : (m.onSup f).raw = m.raw := rfl
@[simp] theorem Mod.onSup_tickAt (m : Mod) (f : Sup → Sup) : (m.onSup f).tickAt = m.tickAt := rfl
@[simp] theorem Mod.onSup_gov (m : Mod) (f : Sup → Sup) : (m.onSup f).gov = m.gov := rfl
@[simp] theorem Mod.onSup_clk (m : Mod) (f : Sup → Sup) : (m.onSup f).clk = m.clk := rfl
@[simp] theorem Mod.onSup_mode (m : Mod) (f : Sup → Sup) : (m.onSup f).mode = m.mode := rfl
@[simp] theorem Mod.onSup_start (m : Mod) (f : Sup → Sup) : (m.onSup f).start = m.start := rfl
@[simp] theorem Mod.onSup_srst (m : Mod) (f : Sup → Sup) : (m.onSup f).srst = m.srst := rfl
@[simp] theorem Mod.onSup_nv (m : Mod) (f : Sup → Sup) : (m.onSup f).nv = m.nv := rfl
@[simp] theorem Mod.onSup_obs (m : Mod) (f : Sup → Sup) : (m.onSup f).obs = m.obs := rfl
@[simp] theorem Mod.onSup_host (m : Mod) (f : Sup → Sup) : (m.onSup f).host = m.host := rfl
@[simp] theorem Mod.onSup_live (m : Mod) (f : Sup → Sup) : (m.onSup f).live = m.live := rfl
@[simp] theorem Mod.onSup_due (m : Mod) (f : Sup → Sup) : (m.onSup f).due = m.due := rfl
@[simp] theorem Mod.onSup_ax (m : Mod) (f : Sup → Sup) : (m.onSup f).ax = m.ax := rfl
@[simp] theorem Mod.onSup_po (m : Mod) (f : Sup → Sup) : (m.onSup f).po = m.po := rfl
@[simp] theorem Mod.onSup_side (m : Mod) (f : Sup → Sup) : (m.onSup f).side = m.side := rfl
@[simp] theorem Mod.onSup_ob (m : Mod) (f : Sup → Sup) : (m.onSup f).ob = m.ob := rfl
@[simp] theorem Mod.onSup_saf (m : Mod) (f : Sup → Sup) : (m.onSup f).saf = m.saf := rfl
@[simp] theorem Mod.onSup_time (m : Mod) (f : Sup → Sup) : (m.onSup f).time = m.time := rfl
@[simp] theorem Mod.onSup_recd (m : Mod) (f : Sup → Sup) : (m.onSup f).recd = m.recd := rfl
@[simp] theorem Mod.onSup_io (m : Mod) (f : Sup → Sup) : (m.onSup f).io = m.io := rfl
@[simp] theorem Mod.onSup_txn (m : Mod) (f : Sup → Sup) : (m.onSup f).txn = m.txn := rfl
@[simp] theorem Mod.onSup_can (m : Mod) (f : Sup → Sup) : (m.onSup f).can = m.can := rfl
@[simp] theorem Mod.onSup_fab (m : Mod) (f : Sup → Sup) : (m.onSup f).fab = m.fab := rfl
@[simp] theorem Mod.onSup_tw (m : Mod) (f : Sup → Sup) : (m.onSup f).tw = m.tw := rfl
@[simp] theorem Mod.onSup_sec (m : Mod) (f : Sup → Sup) : (m.onSup f).sec = m.sec := rfl
@[simp] theorem Mod.onSup_fw (m : Mod) (f : Sup → Sup) : (m.onSup f).fw = m.fw := rfl
@[simp] theorem Mod.onSup_freeCtr (m : Mod) (f : Sup → Sup) : (m.onSup f).freeCtr = m.freeCtr := rfl
@[simp] theorem Mod.onSup_sup (m : Mod) (f : Sup → Sup) : (m.onSup f).sup = f m.sup := rfl

@[simp] theorem Mod.onSec_id (m : Mod) (f : SecSt → SecSt) : (m.onSec f).id = m.id := rfl
@[simp] theorem Mod.onSec_raw (m : Mod) (f : SecSt → SecSt) : (m.onSec f).raw = m.raw := rfl
@[simp] theorem Mod.onSec_tickAt (m : Mod) (f : SecSt → SecSt) : (m.onSec f).tickAt = m.tickAt := rfl
@[simp] theorem Mod.onSec_sup (m : Mod) (f : SecSt → SecSt) : (m.onSec f).sup = m.sup := rfl
@[simp] theorem Mod.onSec_gov (m : Mod) (f : SecSt → SecSt) : (m.onSec f).gov = m.gov := rfl
@[simp] theorem Mod.onSec_clk (m : Mod) (f : SecSt → SecSt) : (m.onSec f).clk = m.clk := rfl
@[simp] theorem Mod.onSec_mode (m : Mod) (f : SecSt → SecSt) : (m.onSec f).mode = m.mode := rfl
@[simp] theorem Mod.onSec_start (m : Mod) (f : SecSt → SecSt) : (m.onSec f).start = m.start := rfl
@[simp] theorem Mod.onSec_srst (m : Mod) (f : SecSt → SecSt) : (m.onSec f).srst = m.srst := rfl
@[simp] theorem Mod.onSec_nv (m : Mod) (f : SecSt → SecSt) : (m.onSec f).nv = m.nv := rfl
@[simp] theorem Mod.onSec_obs (m : Mod) (f : SecSt → SecSt) : (m.onSec f).obs = m.obs := rfl
@[simp] theorem Mod.onSec_host (m : Mod) (f : SecSt → SecSt) : (m.onSec f).host = m.host := rfl
@[simp] theorem Mod.onSec_live (m : Mod) (f : SecSt → SecSt) : (m.onSec f).live = m.live := rfl
@[simp] theorem Mod.onSec_due (m : Mod) (f : SecSt → SecSt) : (m.onSec f).due = m.due := rfl
@[simp] theorem Mod.onSec_ax (m : Mod) (f : SecSt → SecSt) : (m.onSec f).ax = m.ax := rfl
@[simp] theorem Mod.onSec_po (m : Mod) (f : SecSt → SecSt) : (m.onSec f).po = m.po := rfl
@[simp] theorem Mod.onSec_side (m : Mod) (f : SecSt → SecSt) : (m.onSec f).side = m.side := rfl
@[simp] theorem Mod.onSec_ob (m : Mod) (f : SecSt → SecSt) : (m.onSec f).ob = m.ob := rfl
@[simp] theorem Mod.onSec_saf (m : Mod) (f : SecSt → SecSt) : (m.onSec f).saf = m.saf := rfl
@[simp] theorem Mod.onSec_time (m : Mod) (f : SecSt → SecSt) : (m.onSec f).time = m.time := rfl
@[simp] theorem Mod.onSec_recd (m : Mod) (f : SecSt → SecSt) : (m.onSec f).recd = m.recd := rfl
@[simp] theorem Mod.onSec_io (m : Mod) (f : SecSt → SecSt) : (m.onSec f).io = m.io := rfl
@[simp] theorem Mod.onSec_txn (m : Mod) (f : SecSt → SecSt) : (m.onSec f).txn = m.txn := rfl
@[simp] theorem Mod.onSec_can (m : Mod) (f : SecSt → SecSt) : (m.onSec f).can = m.can := rfl
@[simp] theorem Mod.onSec_fab (m : Mod) (f : SecSt → SecSt) : (m.onSec f).fab = m.fab := rfl
@[simp] theorem Mod.onSec_tw (m : Mod) (f : SecSt → SecSt) : (m.onSec f).tw = m.tw := rfl
@[simp] theorem Mod.onSec_fw (m : Mod) (f : SecSt → SecSt) : (m.onSec f).fw = m.fw := rfl
@[simp] theorem Mod.onSec_freeCtr (m : Mod) (f : SecSt → SecSt) : (m.onSec f).freeCtr = m.freeCtr := rfl
@[simp] theorem Mod.onSec_sec (m : Mod) (f : SecSt → SecSt) : (m.onSec f).sec = f m.sec := rfl

@[simp] theorem Mod.onTw_id (m : Mod) (f : TwinSt → TwinSt) : (m.onTw f).id = m.id := rfl
@[simp] theorem Mod.onTw_raw (m : Mod) (f : TwinSt → TwinSt) : (m.onTw f).raw = m.raw := rfl
@[simp] theorem Mod.onTw_tickAt (m : Mod) (f : TwinSt → TwinSt) : (m.onTw f).tickAt = m.tickAt := rfl
@[simp] theorem Mod.onTw_sup (m : Mod) (f : TwinSt → TwinSt) : (m.onTw f).sup = m.sup := rfl
@[simp] theorem Mod.onTw_gov (m : Mod) (f : TwinSt → TwinSt) : (m.onTw f).gov = m.gov := rfl
@[simp] theorem Mod.onTw_clk (m : Mod) (f : TwinSt → TwinSt) : (m.onTw f).clk = m.clk := rfl
@[simp] theorem Mod.onTw_mode (m : Mod) (f : TwinSt → TwinSt) : (m.onTw f).mode = m.mode := rfl
@[simp] theorem Mod.onTw_start (m : Mod) (f : TwinSt → TwinSt) : (m.onTw f).start = m.start := rfl
@[simp] theorem Mod.onTw_srst (m : Mod) (f : TwinSt → TwinSt) : (m.onTw f).srst = m.srst := rfl
@[simp] theorem Mod.onTw_nv (m : Mod) (f : TwinSt → TwinSt) : (m.onTw f).nv = m.nv := rfl
@[simp] theorem Mod.onTw_obs (m : Mod) (f : TwinSt → TwinSt) : (m.onTw f).obs = m.obs := rfl
@[simp] theorem Mod.onTw_host (m : Mod) (f : TwinSt → TwinSt) : (m.onTw f).host = m.host := rfl
@[simp] theorem Mod.onTw_live (m : Mod) (f : TwinSt → TwinSt) : (m.onTw f).live = m.live := rfl
@[simp] theorem Mod.onTw_due (m : Mod) (f : TwinSt → TwinSt) : (m.onTw f).due = m.due := rfl
@[simp] theorem Mod.onTw_ax (m : Mod) (f : TwinSt → TwinSt) : (m.onTw f).ax = m.ax := rfl
@[simp] theorem Mod.onTw_po (m : Mod) (f : TwinSt → TwinSt) : (m.onTw f).po = m.po := rfl
@[simp] theorem Mod.onTw_side (m : Mod) (f : TwinSt → TwinSt) : (m.onTw f).side = m.side := rfl
@[simp] theorem Mod.onTw_ob (m : Mod) (f : TwinSt → TwinSt) : (m.onTw f).ob = m.ob := rfl
@[simp] theorem Mod.onTw_saf (m : Mod) (f : TwinSt → TwinSt) : (m.onTw f).saf = m.saf := rfl
@[simp] theorem Mod.onTw_time (m : Mod) (f : TwinSt → TwinSt) : (m.onTw f).time = m.time := rfl
@[simp] theorem Mod.onTw_recd (m : Mod) (f : TwinSt → TwinSt) : (m.onTw f).recd = m.recd := rfl
@[simp] theorem Mod.onTw_io (m : Mod) (f : TwinSt → TwinSt) : (m.onTw f).io = m.io := rfl
@[simp] theorem Mod.onTw_txn (m : Mod) (f : TwinSt → TwinSt) : (m.onTw f).txn = m.txn := rfl
@[simp] theorem Mod.onTw_can (m : Mod) (f : TwinSt → TwinSt) : (m.onTw f).can = m.can := rfl
@[simp] theorem Mod.onTw_fab (m : Mod) (f : TwinSt → TwinSt) : (m.onTw f).fab = m.fab := rfl
@[simp] theorem Mod.onTw_sec (m : Mod) (f : TwinSt → TwinSt) : (m.onTw f).sec = m.sec := rfl
@[simp] theorem Mod.onTw_fw (m : Mod) (f : TwinSt → TwinSt) : (m.onTw f).fw = m.fw := rfl
@[simp] theorem Mod.onTw_freeCtr (m : Mod) (f : TwinSt → TwinSt) : (m.onTw f).freeCtr = m.freeCtr := rfl
@[simp] theorem Mod.onTw_tw (m : Mod) (f : TwinSt → TwinSt) : (m.onTw f).tw = f m.tw := rfl

@[simp] theorem Mod.onFw_id (m : Mod) (f : UpdSt → UpdSt) : (m.onFw f).id = m.id := rfl
@[simp] theorem Mod.onFw_raw (m : Mod) (f : UpdSt → UpdSt) : (m.onFw f).raw = m.raw := rfl
@[simp] theorem Mod.onFw_tickAt (m : Mod) (f : UpdSt → UpdSt) : (m.onFw f).tickAt = m.tickAt := rfl
@[simp] theorem Mod.onFw_sup (m : Mod) (f : UpdSt → UpdSt) : (m.onFw f).sup = m.sup := rfl
@[simp] theorem Mod.onFw_gov (m : Mod) (f : UpdSt → UpdSt) : (m.onFw f).gov = m.gov := rfl
@[simp] theorem Mod.onFw_clk (m : Mod) (f : UpdSt → UpdSt) : (m.onFw f).clk = m.clk := rfl
@[simp] theorem Mod.onFw_mode (m : Mod) (f : UpdSt → UpdSt) : (m.onFw f).mode = m.mode := rfl
@[simp] theorem Mod.onFw_start (m : Mod) (f : UpdSt → UpdSt) : (m.onFw f).start = m.start := rfl
@[simp] theorem Mod.onFw_srst (m : Mod) (f : UpdSt → UpdSt) : (m.onFw f).srst = m.srst := rfl
@[simp] theorem Mod.onFw_nv (m : Mod) (f : UpdSt → UpdSt) : (m.onFw f).nv = m.nv := rfl
@[simp] theorem Mod.onFw_obs (m : Mod) (f : UpdSt → UpdSt) : (m.onFw f).obs = m.obs := rfl
@[simp] theorem Mod.onFw_host (m : Mod) (f : UpdSt → UpdSt) : (m.onFw f).host = m.host := rfl
@[simp] theorem Mod.onFw_live (m : Mod) (f : UpdSt → UpdSt) : (m.onFw f).live = m.live := rfl
@[simp] theorem Mod.onFw_due (m : Mod) (f : UpdSt → UpdSt) : (m.onFw f).due = m.due := rfl
@[simp] theorem Mod.onFw_ax (m : Mod) (f : UpdSt → UpdSt) : (m.onFw f).ax = m.ax := rfl
@[simp] theorem Mod.onFw_po (m : Mod) (f : UpdSt → UpdSt) : (m.onFw f).po = m.po := rfl
@[simp] theorem Mod.onFw_side (m : Mod) (f : UpdSt → UpdSt) : (m.onFw f).side = m.side := rfl
@[simp] theorem Mod.onFw_ob (m : Mod) (f : UpdSt → UpdSt) : (m.onFw f).ob = m.ob := rfl
@[simp] theorem Mod.onFw_saf (m : Mod) (f : UpdSt → UpdSt) : (m.onFw f).saf = m.saf := rfl
@[simp] theorem Mod.onFw_time (m : Mod) (f : UpdSt → UpdSt) : (m.onFw f).time = m.time := rfl
@[simp] theorem Mod.onFw_recd (m : Mod) (f : UpdSt → UpdSt) : (m.onFw f).recd = m.recd := rfl
@[simp] theorem Mod.onFw_io (m : Mod) (f : UpdSt → UpdSt) : (m.onFw f).io = m.io := rfl
@[simp] theorem Mod.onFw_txn (m : Mod) (f : UpdSt → UpdSt) : (m.onFw f).txn = m.txn := rfl
@[simp] theorem Mod.onFw_can (m : Mod) (f : UpdSt → UpdSt) : (m.onFw f).can = m.can := rfl
@[simp] theorem Mod.onFw_fab (m : Mod) (f : UpdSt → UpdSt) : (m.onFw f).fab = m.fab := rfl
@[simp] theorem Mod.onFw_tw (m : Mod) (f : UpdSt → UpdSt) : (m.onFw f).tw = m.tw := rfl
@[simp] theorem Mod.onFw_sec (m : Mod) (f : UpdSt → UpdSt) : (m.onFw f).sec = m.sec := rfl
@[simp] theorem Mod.onFw_freeCtr (m : Mod) (f : UpdSt → UpdSt) : (m.onFw f).freeCtr = m.freeCtr := rfl
@[simp] theorem Mod.onFw_fw (m : Mod) (f : UpdSt → UpdSt) : (m.onFw f).fw = f m.fw := rfl

@[simp] theorem Mod.onFab_id (m : Mod) (f : FabSt → FabSt) : (m.onFab f).id = m.id := rfl
@[simp] theorem Mod.onFab_raw (m : Mod) (f : FabSt → FabSt) : (m.onFab f).raw = m.raw := rfl
@[simp] theorem Mod.onFab_tickAt (m : Mod) (f : FabSt → FabSt) : (m.onFab f).tickAt = m.tickAt := rfl
@[simp] theorem Mod.onFab_sup (m : Mod) (f : FabSt → FabSt) : (m.onFab f).sup = m.sup := rfl
@[simp] theorem Mod.onFab_gov (m : Mod) (f : FabSt → FabSt) : (m.onFab f).gov = m.gov := rfl
@[simp] theorem Mod.onFab_clk (m : Mod) (f : FabSt → FabSt) : (m.onFab f).clk = m.clk := rfl
@[simp] theorem Mod.onFab_mode (m : Mod) (f : FabSt → FabSt) : (m.onFab f).mode = m.mode := rfl
@[simp] theorem Mod.onFab_start (m : Mod) (f : FabSt → FabSt) : (m.onFab f).start = m.start := rfl
@[simp] theorem Mod.onFab_srst (m : Mod) (f : FabSt → FabSt) : (m.onFab f).srst = m.srst := rfl
@[simp] theorem Mod.onFab_nv (m : Mod) (f : FabSt → FabSt) : (m.onFab f).nv = m.nv := rfl
@[simp] theorem Mod.onFab_obs (m : Mod) (f : FabSt → FabSt) : (m.onFab f).obs = m.obs := rfl
@[simp] theorem Mod.onFab_host (m : Mod) (f : FabSt → FabSt) : (m.onFab f).host = m.host := rfl
@[simp] theorem Mod.onFab_live (m : Mod) (f : FabSt → FabSt) : (m.onFab f).live = m.live := rfl
@[simp] theorem Mod.onFab_due (m : Mod) (f : FabSt → FabSt) : (m.onFab f).due = m.due := rfl
@[simp] theorem Mod.onFab_ax (m : Mod) (f : FabSt → FabSt) : (m.onFab f).ax = m.ax := rfl
@[simp] theorem Mod.onFab_po (m : Mod) (f : FabSt → FabSt) : (m.onFab f).po = m.po := rfl
@[simp] theorem Mod.onFab_side (m : Mod) (f : FabSt → FabSt) : (m.onFab f).side = m.side := rfl
@[simp] theorem Mod.onFab_ob (m : Mod) (f : FabSt → FabSt) : (m.onFab f).ob = m.ob := rfl
@[simp] theorem Mod.onFab_saf (m : Mod) (f : FabSt → FabSt) : (m.onFab f).saf = m.saf := rfl
@[simp] theorem Mod.onFab_time (m : Mod) (f : FabSt → FabSt) : (m.onFab f).time = m.time := rfl
@[simp] theorem Mod.onFab_recd (m : Mod) (f : FabSt → FabSt) : (m.onFab f).recd = m.recd := rfl
@[simp] theorem Mod.onFab_io (m : Mod) (f : FabSt → FabSt) : (m.onFab f).io = m.io := rfl
@[simp] theorem Mod.onFab_txn (m : Mod) (f : FabSt → FabSt) : (m.onFab f).txn = m.txn := rfl
@[simp] theorem Mod.onFab_can (m : Mod) (f : FabSt → FabSt) : (m.onFab f).can = m.can := rfl
@[simp] theorem Mod.onFab_tw (m : Mod) (f : FabSt → FabSt) : (m.onFab f).tw = m.tw := rfl
@[simp] theorem Mod.onFab_sec (m : Mod) (f : FabSt → FabSt) : (m.onFab f).sec = m.sec := rfl
@[simp] theorem Mod.onFab_fw (m : Mod) (f : FabSt → FabSt) : (m.onFab f).fw = m.fw := rfl
@[simp] theorem Mod.onFab_freeCtr (m : Mod) (f : FabSt → FabSt) : (m.onFab f).freeCtr = m.freeCtr := rfl
@[simp] theorem Mod.onFab_fab (m : Mod) (f : FabSt → FabSt) : (m.onFab f).fab = f m.fab := rfl

@[simp] theorem Mod.onTime_id (m : Mod) (f : TimeSt → TimeSt) : (m.onTime f).id = m.id := rfl
@[simp] theorem Mod.onTime_raw (m : Mod) (f : TimeSt → TimeSt) : (m.onTime f).raw = m.raw := rfl
@[simp] theorem Mod.onTime_tickAt (m : Mod) (f : TimeSt → TimeSt) : (m.onTime f).tickAt = m.tickAt := rfl
@[simp] theorem Mod.onTime_sup (m : Mod) (f : TimeSt → TimeSt) : (m.onTime f).sup = m.sup := rfl
@[simp] theorem Mod.onTime_gov (m : Mod) (f : TimeSt → TimeSt) : (m.onTime f).gov = m.gov := rfl
@[simp] theorem Mod.onTime_clk (m : Mod) (f : TimeSt → TimeSt) : (m.onTime f).clk = m.clk := rfl
@[simp] theorem Mod.onTime_mode (m : Mod) (f : TimeSt → TimeSt) : (m.onTime f).mode = m.mode := rfl
@[simp] theorem Mod.onTime_start (m : Mod) (f : TimeSt → TimeSt) : (m.onTime f).start = m.start := rfl
@[simp] theorem Mod.onTime_srst (m : Mod) (f : TimeSt → TimeSt) : (m.onTime f).srst = m.srst := rfl
@[simp] theorem Mod.onTime_nv (m : Mod) (f : TimeSt → TimeSt) : (m.onTime f).nv = m.nv := rfl
@[simp] theorem Mod.onTime_obs (m : Mod) (f : TimeSt → TimeSt) : (m.onTime f).obs = m.obs := rfl
@[simp] theorem Mod.onTime_host (m : Mod) (f : TimeSt → TimeSt) : (m.onTime f).host = m.host := rfl
@[simp] theorem Mod.onTime_live (m : Mod) (f : TimeSt → TimeSt) : (m.onTime f).live = m.live := rfl
@[simp] theorem Mod.onTime_due (m : Mod) (f : TimeSt → TimeSt) : (m.onTime f).due = m.due := rfl
@[simp] theorem Mod.onTime_ax (m : Mod) (f : TimeSt → TimeSt) : (m.onTime f).ax = m.ax := rfl
@[simp] theorem Mod.onTime_po (m : Mod) (f : TimeSt → TimeSt) : (m.onTime f).po = m.po := rfl
@[simp] theorem Mod.onTime_side (m : Mod) (f : TimeSt → TimeSt) : (m.onTime f).side = m.side := rfl
@[simp] theorem Mod.onTime_ob (m : Mod) (f : TimeSt → TimeSt) : (m.onTime f).ob = m.ob := rfl
@[simp] theorem Mod.onTime_saf (m : Mod) (f : TimeSt → TimeSt) : (m.onTime f).saf = m.saf := rfl
@[simp] theorem Mod.onTime_recd (m : Mod) (f : TimeSt → TimeSt) : (m.onTime f).recd = m.recd := rfl
@[simp] theorem Mod.onTime_io (m : Mod) (f : TimeSt → TimeSt) : (m.onTime f).io = m.io := rfl
@[simp] theorem Mod.onTime_txn (m : Mod) (f : TimeSt → TimeSt) : (m.onTime f).txn = m.txn := rfl
@[simp] theorem Mod.onTime_can (m : Mod) (f : TimeSt → TimeSt) : (m.onTime f).can = m.can := rfl
@[simp] theorem Mod.onTime_fab (m : Mod) (f : TimeSt → TimeSt) : (m.onTime f).fab = m.fab := rfl
@[simp] theorem Mod.onTime_tw (m : Mod) (f : TimeSt → TimeSt) : (m.onTime f).tw = m.tw := rfl
@[simp] theorem Mod.onTime_sec (m : Mod) (f : TimeSt → TimeSt) : (m.onTime f).sec = m.sec := rfl
@[simp] theorem Mod.onTime_fw (m : Mod) (f : TimeSt → TimeSt) : (m.onTime f).fw = m.fw := rfl
@[simp] theorem Mod.onTime_freeCtr (m : Mod) (f : TimeSt → TimeSt) : (m.onTime f).freeCtr = m.freeCtr := rfl
@[simp] theorem Mod.onTime_time (m : Mod) (f : TimeSt → TimeSt) : (m.onTime f).time = f m.time := rfl

@[simp] theorem Mod.onCan_id (m : Mod) (p : Nat) (f : CanPort → CanPort) : (m.onCan p f).id = m.id := rfl
@[simp] theorem Mod.onCan_raw (m : Mod) (p : Nat) (f : CanPort → CanPort) : (m.onCan p f).raw = m.raw := rfl
@[simp] theorem Mod.onCan_tickAt (m : Mod) (p : Nat) (f : CanPort → CanPort) : (m.onCan p f).tickAt = m.tickAt := rfl
@[simp] theorem Mod.onCan_sup (m : Mod) (p : Nat) (f : CanPort → CanPort) : (m.onCan p f).sup = m.sup := rfl
@[simp] theorem Mod.onCan_gov (m : Mod) (p : Nat) (f : CanPort → CanPort) : (m.onCan p f).gov = m.gov := rfl
@[simp] theorem Mod.onCan_clk (m : Mod) (p : Nat) (f : CanPort → CanPort) : (m.onCan p f).clk = m.clk := rfl
@[simp] theorem Mod.onCan_mode (m : Mod) (p : Nat) (f : CanPort → CanPort) : (m.onCan p f).mode = m.mode := rfl
@[simp] theorem Mod.onCan_start (m : Mod) (p : Nat) (f : CanPort → CanPort) : (m.onCan p f).start = m.start := rfl
@[simp] theorem Mod.onCan_srst (m : Mod) (p : Nat) (f : CanPort → CanPort) : (m.onCan p f).srst = m.srst := rfl
@[simp] theorem Mod.onCan_nv (m : Mod) (p : Nat) (f : CanPort → CanPort) : (m.onCan p f).nv = m.nv := rfl
@[simp] theorem Mod.onCan_obs (m : Mod) (p : Nat) (f : CanPort → CanPort) : (m.onCan p f).obs = m.obs := rfl
@[simp] theorem Mod.onCan_host (m : Mod) (p : Nat) (f : CanPort → CanPort) : (m.onCan p f).host = m.host := rfl
@[simp] theorem Mod.onCan_live (m : Mod) (p : Nat) (f : CanPort → CanPort) : (m.onCan p f).live = m.live := rfl
@[simp] theorem Mod.onCan_due (m : Mod) (p : Nat) (f : CanPort → CanPort) : (m.onCan p f).due = m.due := rfl
@[simp] theorem Mod.onCan_ax (m : Mod) (p : Nat) (f : CanPort → CanPort) : (m.onCan p f).ax = m.ax := rfl
@[simp] theorem Mod.onCan_po (m : Mod) (p : Nat) (f : CanPort → CanPort) : (m.onCan p f).po = m.po := rfl
@[simp] theorem Mod.onCan_side (m : Mod) (p : Nat) (f : CanPort → CanPort) : (m.onCan p f).side = m.side := rfl
@[simp] theorem Mod.onCan_ob (m : Mod) (p : Nat) (f : CanPort → CanPort) : (m.onCan p f).ob = m.ob := rfl
@[simp] theorem Mod.onCan_saf (m : Mod) (p : Nat) (f : CanPort → CanPort) : (m.onCan p f).saf = m.saf := rfl
@[simp] theorem Mod.onCan_time (m : Mod) (p : Nat) (f : CanPort → CanPort) : (m.onCan p f).time = m.time := rfl
@[simp] theorem Mod.onCan_recd (m : Mod) (p : Nat) (f : CanPort → CanPort) : (m.onCan p f).recd = m.recd := rfl
@[simp] theorem Mod.onCan_io (m : Mod) (p : Nat) (f : CanPort → CanPort) : (m.onCan p f).io = m.io := rfl
@[simp] theorem Mod.onCan_txn (m : Mod) (p : Nat) (f : CanPort → CanPort) : (m.onCan p f).txn = m.txn := rfl
@[simp] theorem Mod.onCan_fab (m : Mod) (p : Nat) (f : CanPort → CanPort) : (m.onCan p f).fab = m.fab := rfl
@[simp] theorem Mod.onCan_tw (m : Mod) (p : Nat) (f : CanPort → CanPort) : (m.onCan p f).tw = m.tw := rfl
@[simp] theorem Mod.onCan_sec (m : Mod) (p : Nat) (f : CanPort → CanPort) : (m.onCan p f).sec = m.sec := rfl
@[simp] theorem Mod.onCan_fw (m : Mod) (p : Nat) (f : CanPort → CanPort) : (m.onCan p f).fw = m.fw := rfl
@[simp] theorem Mod.onCan_freeCtr (m : Mod) (p : Nat) (f : CanPort → CanPort) : (m.onCan p f).freeCtr = m.freeCtr := rfl
@[simp] theorem Mod.onCan_can (m : Mod) (p : Nat) (f : CanPort → CanPort) : (m.onCan p f).can = upd m.can p f := rfl

@[simp] theorem Mod.onIo_id (m : Mod) (f : IoSt → IoSt) : (m.onIo f).id = m.id := rfl
@[simp] theorem Mod.onIo_raw (m : Mod) (f : IoSt → IoSt) : (m.onIo f).raw = m.raw := rfl
@[simp] theorem Mod.onIo_tickAt (m : Mod) (f : IoSt → IoSt) : (m.onIo f).tickAt = m.tickAt := rfl
@[simp] theorem Mod.onIo_sup (m : Mod) (f : IoSt → IoSt) : (m.onIo f).sup = m.sup := rfl
@[simp] theorem Mod.onIo_gov (m : Mod) (f : IoSt → IoSt) : (m.onIo f).gov = m.gov := rfl
@[simp] theorem Mod.onIo_clk (m : Mod) (f : IoSt → IoSt) : (m.onIo f).clk = m.clk := rfl
@[simp] theorem Mod.onIo_mode (m : Mod) (f : IoSt → IoSt) : (m.onIo f).mode = m.mode := rfl
@[simp] theorem Mod.onIo_start (m : Mod) (f : IoSt → IoSt) : (m.onIo f).start = m.start := rfl
@[simp] theorem Mod.onIo_srst (m : Mod) (f : IoSt → IoSt) : (m.onIo f).srst = m.srst := rfl
@[simp] theorem Mod.onIo_nv (m : Mod) (f : IoSt → IoSt) : (m.onIo f).nv = m.nv := rfl
@[simp] theorem Mod.onIo_obs (m : Mod) (f : IoSt → IoSt) : (m.onIo f).obs = m.obs := rfl
@[simp] theorem Mod.onIo_host (m : Mod) (f : IoSt → IoSt) : (m.onIo f).host = m.host := rfl
@[simp] theorem Mod.onIo_live (m : Mod) (f : IoSt → IoSt) : (m.onIo f).live = m.live := rfl
@[simp] theorem Mod.onIo_due (m : Mod) (f : IoSt → IoSt) : (m.onIo f).due = m.due := rfl
@[simp] theorem Mod.onIo_ax (m : Mod) (f : IoSt → IoSt) : (m.onIo f).ax = m.ax := rfl
@[simp] theorem Mod.onIo_po (m : Mod) (f : IoSt → IoSt) : (m.onIo f).po = m.po := rfl
@[simp] theorem Mod.onIo_side (m : Mod) (f : IoSt → IoSt) : (m.onIo f).side = m.side := rfl
@[simp] theorem Mod.onIo_ob (m : Mod) (f : IoSt → IoSt) : (m.onIo f).ob = m.ob := rfl
@[simp] theorem Mod.onIo_saf (m : Mod) (f : IoSt → IoSt) : (m.onIo f).saf = m.saf := rfl
@[simp] theorem Mod.onIo_time (m : Mod) (f : IoSt → IoSt) : (m.onIo f).time = m.time := rfl
@[simp] theorem Mod.onIo_recd (m : Mod) (f : IoSt → IoSt) : (m.onIo f).recd = m.recd := rfl
@[simp] theorem Mod.onIo_txn (m : Mod) (f : IoSt → IoSt) : (m.onIo f).txn = m.txn := rfl
@[simp] theorem Mod.onIo_can (m : Mod) (f : IoSt → IoSt) : (m.onIo f).can = m.can := rfl
@[simp] theorem Mod.onIo_fab (m : Mod) (f : IoSt → IoSt) : (m.onIo f).fab = m.fab := rfl
@[simp] theorem Mod.onIo_tw (m : Mod) (f : IoSt → IoSt) : (m.onIo f).tw = m.tw := rfl
@[simp] theorem Mod.onIo_sec (m : Mod) (f : IoSt → IoSt) : (m.onIo f).sec = m.sec := rfl
@[simp] theorem Mod.onIo_fw (m : Mod) (f : IoSt → IoSt) : (m.onIo f).fw = m.fw := rfl
@[simp] theorem Mod.onIo_freeCtr (m : Mod) (f : IoSt → IoSt) : (m.onIo f).freeCtr = m.freeCtr := rfl
@[simp] theorem Mod.onIo_io (m : Mod) (f : IoSt → IoSt) : (m.onIo f).io = f m.io := rfl

@[simp] theorem Mod.onTxn_id (m : Mod) (f : TxnSt → TxnSt) : (m.onTxn f).id = m.id := rfl
@[simp] theorem Mod.onTxn_raw (m : Mod) (f : TxnSt → TxnSt) : (m.onTxn f).raw = m.raw := rfl
@[simp] theorem Mod.onTxn_tickAt (m : Mod) (f : TxnSt → TxnSt) : (m.onTxn f).tickAt = m.tickAt := rfl
@[simp] theorem Mod.onTxn_sup (m : Mod) (f : TxnSt → TxnSt) : (m.onTxn f).sup = m.sup := rfl
@[simp] theorem Mod.onTxn_gov (m : Mod) (f : TxnSt → TxnSt) : (m.onTxn f).gov = m.gov := rfl
@[simp] theorem Mod.onTxn_clk (m : Mod) (f : TxnSt → TxnSt) : (m.onTxn f).clk = m.clk := rfl
@[simp] theorem Mod.onTxn_mode (m : Mod) (f : TxnSt → TxnSt) : (m.onTxn f).mode = m.mode := rfl
@[simp] theorem Mod.onTxn_start (m : Mod) (f : TxnSt → TxnSt) : (m.onTxn f).start = m.start := rfl
@[simp] theorem Mod.onTxn_srst (m : Mod) (f : TxnSt → TxnSt) : (m.onTxn f).srst = m.srst := rfl
@[simp] theorem Mod.onTxn_nv (m : Mod) (f : TxnSt → TxnSt) : (m.onTxn f).nv = m.nv := rfl
@[simp] theorem Mod.onTxn_obs (m : Mod) (f : TxnSt → TxnSt) : (m.onTxn f).obs = m.obs := rfl
@[simp] theorem Mod.onTxn_host (m : Mod) (f : TxnSt → TxnSt) : (m.onTxn f).host = m.host := rfl
@[simp] theorem Mod.onTxn_live (m : Mod) (f : TxnSt → TxnSt) : (m.onTxn f).live = m.live := rfl
@[simp] theorem Mod.onTxn_due (m : Mod) (f : TxnSt → TxnSt) : (m.onTxn f).due = m.due := rfl
@[simp] theorem Mod.onTxn_ax (m : Mod) (f : TxnSt → TxnSt) : (m.onTxn f).ax = m.ax := rfl
@[simp] theorem Mod.onTxn_po (m : Mod) (f : TxnSt → TxnSt) : (m.onTxn f).po = m.po := rfl
@[simp] theorem Mod.onTxn_side (m : Mod) (f : TxnSt → TxnSt) : (m.onTxn f).side = m.side := rfl
@[simp] theorem Mod.onTxn_ob (m : Mod) (f : TxnSt → TxnSt) : (m.onTxn f).ob = m.ob := rfl
@[simp] theorem Mod.onTxn_saf (m : Mod) (f : TxnSt → TxnSt) : (m.onTxn f).saf = m.saf := rfl
@[simp] theorem Mod.onTxn_time (m : Mod) (f : TxnSt → TxnSt) : (m.onTxn f).time = m.time := rfl
@[simp] theorem Mod.onTxn_recd (m : Mod) (f : TxnSt → TxnSt) : (m.onTxn f).recd = m.recd := rfl
@[simp] theorem Mod.onTxn_io (m : Mod) (f : TxnSt → TxnSt) : (m.onTxn f).io = m.io := rfl
@[simp] theorem Mod.onTxn_can (m : Mod) (f : TxnSt → TxnSt) : (m.onTxn f).can = m.can := rfl
@[simp] theorem Mod.onTxn_fab (m : Mod) (f : TxnSt → TxnSt) : (m.onTxn f).fab = m.fab := rfl
@[simp] theorem Mod.onTxn_tw (m : Mod) (f : TxnSt → TxnSt) : (m.onTxn f).tw = m.tw := rfl
@[simp] theorem Mod.onTxn_sec (m : Mod) (f : TxnSt → TxnSt) : (m.onTxn f).sec = m.sec := rfl
@[simp] theorem Mod.onTxn_fw (m : Mod) (f : TxnSt → TxnSt) : (m.onTxn f).fw = m.fw := rfl
@[simp] theorem Mod.onTxn_freeCtr (m : Mod) (f : TxnSt → TxnSt) : (m.onTxn f).freeCtr = m.freeCtr := rfl
@[simp] theorem Mod.onTxn_txn (m : Mod) (f : TxnSt → TxnSt) : (m.onTxn f).txn = f m.txn := rfl

@[simp] theorem Mod.faultBit_id (m : Mod) (k : Nat) : (m.faultBit k).id = m.id := rfl
@[simp] theorem Mod.faultBit_raw (m : Mod) (k : Nat) : (m.faultBit k).raw = m.raw := rfl
@[simp] theorem Mod.faultBit_tickAt (m : Mod) (k : Nat) : (m.faultBit k).tickAt = m.tickAt := rfl
@[simp] theorem Mod.faultBit_sup (m : Mod) (k : Nat) : (m.faultBit k).sup = m.sup := rfl
@[simp] theorem Mod.faultBit_gov (m : Mod) (k : Nat) : (m.faultBit k).gov = m.gov := rfl
@[simp] theorem Mod.faultBit_clk (m : Mod) (k : Nat) : (m.faultBit k).clk = m.clk := rfl
@[simp] theorem Mod.faultBit_mode (m : Mod) (k : Nat) : (m.faultBit k).mode = m.mode := rfl
@[simp] theorem Mod.faultBit_start (m : Mod) (k : Nat) : (m.faultBit k).start = m.start := rfl
@[simp] theorem Mod.faultBit_srst (m : Mod) (k : Nat) : (m.faultBit k).srst = m.srst := rfl
@[simp] theorem Mod.faultBit_nv (m : Mod) (k : Nat) : (m.faultBit k).nv = m.nv := rfl
@[simp] theorem Mod.faultBit_obs (m : Mod) (k : Nat) : (m.faultBit k).obs = m.obs := rfl
@[simp] theorem Mod.faultBit_live (m : Mod) (k : Nat) : (m.faultBit k).live = m.live := rfl
@[simp] theorem Mod.faultBit_due (m : Mod) (k : Nat) : (m.faultBit k).due = m.due := rfl
@[simp] theorem Mod.faultBit_ax (m : Mod) (k : Nat) : (m.faultBit k).ax = m.ax := rfl
@[simp] theorem Mod.faultBit_po (m : Mod) (k : Nat) : (m.faultBit k).po = m.po := rfl
@[simp] theorem Mod.faultBit_side (m : Mod) (k : Nat) : (m.faultBit k).side = m.side := rfl
@[simp] theorem Mod.faultBit_ob (m : Mod) (k : Nat) : (m.faultBit k).ob = m.ob := rfl
@[simp] theorem Mod.faultBit_saf (m : Mod) (k : Nat) : (m.faultBit k).saf = m.saf := rfl
@[simp] theorem Mod.faultBit_time (m : Mod) (k : Nat) : (m.faultBit k).time = m.time := rfl
@[simp] theorem Mod.faultBit_recd (m : Mod) (k : Nat) : (m.faultBit k).recd = m.recd := rfl
@[simp] theorem Mod.faultBit_io (m : Mod) (k : Nat) : (m.faultBit k).io = m.io := rfl
@[simp] theorem Mod.faultBit_txn (m : Mod) (k : Nat) : (m.faultBit k).txn = m.txn := rfl
@[simp] theorem Mod.faultBit_can (m : Mod) (k : Nat) : (m.faultBit k).can = m.can := rfl
@[simp] theorem Mod.faultBit_fab (m : Mod) (k : Nat) : (m.faultBit k).fab = m.fab := rfl
@[simp] theorem Mod.faultBit_tw (m : Mod) (k : Nat) : (m.faultBit k).tw = m.tw := rfl
@[simp] theorem Mod.faultBit_sec (m : Mod) (k : Nat) : (m.faultBit k).sec = m.sec := rfl
@[simp] theorem Mod.faultBit_fw (m : Mod) (k : Nat) : (m.faultBit k).fw = m.fw := rfl
@[simp] theorem Mod.faultBit_freeCtr (m : Mod) (k : Nat) : (m.faultBit k).freeCtr = m.freeCtr := rfl
@[simp] theorem Mod.faultBit_host (m : Mod) (k : Nat) : (m.faultBit k).host = { m.host with faultBits := m.host.faultBits ||| 2 ^ k } := rfl

@[simp] theorem Mod.send_id (m : Mod) (l k d : Nat) (b : List Int) : (m.send l k d b).id = m.id := rfl
@[simp] theorem Mod.send_raw (m : Mod) (l k d : Nat) (b : List Int) : (m.send l k d b).raw = m.raw := rfl
@[simp] theorem Mod.send_tickAt (m : Mod) (l k d : Nat) (b : List Int) : (m.send l k d b).tickAt = m.tickAt := rfl
@[simp] theorem Mod.send_sup (m : Mod) (l k d : Nat) (b : List Int) : (m.send l k d b).sup = m.sup := rfl
@[simp] theorem Mod.send_gov (m : Mod) (l k d : Nat) (b : List Int) : (m.send l k d b).gov = m.gov := rfl
@[simp] theorem Mod.send_clk (m : Mod) (l k d : Nat) (b : List Int) : (m.send l k d b).clk = m.clk := rfl
@[simp] theorem Mod.send_mode (m : Mod) (l k d : Nat) (b : List Int) : (m.send l k d b).mode = m.mode := rfl
@[simp] theorem Mod.send_start (m : Mod) (l k d : Nat) (b : List Int) : (m.send l k d b).start = m.start := rfl
@[simp] theorem Mod.send_srst (m : Mod) (l k d : Nat) (b : List Int) : (m.send l k d b).srst = m.srst := rfl
@[simp] theorem Mod.send_nv (m : Mod) (l k d : Nat) (b : List Int) : (m.send l k d b).nv = m.nv := rfl
@[simp] theorem Mod.send_obs (m : Mod) (l k d : Nat) (b : List Int) : (m.send l k d b).obs = m.obs := rfl
@[simp] theorem Mod.send_host (m : Mod) (l k d : Nat) (b : List Int) : (m.send l k d b).host = m.host := rfl
@[simp] theorem Mod.send_live (m : Mod) (l k d : Nat) (b : List Int) : (m.send l k d b).live = m.live := rfl
@[simp] theorem Mod.send_due (m : Mod) (l k d : Nat) (b : List Int) : (m.send l k d b).due = m.due := rfl
@[simp] theorem Mod.send_ax (m : Mod) (l k d : Nat) (b : List Int) : (m.send l k d b).ax = m.ax := rfl
@[simp] theorem Mod.send_po (m : Mod) (l k d : Nat) (b : List Int) : (m.send l k d b).po = m.po := rfl
@[simp] theorem Mod.send_side (m : Mod) (l k d : Nat) (b : List Int) : (m.send l k d b).side = m.side := rfl
@[simp] theorem Mod.send_ob (m : Mod) (l k d : Nat) (b : List Int) : (m.send l k d b).ob = m.ob := rfl
@[simp] theorem Mod.send_saf (m : Mod) (l k d : Nat) (b : List Int) : (m.send l k d b).saf = m.saf := rfl
@[simp] theorem Mod.send_time (m : Mod) (l k d : Nat) (b : List Int) : (m.send l k d b).time = m.time := rfl
@[simp] theorem Mod.send_recd (m : Mod) (l k d : Nat) (b : List Int) : (m.send l k d b).recd = m.recd := rfl
@[simp] theorem Mod.send_io (m : Mod) (l k d : Nat) (b : List Int) : (m.send l k d b).io = m.io := rfl
@[simp] theorem Mod.send_txn (m : Mod) (l k d : Nat) (b : List Int) : (m.send l k d b).txn = m.txn := rfl
@[simp] theorem Mod.send_can (m : Mod) (l k d : Nat) (b : List Int) : (m.send l k d b).can = m.can := rfl
@[simp] theorem Mod.send_tw (m : Mod) (l k d : Nat) (b : List Int) : (m.send l k d b).tw = m.tw := rfl
@[simp] theorem Mod.send_sec (m : Mod) (l k d : Nat) (b : List Int) : (m.send l k d b).sec = m.sec := rfl
@[simp] theorem Mod.send_fw (m : Mod) (l k d : Nat) (b : List Int) : (m.send l k d b).fw = m.fw := rfl
@[simp] theorem Mod.send_freeCtr (m : Mod) (l k d : Nat) (b : List Int) : (m.send l k d b).freeCtr = m.freeCtr := rfl
@[simp] theorem Mod.send_fab (m : Mod) (l k d : Nat) (b : List Int) : (m.send l k d b).fab = { m.fab with sent := m.fab.sent ++ [⟨l, k, d, b, []⟩] } := rfl

@[simp] theorem Mod.advance_id (m : Mod) (t : Nat) : (m.advance t).id = m.id := rfl
@[simp] theorem Mod.advance_tickAt (m : Mod) (t : Nat) : (m.advance t).tickAt = m.tickAt := rfl
@[simp] theorem Mod.advance_sup (m : Mod) (t : Nat) : (m.advance t).sup = m.sup := rfl
@[simp] theorem Mod.advance_gov (m : Mod) (t : Nat) : (m.advance t).gov = m.gov := rfl
@[simp] theorem Mod.advance_clk (m : Mod) (t : Nat) : (m.advance t).clk = m.clk := rfl
@[simp] theorem Mod.advance_mode (m : Mod) (t : Nat) : (m.advance t).mode = m.mode := rfl
@[simp] theorem Mod.advance_start (m : Mod) (t : Nat) : (m.advance t).start = m.start := rfl
@[simp] theorem Mod.advance_srst (m : Mod) (t : Nat) : (m.advance t).srst = m.srst := rfl
@[simp] theorem Mod.advance_nv (m : Mod) (t : Nat) : (m.advance t).nv = m.nv := rfl
@[simp] theorem Mod.advance_obs (m : Mod) (t : Nat) : (m.advance t).obs = m.obs := rfl
@[simp] theorem Mod.advance_host (m : Mod) (t : Nat) : (m.advance t).host = m.host := rfl
@[simp] theorem Mod.advance_live (m : Mod) (t : Nat) : (m.advance t).live = m.live := rfl
@[simp] theorem Mod.advance_due (m : Mod) (t : Nat) : (m.advance t).due = m.due := rfl
@[simp] theorem Mod.advance_ax (m : Mod) (t : Nat) : (m.advance t).ax = m.ax := rfl
@[simp] theorem Mod.advance_po (m : Mod) (t : Nat) : (m.advance t).po = m.po := rfl
@[simp] theorem Mod.advance_side (m : Mod) (t : Nat) : (m.advance t).side = m.side := rfl
@[simp] theorem Mod.advance_ob (m : Mod) (t : Nat) : (m.advance t).ob = m.ob := rfl
@[simp] theorem Mod.advance_saf (m : Mod) (t : Nat) : (m.advance t).saf = m.saf := rfl
@[simp] theorem Mod.advance_time (m : Mod) (t : Nat) : (m.advance t).time = m.time := rfl
@[simp] theorem Mod.advance_recd (m : Mod) (t : Nat) : (m.advance t).recd = m.recd := rfl
@[simp] theorem Mod.advance_io (m : Mod) (t : Nat) : (m.advance t).io = m.io := rfl
@[simp] theorem Mod.advance_txn (m : Mod) (t : Nat) : (m.advance t).txn = m.txn := rfl
@[simp] theorem Mod.advance_can (m : Mod) (t : Nat) : (m.advance t).can = m.can := rfl
@[simp] theorem Mod.advance_fab (m : Mod) (t : Nat) : (m.advance t).fab = m.fab := rfl
@[simp] theorem Mod.advance_tw (m : Mod) (t : Nat) : (m.advance t).tw = m.tw := rfl
@[simp] theorem Mod.advance_sec (m : Mod) (t : Nat) : (m.advance t).sec = m.sec := rfl
@[simp] theorem Mod.advance_fw (m : Mod) (t : Nat) : (m.advance t).fw = m.fw := rfl
@[simp] theorem Mod.advance_freeCtr (m : Mod) (t : Nat) : (m.advance t).freeCtr = m.freeCtr := rfl
@[simp] theorem Mod.advance_raw (m : Mod) (t : Nat) : (m.advance t).raw = max m.raw t := rfl

@[simp] theorem Mod.dropOps_id (m : Mod) (f : LongOp → Bool) : (m.dropOps f).id = m.id := rfl
@[simp] theorem Mod.dropOps_raw (m : Mod) (f : LongOp → Bool) : (m.dropOps f).raw = m.raw := rfl
@[simp] theorem Mod.dropOps_tickAt (m : Mod) (f : LongOp → Bool) : (m.dropOps f).tickAt = m.tickAt := rfl
@[simp] theorem Mod.dropOps_sup (m : Mod) (f : LongOp → Bool) : (m.dropOps f).sup = m.sup := rfl
@[simp] theorem Mod.dropOps_gov (m : Mod) (f : LongOp → Bool) : (m.dropOps f).gov = m.gov := rfl
@[simp] theorem Mod.dropOps_clk (m : Mod) (f : LongOp → Bool) : (m.dropOps f).clk = m.clk := rfl
@[simp] theorem Mod.dropOps_mode (m : Mod) (f : LongOp → Bool) : (m.dropOps f).mode = m.mode := rfl
@[simp] theorem Mod.dropOps_start (m : Mod) (f : LongOp → Bool) : (m.dropOps f).start = m.start := rfl
@[simp] theorem Mod.dropOps_srst (m : Mod) (f : LongOp → Bool) : (m.dropOps f).srst = m.srst := rfl
@[simp] theorem Mod.dropOps_nv (m : Mod) (f : LongOp → Bool) : (m.dropOps f).nv = m.nv := rfl
@[simp] theorem Mod.dropOps_obs (m : Mod) (f : LongOp → Bool) : (m.dropOps f).obs = m.obs := rfl
@[simp] theorem Mod.dropOps_live (m : Mod) (f : LongOp → Bool) : (m.dropOps f).live = m.live := rfl
@[simp] theorem Mod.dropOps_due (m : Mod) (f : LongOp → Bool) : (m.dropOps f).due = m.due := rfl
@[simp] theorem Mod.dropOps_ax (m : Mod) (f : LongOp → Bool) : (m.dropOps f).ax = m.ax := rfl
@[simp] theorem Mod.dropOps_po (m : Mod) (f : LongOp → Bool) : (m.dropOps f).po = m.po := rfl
@[simp] theorem Mod.dropOps_side (m : Mod) (f : LongOp → Bool) : (m.dropOps f).side = m.side := rfl
@[simp] theorem Mod.dropOps_ob (m : Mod) (f : LongOp → Bool) : (m.dropOps f).ob = m.ob := rfl
@[simp] theorem Mod.dropOps_saf (m : Mod) (f : LongOp → Bool) : (m.dropOps f).saf = m.saf := rfl
@[simp] theorem Mod.dropOps_time (m : Mod) (f : LongOp → Bool) : (m.dropOps f).time = m.time := rfl
@[simp] theorem Mod.dropOps_recd (m : Mod) (f : LongOp → Bool) : (m.dropOps f).recd = m.recd := rfl
@[simp] theorem Mod.dropOps_io (m : Mod) (f : LongOp → Bool) : (m.dropOps f).io = m.io := rfl
@[simp] theorem Mod.dropOps_txn (m : Mod) (f : LongOp → Bool) : (m.dropOps f).txn = m.txn := rfl
@[simp] theorem Mod.dropOps_can (m : Mod) (f : LongOp → Bool) : (m.dropOps f).can = m.can := rfl
@[simp] theorem Mod.dropOps_fab (m : Mod) (f : LongOp → Bool) : (m.dropOps f).fab = m.fab := rfl
@[simp] theorem Mod.dropOps_tw (m : Mod) (f : LongOp → Bool) : (m.dropOps f).tw = m.tw := rfl
@[simp] theorem Mod.dropOps_sec (m : Mod) (f : LongOp → Bool) : (m.dropOps f).sec = m.sec := rfl
@[simp] theorem Mod.dropOps_fw (m : Mod) (f : LongOp → Bool) : (m.dropOps f).fw = m.fw := rfl
@[simp] theorem Mod.dropOps_freeCtr (m : Mod) (f : LongOp → Bool) : (m.dropOps f).freeCtr = m.freeCtr := rfl
@[simp] theorem Mod.dropOps_host (m : Mod) (f : LongOp → Bool) : (m.dropOps f).host = { m.host with ops := m.host.ops.filter (fun o => !f o) } := rfl

/-! ### One element of a list -/

@[simp] theorem upd_length {α : Type} (l : List α) (i : Nat) (f : α → α) : (upd l i f).length = l.length := by
  induction l generalizing i with
  | nil => rfl
  | cons a r ih => cases i with
    | zero => rfl
    | succ k => simp [upd, ih]

theorem upd_getElem? {α : Type} (l : List α) (i j : Nat) (f : α → α) :
    (upd l i f)[j]? = if i = j then l[j]?.map f else l[j]? := by
  induction l generalizing i j with
  | nil => simp [upd]
  | cons a r ih => cases i with
    | zero => cases j <;> simp [upd]
    | succ k => cases j with
      | zero => simp [upd]
      | succ n => simp [upd, ih]

/-- An element that is there reads as changed, every other as before. -/
theorem upd_getD {α : Type} (l : List α) (i j : Nat) (f : α → α) (d : α) :
    (upd l i f).getD j d = if i = j ∧ j < l.length then f (l.getD j d) else l.getD j d := by
  simp only [List.getD_eq_getElem?_getD, upd_getElem?]
  by_cases h : i = j
  · subst h
    by_cases h2 : i < l.length
    · simp [h2]
    · simp [h2]
  · simp [h]

@[simp] theorem upd_map {α β : Type} (l : List α) (i : Nat) (f : α → α) (g : α → β) (h : ∀ a, g (f a) = g a) :
    (upd l i f).map g = l.map g := by
  induction l generalizing i with
  | nil => rfl
  | cons a r ih => cases i with
    | zero => simp [upd, h]
    | succ k => simp [upd, ih]

/-- The two sides. -/
@[simp] theorem LR.get_map1_self {α : Type} (x : LR α) (s : Side) (f : α → α) : (x.map1 s f).get s = f (x.get s) := by
  cases s <;> rfl

theorem LR.get_map1_other {α : Type} (x : LR α) (s t : Side) (f : α → α) (h : s ≠ t) : (x.map1 s f).get t = x.get t := by
  cases s <;> cases t <;> first | rfl | exact absurd rfl h

end Sys2Proof.Machine
end

