-- ==== Sys2Proof/Laws/Logged.lean ====
section
/-! SUPPORT. What events, interrupts and completions can do: everything else stays (Safety.Logged), an event is in the
log, a completion is fixed. One lemma per operation. -/
namespace Sys2Proof.Safety

open Sys2Proof.Machine

theorem Logged.refl (m : Mod) : Logged m m :=
  ⟨rfl, rfl, rfl, List.prefix_refl _, List.prefix_refl _⟩

theorem Logged.trans {a b c : Mod} (h : Logged a b) (k : Logged b c) : Logged a c := by
  refine ⟨?_, k.cycles.trans h.cycles, k.rings.trans h.rings, h.log.trans k.log, h.cpls.trans k.cpls⟩
  rw [k.same, h.same]

/-- A choice of two that only log only logs. -/
theorem Logged.ite {a x y : Mod} {c : Prop} [Decidable c] (hx : Logged a x) (hy : Logged a y) :
    Logged a (if c then x else y) := by
  split
  · exact hx
  · exact hy

/-- A fold of steps that only log only logs. -/
theorem Logged.foldl {α : Type} (l : List α) (f : Mod → α → Mod) (h : ∀ m a, Logged m (f m a)) (m : Mod) :
    Logged m (l.foldl f m) := by
  induction l generalizing m with
  | nil => exact Logged.refl m
  | cons a r ih => exact (h m a).trans (ih (f m a))

/-- Changing rings but not their set-up only logs. -/
theorem Logged.onRing (m : Mod) (i : Nat) (f : Ring → Ring) (h : ∀ r, setupOf (f r) = setupOf r) :
    Logged m (m.onRing i f) :=
  ⟨rfl, rfl, by simp [upd_map _ _ _ _ h], List.prefix_refl _, List.prefix_refl _⟩

theorem Logged.onRec (m : Mod) (f : RecSt → RecSt) (h : m.recd.log <+: (f m.recd).log) : Logged m (m.onRec f) :=
  ⟨rfl, rfl, rfl, h, List.prefix_refl _⟩

theorem Logged.onInc (m : Mod) (f : Inc → Inc) : Logged m (m.onInc f) :=
  ⟨rfl, rfl, rfl, List.prefix_refl _, List.prefix_refl _⟩

theorem Logged.raiseVec (m : Mod) (k : Nat) : Logged m (m.raiseVec k) := by
  unfold Mod.raiseVec
  split
  · split <;> exact ⟨rfl, rfl, rfl, List.prefix_refl _, List.prefix_refl _⟩
  · exact Logged.refl m

theorem Logged.ringVec (m : Mod) (i : Nat) : Logged m (m.ringVec i) :=
  Logged.trans (Logged.onRing m i (fun r => { r with count := 0, since := none }) (fun _ => rfl)) (Logged.raiseVec _ _)

theorem Logged.countEntry (m : Mod) (i : Nat) (b : Bool) : Logged m (m.countEntry i b) := by
  unfold Mod.countEntry
  simp only
  split
  · refine .trans ?_ (Logged.ringVec _ _)
    exact Logged.onRing m i _ (fun _ => rfl)
  · exact Logged.onRing m i _ (fun _ => rfl)

theorem Logged.evrec (m : Mod) (x : List EvRec) : Logged m { m with host := { m.host with evrecs := x } } :=
  ⟨rfl, rfl, rfl, List.prefix_refl _, List.prefix_refl _⟩

theorem Logged.offer (m : Mod) (ev : Ev) (i : Nat) : Logged m (m.offer ev i) := by
  unfold Mod.offer
  simp only
  split
  · split
    · refine .trans ?_ (Logged.countEntry _ _ _)
      refine .trans ?_ (Logged.evrec _ _)
      exact Logged.onRing m i _ (fun _ => rfl)
    · exact Logged.onRing m i _ (fun _ => rfl)
  · exact Logged.refl m

theorem Logged.offerAll (m : Mod) (ev : Ev) : Logged m (m.offerAll ev) :=
  Logged.foldl _ _ (fun m i => Logged.offer m ev i) m

/-- Marking a cycle's account only logs. -/
theorem Logged.onPo (m : Mod) (p : Nat) (f : Portal → Portal)
    (h : ∀ q, ({ (f q) with cyc := none } : Portal) = { q with cyc := none }) : Logged m (m.onPo p f) :=
  ⟨rfl, by simp only [noCyc, Mod.onPo_po]; exact upd_map _ _ _ _ h, rfl, List.prefix_refl _, List.prefix_refl _⟩

theorem Logged.noteFault (m : Mod) (code src : Nat) (pay : List Int) : Logged m (m.noteFault code src pay) := by
  unfold Mod.noteFault
  split
  · exact Logged.onPo m _ _ (fun _ => rfl)
  · exact Logged.refl m

theorem RecSt_sent_log (r : RecSt) (ev : Ev) : (r.sent ev).log = r.log := by
  unfold RecSt.sent; simp only; split <;> rfl

theorem RecSt_take_log (r : RecSt) (ev : Ev) (raw : Nat) : (r.take ev raw).log = r.log ++ [ev] := by
  simp only [RecSt.take, RecSt.store]
  split <;> simp [RecSt_sent_log]

theorem RecSt_put_log (r : RecSt) (pair : Bool) (x : JRec) : (r.put pair x).log = r.log := by
  unfold RecSt.put; split
  · split <;> rfl
  · rfl

theorem RecSt_closeBlk_log (r : RecSt) (pair : Bool) (raw flags : Nat) : (r.closeBlk pair raw flags).log = r.log := by
  unfold RecSt.closeBlk; split
  · rfl
  · exact RecSt_put_log _ _ _

theorem Mod_raiseVec_recd (m : Mod) (k : Nat) : (m.raiseVec k).recd = m.recd := by
  unfold Mod.raiseVec
  split
  · split <;> rfl
  · rfl

theorem Mod_countEntry_recd (m : Mod) (i : Nat) (b : Bool) : (m.countEntry i b).recd = m.recd := by
  unfold Mod.countEntry
  simp only
  split
  · simp only [Mod.ringVec, Mod_raiseVec_recd, Mod.onRing_recd]
  · rfl

theorem Mod_offer_recd (m : Mod) (ev : Ev) (i : Nat) : (m.offer ev i).recd = m.recd := by
  unfold Mod.offer
  simp only
  split
  · split
    · simp only [Mod_countEntry_recd, Mod.onRing_recd]
    · rfl
  · rfl

theorem Mod_offerAll_log (m : Mod) (ev : Ev) : (m.offerAll ev).recd = m.recd := by
  unfold Mod.offerAll
  generalize upto 32 = l
  induction l generalizing m with
  | nil => rfl
  | cons a r ih => simp only [List.foldl_cons]; rw [ih, Mod_offer_recd]

/-- The event an emission makes. -/
def evOf (m : Mod) (t : Int) (code src : Nat) (pay : List Int) : Ev := ⟨code, src, t, m.raw, pay, m.recd.evCount + 1⟩

theorem Mod_noteFault_recd (m : Mod) (code src : Nat) (pay : List Int) : (m.noteFault code src pay).recd = m.recd := by
  unfold Mod.noteFault; split <;> rfl

/-- An event is put at the end of the log. -/
theorem Mod_emitOne_log (m : Mod) (t : Int) (code src : Nat) (pay : List Int) :
    (m.emitOne t code src pay).recd.log = m.recd.log ++ [evOf m t code src pay] := by
  unfold Mod.emitOne
  simp only
  split
  · simp [Mod_noteFault_recd, evOf]
  · simp [Mod_offerAll_log, RecSt_take_log, Mod_noteFault_recd, evOf]

theorem Logged.emitOne (m : Mod) (t : Int) (code src : Nat) (pay : List Int) : Logged m (m.emitOne t code src pay) := by
  unfold Mod.emitOne
  simp only
  refine (Logged.noteFault m code src pay).trans ?_
  split
  · exact Logged.onRec _ _ (by simp)
  · refine (Logged.onRec _ _ ?_).trans (Logged.offerAll _ _)
    rw [RecSt_take_log]; exact List.prefix_append _ _

theorem Logged.closeBlock (m : Mod) (flags : Nat) : Logged m (m.closeBlock flags) := by
  have h : Logged m (m.onRec (fun r => r.closeBlk m.tw.pairFormed m.raw flags)) :=
    Logged.onRec _ _ (by simp only [RecSt_closeBlk_log, List.prefix_refl])
  unfold Mod.closeBlock
  split
  · exact Logged.refl m
  · simp only
    exact Logged.ite h (h.trans (Logged.emitOne _ _ _ _ _))

theorem Logged.settleBlk (m : Mod) : Logged m m.settleBlk := by
  unfold Mod.settleBlk
  exact Logged.ite (Logged.closeBlock m 0) (Logged.refl m)

theorem Logged.emitT (m : Mod) (t : Int) (code src : Nat) (pay : List Int) : Logged m (m.emitT t code src pay) :=
  (Logged.emitOne m t code src pay).trans (Logged.settleBlk _)

theorem Logged.settleSent (m : Mod) : Logged m m.settleSent := by
  unfold Mod.settleSent
  split
  · refine .trans ?_ (Logged.emitT _ _ _ _ _)
    exact Logged.onRec m _ (List.prefix_refl _)
  · exact Logged.refl m

theorem Logged.markCycles (m : Mod) (flag : Nat) (learn : Option Nat) : Logged m (m.markCycles flag learn) := by
  refine ⟨rfl, ?_, rfl, List.prefix_refl _, List.prefix_refl _⟩
  simp [noCyc, Mod.markCycles]

theorem Logged.trigger (m : Mod) (code : Nat) (t : Int) : Logged m (m.trigger code t) := by
  unfold Mod.trigger
  split
  · refine .trans ?_ (Logged.emitT _ _ _ _ _)
    refine .trans ?_ (Logged.markCycles _ _ _)
    refine .trans ?_ (Logged.onRec _ _ (List.prefix_refl _))
    exact Logged.onInc m _
  · exact Logged.refl m
  · refine Logged.ite ?_ ?_
    · refine .trans ?_ (Logged.emitT _ _ _ _ _)
      refine .trans ?_ (Logged.onInc _ _)
      exact Logged.onInc m _
    · exact Logged.onInc m _

/-- Everything an event can do: it logs. -/
theorem Logged.raiseT (m : Mod) (t : Int) (code src : Nat) (pay : List Int) : Logged m (m.raiseT t code src pay) := by
  unfold Mod.raiseT
  have h := (Logged.emitT m t code src pay).trans (Logged.settleSent _)
  simp only
  split
  · split
    · exact h.trans (Logged.trigger _ _ _)
    · exact h
  · exact h

theorem Logged.raise (m : Mod) (code src : Nat) (pay : List Int) : Logged m (m.raise code src pay) :=
  Logged.raiseT m _ code src pay

/-- A raised event is in the log, after everything logged before. -/
theorem Mod_raise_mem (m : Mod) (code src : Nat) (pay : List Int) :
    m.recd.log ++ [evOf m m.now code src pay] <+: (m.raise code src pay).recd.log := by
  rw [← Mod_emitOne_log]
  unfold Mod.raise Mod.raiseT Mod.emitT
  have h := (Logged.settleBlk (m.emitOne m.now code src pay)).trans (Logged.settleSent _)
  simp only
  split
  · split
    · exact (h.trans (Logged.trigger _ _ _)).log
    · exact h.log
  · exact h.log

/-! ### Completions -/

theorem Logged.addCpl (m : Mod) (c : Cpl) : Logged m { m with host := { m.host with cpls := m.host.cpls ++ [c] } } :=
  ⟨rfl, rfl, rfl, List.prefix_refl _, List.prefix_append _ _⟩

theorem Logged.writeCpl (m : Mod) (c : Cpl) : Logged m (m.writeCpl c) := by
  unfold Mod.writeCpl
  simp only
  split
  · refine .trans ?_ (Logged.countEntry _ _ _)
    refine .trans ?_ (Logged.addCpl _ _)
    exact Logged.onRing m _ _ (fun _ => rfl)
  · exact Logged.addCpl m _

theorem Logged.flushRing (m : Mod) (i : Nat) : Logged m (m.flushRing i) := by
  unfold Mod.flushRing
  simp only
  refine .trans ?_ (Logged.foldl _ _ (fun m c => Logged.writeCpl m c) _)
  exact Logged.onRing m i _ (fun _ => rfl)

theorem Logged.discard (m : Mod) (c : Cpl) : Logged m (m.discard c) := Logged.addCpl m _

/-- Everything a completion can do: it logs. -/
theorem Logged.complete (m : Mod) (h : Hdr) (r : Reply) : Logged m (m.complete h r) := by
  unfold Mod.complete
  simp only
  split
  · exact ⟨rfl, rfl, rfl, List.prefix_refl _, List.prefix_append _ _⟩
  · split
    · refine .trans ?_ (Logged.flushRing _ _)
      exact Logged.onRing m _ _ (fun _ => rfl)
    · exact Logged.discard m _

/-- A command that begins changes nothing but the entry of its descriptor. -/
theorem Logged.begin (m : Mod) (h : Hdr) : Logged m (m.begin h) := by
  unfold Mod.begin
  exact Logged.ite ⟨rfl, rfl, rfl, List.prefix_refl _, List.prefix_refl _⟩ (Logged.onRing m _ _ (fun _ => rfl))

/-- The module of a command that has begun, as a record update. -/
theorem Mod_begin_eq (m : Mod) (h : Hdr) :
    m.begin h = { m with host := { m.host with rings := (m.begin h).host.rings, gone := (m.begin h).host.gone } } := by
  unfold Mod.begin
  split <;> rfl

@[simp] theorem Mod_begin_alive (m : Mod) (h : Hdr) : (m.begin h).alive = m.alive := by
  unfold Mod.begin; split <;> rfl

@[simp] theorem Mod_begin_md (m : Mod) (h : Hdr) : (m.begin h).md = m.md := by
  unfold Mod.begin; split <;> rfl

@[simp] theorem Mod_begin_cpls (m : Mod) (h : Hdr) : (m.begin h).host.cpls = m.host.cpls := by
  unfold Mod.begin; split <;> rfl

theorem Logged.completeTo (m : Mod) (h : Option Hdr) (r : Reply) : Logged m (m.completeTo h r) := by
  cases h with
  | none => exact Logged.refl m
  | some h => exact Logged.complete m h r

/-- The health interrupt only logs. -/
theorem Logged.healthIrq (o m : Mod) : Logged m (healthIrq o m) := by
  unfold Machine.healthIrq
  split
  · exact Logged.raiseVec m _
  · exact Logged.refl m

/-- After an operation that only logs, the same predecessors are logged. -/
theorem Logged.of_eq {a b c : Mod} (h : Logged a b) (e : b = c) : Logged a c := e ▸ h

/-- Every part of the module but the recorder, the rings and the cycle accounts is the same. -/
theorem Logged.keeps {α : Type} {a b : Mod} (h : Logged a b) (f : Mod → α)
    (hf : ∀ (m : Mod) (r : RecSt) (p : List Portal) (x : HostSt), f { m with recd := r, po := p, host := x } = f m) :
    f b = f a := by
  rw [h.same]; exact hf a _ _ _

end Sys2Proof.Safety
end

