-- ==== Sys2Proof/Laws/Answer.lean ====
section
/-! SUPPORT. What a meaning answers: the outer forms of Health.lean, the event that was raised, the completion that was
fixed. -/
namespace Sys2Proof.Safety

open Sys2Proof.Machine

/-! ### The outer forms -/

/-- The copies of the areas of R99 that a command leaves depend on the module but for its host interface. -/
theorem Kept_after_irq (k : Kept) (par : PStore) (o a b : Mod) : k.after par a (healthIrq o b) = k.after par a b := by
  unfold Machine.healthIrq
  split
  · unfold Mod.raiseVec
    split
    · split <;> rfl
    · rfl
  · rfl

/-- How every meaning ends. -/
theorem put_after (s : State) (f : Mod) {m : Mod} (h : Logged m f) :
    ∃ t, s.put s.boot s.par f = .next t ∧ After s t m ∧ t.m = healthIrq s.m f :=
  ⟨_, rfl, ⟨rfl, rfl, rfl, (Kept_after_irq _ _ _ _ _).symm, h.trans (Logged.healthIrq _ _)⟩, rfl⟩

theorem onMod_after (s : State) (f : Mod → Mod) {m : Mod} (h : Logged m (f s.m)) :
    ∃ t, s.onMod f = .next t ∧ After s t m ∧ t.m = healthIrq s.m (f s.m) := put_after s (f s.m) h

theorem live_after (s : State) (f : Mod → Mod) {m : Mod} (ha : s.m.alive = true) (h : Logged m (f s.m)) :
    ∃ t, s.live f = .next t ∧ After s t m ∧ t.m = healthIrq s.m (f s.m) := by
  have := onMod_after s (fun m => if m.alive then f m else m) (m := m) (by simpa [ha] using h)
  simpa [State.live, ha] using this

theorem work_after (s : State) (cls : Nat) (f : Mod → Mod) {m : Mod} (ha : s.m.alive = true) (hr : s.m.runs cls = true)
    (h : Logged m (f s.m)) :
    ∃ t, s.work cls f = .next t ∧ After s t m ∧ t.m = healthIrq s.m (f s.m) := by
  have := live_after s (fun m => if m.runs cls then f m else m) (m := m) ha (by simpa [hr] using h)
  simpa [State.work, hr] using this

theorem pow_after (s : State) (f : Mod → Mod) {m : Mod} (ha : s.m.sup.powered = true) (h : Logged m (f s.m)) :
    ∃ t, s.pow f = .next t ∧ After s t m ∧ t.m = healthIrq s.m (f s.m) := by
  have := onMod_after s (fun m => if m.sup.powered then f m else m) (m := m) (by simpa [ha] using h)
  simpa [State.pow, ha] using this

/-! ### Events -/

/-- The last event raised before what only logs is raised. -/
theorem raised_of {s t : State} {a : Mod} (code src : Nat) (pay : List Int)
    (ha : s.m.recd.log <+: a.recd.log) (h : Logged (a.raise code src pay) t.m) : Raised s t code src pay := by
  refine ⟨evOf a a.now code src pay, ?_, rfl, rfl, rfl⟩
  obtain ⟨u, hu⟩ := ha
  obtain ⟨v, hv⟩ := (Mod_raise_mem a code src pay).trans h.log
  rw [← hv, ← hu]
  simp

/-! ### Completions -/

/-- The parts of a completion that a write of it keeps. -/
def sameCpl (c d : Cpl) : Prop :=
  d.ring = c.ring ∧ d.idx = c.idx ∧ d.tag = c.tag ∧ d.final = c.final ∧ d.status = c.status ∧ d.res = c.res

theorem Mod_raiseVec_cpls (m : Mod) (k : Nat) : (m.raiseVec k).host.cpls = m.host.cpls := by
  unfold Mod.raiseVec
  split
  · split <;> rfl
  · rfl

theorem Mod_countEntry_cpls (m : Mod) (i : Nat) (b : Bool) : (m.countEntry i b).host.cpls = m.host.cpls := by
  unfold Mod.countEntry
  simp only
  split
  · simp only [Mod.ringVec, Mod_raiseVec_cpls, Mod.onRing_host]
  · rfl

/-- A written completion is the last one. -/
theorem Mod_writeCpl_mem (m : Mod) (c : Cpl) :
    ∃ d, (m.writeCpl c).host.cpls = m.host.cpls ++ [d] ∧ sameCpl c d := by
  unfold Mod.writeCpl
  simp only
  split
  · rw [Mod_countEntry_cpls]
    exact ⟨_, rfl, rfl, rfl, rfl, rfl, rfl, rfl⟩
  · exact ⟨_, rfl, rfl, rfl, rfl, rfl, rfl, rfl⟩

theorem readyCpls_cover (l : List Fetched) (f : Fetched) (c : Cpl) (hf : f ∈ l) (hc : f.done = some c) :
    c ∈ (readyCpls l).1 ∨ f ∈ (readyCpls l).2 := by
  induction l with
  | nil => cases hf
  | cons a r ih =>
    unfold readyCpls
    cases ha : a.done with
    | none =>
      right
      simpa using hf
    | some d =>
      simp only
      rcases List.mem_cons.mp hf with h | h
      · subst h
        rw [hc] at ha
        left
        simp [Option.some.inj ha]
      · rcases ih h with h | h
        · left; simp [h]
        · right; exact h

theorem fold_writeCpl (cs : List Cpl) (m : Mod) (c : Cpl) (hc : c ∈ cs) :
    ∃ d ∈ (cs.foldl Mod.writeCpl m).host.cpls.drop m.host.cpls.length, sameCpl c d := by
  induction cs generalizing m with
  | nil => cases hc
  | cons a r ih =>
    simp only [List.foldl_cons]
    obtain ⟨d, hd, hs⟩ := Mod_writeCpl_mem m a
    rcases List.mem_cons.mp hc with h | h
    · subst h
      refine ⟨d, ?_, hs⟩
      obtain ⟨u, hu⟩ := (Logged.foldl r Mod.writeCpl (fun m c => Logged.writeCpl m c) (m.writeCpl c)).cpls
      rw [← hu, hd]
      simp
    · obtain ⟨e, he, hs⟩ := ih (m.writeCpl a) h
      refine ⟨e, ?_, hs⟩
      rw [hd, List.length_append] at he
      rw [List.length_singleton, Nat.add_comm, ← List.drop_drop] at he
      have := List.mem_of_mem_drop he
      first | exact this | (rw [List.drop_drop, Nat.add_comm, ← List.drop_drop] at he; exact List.mem_of_mem_drop he)

theorem Mod_raiseVec_rings (m : Mod) (k : Nat) : (m.raiseVec k).host.rings = m.host.rings := by
  unfold Mod.raiseVec
  split
  · split <;> rfl
  · rfl

/-- What waits on a ring stays as completions are written. -/
theorem upd_fetched (l : List Ring) (i j : Nat) (f : Ring → Ring) (h : ∀ r, (f r).fetched = r.fetched) :
    ((upd l i f).getD j Ring.reset).fetched = (l.getD j Ring.reset).fetched := by
  rw [upd_getD]; split
  · exact h _
  · rfl

theorem Mod_onRing_fetched (m : Mod) (i j : Nat) (f : Ring → Ring) (h : ∀ r, (f r).fetched = r.fetched) :
    ((m.onRing i f).ring j).fetched = (m.ring j).fetched :=
  upd_fetched m.host.rings i j f h

theorem Mod_ringVec_fetched (m : Mod) (i j : Nat) : ((m.ringVec i).ring j).fetched = (m.ring j).fetched := by
  unfold Mod.ringVec Mod.ring
  rw [Mod_raiseVec_rings]
  exact Mod_onRing_fetched m i j _ (fun _ => rfl)

theorem Mod_countEntry_fetched (m : Mod) (i j : Nat) (b : Bool) :
    ((m.countEntry i b).ring j).fetched = (m.ring j).fetched := by
  unfold Mod.countEntry
  simp only
  split
  · rw [Mod_ringVec_fetched]
    exact Mod_onRing_fetched m i j _ (fun _ => rfl)
  · exact Mod_onRing_fetched m i j _ (fun _ => rfl)

theorem Mod_writeCpl_fetched (m : Mod) (c : Cpl) (j : Nat) : ((m.writeCpl c).ring j).fetched = (m.ring j).fetched := by
  unfold Mod.writeCpl
  simp only
  split
  · rw [Mod_countEntry_fetched]
    exact Mod_onRing_fetched m c.ring j _ (fun _ => rfl)
  · rfl

theorem fold_writeCpl_fetched (cs : List Cpl) (m : Mod) (j : Nat) :
    ((cs.foldl Mod.writeCpl m).ring j).fetched = (m.ring j).fetched := by
  induction cs generalizing m with
  | nil => rfl
  | cons a r ih => simp only [List.foldl_cons]; rw [ih, Mod_writeCpl_fetched]

/-- A completion that waits for its entry is written, or waits on its ring in descriptor order. -/
theorem flush_fixed (m : Mod) (h : Hdr) (c : Cpl) (hany : (m.ring h.ring).fetched.any (fun f => f.takes h) = true) :
    let n := (m.onRing h.ring (fun g => { g with
      fetched := g.fetched.map (fun f => if f.takes h then { f with done := some c } else f) })).flushRing h.ring
    ∃ d, sameCpl c d ∧ (d ∈ n.host.cpls.drop m.host.cpls.length ∨ ∃ f ∈ (n.ring h.ring).fetched, f.done = some d) := by
  obtain ⟨f, hf, hi⟩ := List.any_eq_true.mp hany
  have hlt : h.ring < m.host.rings.length := by
    apply Nat.lt_of_not_le
    intro hn
    have : (m.ring h.ring) = Ring.reset := by
      simp only [Mod.ring, List.getD_eq_getElem?_getD]
      rw [List.getElem?_eq_none hn]; rfl
    rw [this] at hf; cases hf
  generalize hg : (fun f : Fetched => if f.takes h then { f with done := some c } else f) = g
  have hgf : g f = { f with done := some c } := by rw [← hg]; simp [hi]
  generalize hm1 : (m.onRing h.ring (fun x => { x with fetched := x.fetched.map g })) = m1
  have hl1 : m1.host.rings.length = m.host.rings.length := by rw [← hm1]; simp
  have hc1 : m1.host.cpls = m.host.cpls := by rw [← hm1]; rfl
  have hmem : g f ∈ (m1.ring h.ring).fetched := by
    rw [← hm1]
    simp only [Mod.ring, Mod.onRing_host, upd_getD, hlt, true_and, if_true]
    exact List.mem_map.mpr ⟨f, hf, rfl⟩
  unfold Mod.flushRing
  simp only
  rcases readyCpls_cover _ _ c hmem (by rw [hgf]) with hc | hc
  · obtain ⟨d, hd, hs⟩ := fold_writeCpl _ (m1.onRing h.ring
      (fun x => { x with fetched := (readyCpls (m1.ring h.ring).fetched).2 })) _ hc
    refine ⟨d, hs, Or.inl ?_⟩
    rw [← hc1]; exact hd
  · refine ⟨c, ⟨rfl, rfl, rfl, rfl, rfl, rfl⟩, Or.inr ⟨g f, ?_, by rw [hgf]⟩⟩
    rw [fold_writeCpl_fetched]
    simp only [Mod.ring, Mod.onRing_host, upd_getD, hl1, hlt, true_and, if_true]
    simpa only [Mod.ring] using hc

/-- A completion is written, discarded, or waits on its ring in descriptor order. -/
theorem complete_fixed (m : Mod) (h : Hdr) (r : Reply) :
    ∃ c, sameCpl (m.cplOf h r true) c ∧
      (c ∈ (m.complete h r).host.cpls.drop m.host.cpls.length
        ∨ ∃ f ∈ ((m.complete h r).ring h.ring).fetched, f.done = some c) := by
  unfold Mod.complete
  simp only
  split
  · exact ⟨_, ⟨rfl, rfl, rfl, rfl, rfl, rfl⟩, Or.inl (by rw [List.drop_left]; exact List.mem_singleton.mpr rfl)⟩
  · split
    · rename_i hany
      exact flush_fixed m h _ hany
    · exact ⟨_, ⟨rfl, rfl, rfl, rfl, rfl, rfl⟩,
        Or.inl (by unfold Mod.discard; rw [List.drop_left]; exact List.mem_singleton.mpr rfl)⟩

theorem healthIrq_cpls (o m : Mod) : (healthIrq o m).host.cpls = m.host.cpls := by
  unfold healthIrq
  split
  · exact Mod_raiseVec_cpls _ _
  · rfl

theorem healthIrq_rings (o m : Mod) : (healthIrq o m).host.rings = m.host.rings := by
  unfold healthIrq
  split
  · exact Mod_raiseVec_rings _ _
  · rfl

/-- A ring command in a mode that accepts it: its body's answer is fixed. -/
theorem answered_of {s t : State} {a : Mod} (h : Hdr) (r : Reply)
    (ha : s.m.host.cpls <+: a.host.cpls) (ht : t.m = healthIrq s.m (a.complete h r)) :
    Answered s t h r.status r.res := by
  obtain ⟨c, ⟨h1, h2, h3, h4, h5, h6⟩, hc⟩ := complete_fixed a h r
  refine ⟨c, ?_, h1, h2, h3, h4, h5, h6⟩
  rcases hc with hc | ⟨f, hf, hd⟩
  · left
    rw [ht, healthIrq_cpls]
    obtain ⟨u, hu⟩ := ha
    rw [← hu, List.length_append] at hc
    rw [Nat.add_comm, ← List.drop_drop] at hc
    first | exact List.mem_of_mem_drop hc | (rw [List.drop_drop, Nat.add_comm, ← List.drop_drop] at hc; exact List.mem_of_mem_drop hc)
  · right
    refine ⟨f, ?_, hd⟩
    rw [ht]
    simpa only [Mod.ring, healthIrq_rings] using hf

/-- What a ring command does once it has begun. -/
theorem ring_runs (s : State) (h : Hdr) (d : Desc) (accept : Mode → Bool) (body : Mod → Mod × Option Reply)
    (ha : s.m.alive = true) (hr : s.m.mayRun h d = true) :
    s.ring h d accept body = s.put s.boot s.par ((s.m.begin h).cmdNow h accept body) := by
  simp [State.ring, State.onMod, Mod.cmd, ha, hr]

/-- A ring command whose descriptor is not the next of its ring does nothing. -/
theorem ring_idle (s : State) (h : Hdr) (d : Desc) (accept : Mode → Bool) (body : Mod → Mod × Option Reply)
    (hr : (s.m.alive && s.m.mayRun h d) = false) : s.ring h d accept body = s.put s.boot s.par s.m := by
  unfold State.ring State.onMod Mod.cmd
  simp only [hr]
  rfl

/-- A ring command that its body completes at once. -/
theorem ring_after (s : State) (h : Hdr) (d : Desc) (accept : Mode → Bool) (body : Mod → Mod × Option Reply) (m' : Mod)
    (r : Reply) (ha : s.m.alive = true) (hr : s.m.mayRun h d = true) (hm : accept s.m.md = true)
    (hb : body (s.m.begin h) = (m', some r)) (hc : s.m.host.cpls <+: m'.host.cpls) :
    ∃ t, s.ring h d accept body = .next t ∧ After s t m' ∧ Answered s t h r.status r.res
      ∧ t.m = healthIrq s.m (m'.complete h r) := by
  rw [ring_runs s h d accept body ha hr]
  have e : (s.m.begin h).cmdNow h accept body = m'.complete h r := by simp [Mod.cmdNow, ha, hm, hb]
  rw [e]
  obtain ⟨t, h1, h2, h3⟩ := put_after s _ (Logged.complete m' h r)
  exact ⟨t, h1, h2, answered_of h r hc h3, h3⟩

/-- A ring command that its body leaves for later. -/
theorem ring_later (s : State) (h : Hdr) (d : Desc) (accept : Mode → Bool) (body : Mod → Mod × Option Reply) (m' : Mod)
    (ha : s.m.alive = true) (hr : s.m.mayRun h d = true) (hm : accept s.m.md = true)
    (hb : body (s.m.begin h) = (m', none)) :
    ∃ t, s.ring h d accept body = .next t ∧ After s t m' ∧ t.m = healthIrq s.m m' := by
  rw [ring_runs s h d accept body ha hr]
  have e : (s.m.begin h).cmdNow h accept body = m' := by simp [Mod.cmdNow, ha, hm, hb]
  rw [e]
  exact put_after s m' (Logged.refl m')

/-- A ring command in a mode that does not accept it is refused with MODE_NOT_PERMITTED and does nothing else (R80). -/
theorem ring_refused (s : State) (h : Hdr) (d : Desc) (accept : Mode → Bool) (body : Mod → Mod × Option Reply)
    (ha : s.m.alive = true) (hr : s.m.mayRun h d = true) (hm : accept s.m.md = false) :
    ∃ t, s.ring h d accept body = .next t ∧ After s t s.m ∧ Answered s t h 0x2101 0 := by
  rw [ring_runs s h d accept body ha hr]
  have e : (s.m.begin h).cmdNow h accept body = (s.m.begin h).complete h (refuse 0x2101) := by simp [Mod.cmdNow, ha, hm]
  rw [e]
  obtain ⟨t, h1, h2, h3⟩ := put_after s _ ((Logged.begin s.m h).trans (Logged.complete _ h (refuse 0x2101)))
  exact ⟨t, h1, h2, answered_of h (refuse 0x2101) (by simp) h3⟩

end Sys2Proof.Safety
end

