-- ==== Sys2Proof/Laws/Frame.lean ====
section
/-! SUPPORT. Frames: which blocks of the module an operation may change. -/
namespace Sys2Proof.Safety

open Sys2Proof.Machine

theorem Blk.same_refl (f : Blk) (a : Mod) : f.same a a := by cases f <;> rfl

theorem Blk.same_trans {f : Blk} {a b c : Mod} (h : f.same a b) (k : f.same b c) : f.same a c := by
  cases f <;> exact Eq.trans k h

theorem Only.refl (l : List Blk) (a : Mod) : Only l a a := fun f _ => Blk.same_refl f a

theorem Only.trans {l : List Blk} {a b c : Mod} (h : Only l a b) (k : Only l b c) : Only l a c :=
  fun f hf => Blk.same_trans (h f hf) (k f hf)

theorem Only.mono {l k : List Blk} {a b : Mod} (h : Only l a b) (s : ∀ f ∈ l, f ∈ k) : Only k a b :=
  fun f hf => h f (fun hl => hf (s f hl))

theorem Only.foldl {α : Type} {l : List Blk} (x : List α) (f : Mod → α → Mod) (h : ∀ m a, Only l m (f m a)) (m : Mod) :
    Only l m (x.foldl f m) := by
  induction x generalizing m with
  | nil => exact Only.refl l m
  | cons a r ih => exact (h m a).trans (ih (f m a))

theorem Only.ite {l : List Blk} {a x y : Mod} {c : Prop} [Decidable c] (hx : Only l a x) (hy : Only l a y) :
    Only l a (if c then x else y) := by
  split
  · exact hx
  · exact hy

/-- What only logs changes the recorder, the rings and the cycle accounts. -/
theorem Logged.only {a b : Mod} (h : Logged a b) : Only [.recd, .host, .po] a b := by
  intro f hf
  cases f <;> first | (exfalso; exact hf (by decide)) | (simp only [Blk.same]; rw [h.same])

theorem Only.raise {l : List Blk} (m : Mod) (code src : Nat) (pay : List Int)
    (hl : ∀ f ∈ [Blk.recd, .host, .po], f ∈ l) : Only l m (m.raise code src pay) :=
  (Logged.raise m code src pay).only.mono hl

theorem Only.complete {l : List Blk} (m : Mod) (h : Hdr) (r : Reply)
    (hl : ∀ f ∈ [Blk.recd, .host, .po], f ∈ l) : Only l m (m.complete h r) :=
  (Logged.complete m h r).only.mono hl

theorem Only.healthIrq {l : List Blk} (o m : Mod)
    (hl : ∀ f ∈ [Blk.recd, .host, .po], f ∈ l) : Only l m (healthIrq o m) :=
  (Logged.healthIrq o m).only.mono hl

/-- A meaning that acts on the module alone. -/
theorem Frame.onMod {l : List Blk} (s : State) (f : Mod → Mod) (h : Only l s.m (f s.m))
    (hl : ∀ f ∈ [Blk.recd, .host, .po], f ∈ l) : ∃ t, s.onMod f = .next t ∧ Frame l s t :=
  ⟨_, rfl, rfl, rfl, rfl, (Kept_after_irq _ _ _ _ _).symm, h.trans (Only.healthIrq _ _ hl)⟩

/-- The health interrupt says nothing when no word of the summary changed. -/
theorem healthIrq_id (o m : Mod) (h0 : o.h5000 = m.h5000) (h4 : o.h5004 = m.h5004) (h8 : o.h5008 = m.h5008)
    (hc : o.h500C = m.h500C) (hb : m.host.faultBits = o.host.faultBits) : healthIrq o m = m := by
  unfold Machine.healthIrq
  simp [h0, h4, h8, hc, hb]

end Sys2Proof.Safety
end

