-- ==== Sys2Proof/Laws/SafetyOps.lean ====
section
/-! SUPPORT. Which blocks the shared operations of drives and safety functions may change. -/
namespace Sys2Proof.Safety

open Sys2Proof.Machine

/-- Drives, what their detection holds, their recorder entries and the portals' cycle accounts. -/
def driveBlks : List Blk := [.ax, .ob, .recd, .host, .po]

/-- The safety functions with the drives they act on. -/
def safBlks : List Blk := [.saf, .ax, .ob, .start, .mode, .side, .recd, .host, .po]

theorem Only.onAx (m : Mod) (i : Nat) (f : Axis → Axis) : Only driveBlks m (m.onAx i f) := by
  intro f hf; cases f <;> first | rfl | (exfalso; exact hf (by decide))

theorem Only.onPo (m : Mod) (i : Nat) (f : Portal → Portal) : Only driveBlks m (m.onPo i f) := by
  intro f hf; cases f <;> first | rfl | (exfalso; exact hf (by decide))

theorem Only.onRec (m : Mod) (f : RecSt → RecSt) : Only driveBlks m (m.onRec f) := by
  intro f hf; cases f <;> first | rfl | (exfalso; exact hf (by decide))

theorem Only.raiseD (m : Mod) (code src : Nat) (pay : List Int) : Only driveBlks m (m.raise code src pay) :=
  Only.raise m code src pay (by decide)

theorem Only.onCyc (m : Mod) (p : Nat) (f : CycAcc → CycAcc) : Only driveBlks m (m.onCyc p f) := Only.onPo m p _

theorem Only.markRole (m : Mod) (i k : Nat) (n : Option Nat) : Only driveBlks m (m.markRole i k n) := by
  unfold Mod.markRole
  split
  · exact Only.onCyc _ _ _
  · exact Only.refl _ _

theorem Only.markLearn (m : Mod) (i n : Nat) : Only driveBlks m (m.markLearn i n) := by
  unfold Mod.markLearn
  split
  · exact Only.onCyc _ _ _
  · exact Only.refl _ _

theorem Only.moveEnd (m : Mod) (i tag reason : Nat) : Only driveBlks m (m.moveEnd i tag reason) := Only.raiseD _ _ _ _

theorem Only.life (m : Mod) (k n : Nat) : Only driveBlks m (m.life k n) := Only.onRec _ _

theorem Only.onOb (m : Mod) (i : Nat) (f : Obst → Obst) : Only driveBlks m (m.onOb i f) := by
  intro f hf; cases f <;> first | rfl | (exfalso; exact hf (by decide))

/-- Latching a fault acts on the drive alone. -/
theorem Only.latchMark (m : Mod) (i c : Nat) : Only driveBlks m (m.latchMark i c) := by
  unfold Mod.latchMark
  simp only
  refine .ite ?_ (Only.onAx _ _ _)
  refine .trans ?_ (Only.markRole _ _ _ _)
  refine .trans ?_ (Only.life _ _ _)
  exact Only.onAx _ _ _

/-- Removing torque acts on the drives alone. -/
theorem Only.dropTorque (m : Mod) (i : Nat) : Only driveBlks m (m.dropTorque i) := by
  have h (f : Axis → Axis) (l : List Nat) (g : Obst → Obst) :
      Only driveBlks m ((l.foldl (fun m c => m.latchMark i c) (m.onAx i f)).onOb i g) :=
    ((Only.onAx m i f).trans (Only.foldl _ _ (fun m c => Only.latchMark m i c) _)).trans (Only.onOb _ _ _)
  unfold Mod.dropTorque
  simp only
  split
  · refine .trans ?_ (Only.markRole _ _ _ _)
    refine .trans ?_ (Only.moveEnd _ _ _ _)
    split
    · exact (h _ _ _).trans (Only.moveEnd _ _ _ _)
    · exact h _ _ _
  · exact h _ _ _

theorem Only.latch (m : Mod) (i c : Nat) : Only driveBlks m (m.latch i c) := by
  unfold Mod.latch
  exact .ite (Only.latchMark _ _ _) ((Only.latchMark _ _ _).trans (Only.dropTorque _ _))

theorem Only.saf (m : Mod) (x : Safety) : Only safBlks m { m with saf := x } := by
  intro f hf; cases f <;> first | rfl | (exfalso; exact hf (by decide))

theorem Only.drive {a b : Mod} (h : Only driveBlks a b) : Only safBlks a b := h.mono (by decide)

theorem Only.raiseS (m : Mod) (code src : Nat) (pay : List Int) : Only safBlks m (m.raise code src pay) :=
  Only.raise m code src pay (by decide)

theorem Only.stoMark (m : Mod) (g c : Nat) (r b : Bool) : Only safBlks m (m.stoMark g c r b) := Only.saf m _

/-- Demanding STO acts on the safety functions and the drives. -/
theorem Only.demandBy (m : Mod) (g c : Nat) (r b : Bool) : Only safBlks m (m.demandBy g c r b) := by
  unfold Mod.demandBy
  simp only
  refine .ite (Only.stoMark _ _ _ _ _) ?_
  refine .trans ?_ (Only.foldl _ _ (fun m k => (Only.dropTorque m _).drive) _)
  exact (Only.stoMark _ _ _ _ _).trans (Only.raiseS _ _ _ _)

theorem Only.demand (m : Mod) (g c : Nat) : Only safBlks m (m.demand g c) := Only.demandBy _ _ _ _ _

theorem Only.trip (m : Mod) (g c : Nat) : Only safBlks m (m.trip g c) := by
  unfold Mod.trip
  exact (Only.demand _ _ _).trans (Only.foldl _ _ (fun m k => (Only.onAx m _ _).drive) _)

theorem Only.onLoop (m : Mod) (s : Side) (f : Loop → Loop) : Only safBlks m (m.onLoop s f) := Only.saf m _
theorem Only.onSaf (m : Mod) (f : Safety → Safety) : Only safBlks m (m.onSaf f) := Only.saf m _

theorem Only.loopEvent (m : Mod) (w : Bool) (s : Side) (c : Nat) : Only safBlks m (m.loopEvent w s c) := by
  unfold Mod.loopEvent
  exact .ite (Only.refl _ _) (Only.raiseS _ _ _ _)

theorem Only.openLoopOf (m : Mod) (s : Side) (c : Nat) : Only safBlks m (m.openLoopOf s c) := by
  unfold Mod.openLoopOf
  exact (Only.onLoop _ _ _).trans (Only.loopEvent _ _ _ _)

theorem Only.trig (m : Mod) (t : Trig) : Only safBlks m (m.trig t) := by
  unfold Mod.trig
  refine .ite (Only.refl _ _) ?_
  intro f hf; cases f <;> first | rfl | (exfalso; exact hf (by decide))

theorem Only.faultBit (m : Mod) (k : Nat) : Only safBlks m (m.faultBit k) := by
  intro f hf; cases f <;> first | rfl | (exfalso; exact hf (by decide))

theorem Only.dropHold (m : Mod) (s : Side) (c : Nat) : Only safBlks m (m.dropHold s c) := by
  unfold Mod.dropHold
  refine .trans ?_ (Only.raiseS _ _ _ _)
  refine .trans ?_ (Only.openLoopOf _ _ _)
  intro f hf; cases f <;> first | rfl | (exfalso; exact hf (by decide))

theorem Only.loopSide (m : Mod) (s : Side) : Only safBlks m (m.loopSide s) := by
  unfold Mod.loopSide
  simp only
  refine .ite ?_ (.ite (.ite (Only.refl _ _) ?_) ?_)
  · split
    · exact Only.dropHold _ _ _
    · exact Only.refl _ _
  · exact (Only.onLoop _ _ _).trans (Only.loopEvent _ _ _ _)
  · exact (Only.onLoop _ _ _).trans (Only.loopEvent _ _ _ _)

theorem Only.loopEval (m : Mod) : Only safBlks m m.loopEval := (Only.loopSide _ _).trans (Only.loopSide _ _)

/-- The loss of both channels acts on the safety functions, the drives and the mode's triggers. -/
theorem Only.bothLost (m : Mod) : Only safBlks m m.bothLost := by
  unfold Mod.bothLost
  refine .trans ?_ (Only.trig _ _)
  refine .trans ?_ (Only.openLoopOf _ _ _)
  refine .trans ?_ (Only.openLoopOf _ _ _)
  exact Only.foldl _ _ (fun m g => Only.demand m g 11) _

theorem Only.loseReed (m : Mod) (c : Nat) : Only safBlks m (m.loseReed c) := by
  unfold Mod.loseReed
  split
  · exact .ite (Only.bothLost _) (Only.refl _ _)
  · simp only
    have h : Only safBlks m (((({ m with saf := { m.saf with reedLost := some c } } : Mod).raise 0x4001 0 [0, c]).faultBit 0).trig .degraded) := by
      refine .trans ?_ (Only.trig _ _)
      refine .trans ?_ (Only.faultBit _ _)
      exact (Only.saf m _).trans (Only.raiseS _ _ _ _)
    exact .ite (h.trans (Only.bothLost _)) (h.trans (Only.loopEval _))

theorem Only.loseBore (m : Mod) (c : Nat) : Only safBlks m (m.loseBore c) := by
  unfold Mod.loseBore
  split
  · exact .ite (Only.bothLost _) (Only.refl _ _)
  · simp only
    have h : Only safBlks m (((({ m with saf := { m.saf with boreLost := some c } } : Mod).raise 0x4001 1 [1, c]).faultBit 1).trig .degraded) := by
      refine .trans ?_ (Only.trig _ _)
      refine .trans ?_ (Only.faultBit _ _)
      exact (Only.saf m _).trans (Only.raiseS _ _ _ _)
    exact .ite (h.trans (Only.bothLost _)) h

theorem Only.loseView (m : Mod) (b : Bool) (k : Nat) : Only safBlks m (m.loseView b k) := by
  unfold Mod.loseView
  refine .ite (Only.refl _ _) ?_
  refine .trans ?_ (Only.trig _ _)
  exact (Only.saf m _).trans (Only.raiseS _ _ _ _)

end Sys2Proof.Safety
end

