-- ==== Sys2Proof/Machine/Link.lean ====
section
/-! DEFINITION. The frames of the field links, field by field in the order of R369 and R370, as bits on the wire. Each field
goes out with its most significant bit first. -/
namespace Sys2Proof.Machine

/-- The bits of a field of `w` bits. (Assumption 146 DESIGN CHOICE) -/
def wire (w v : Nat) : List Bool := (upto w).map (fun k => bit v (w - 1 - k))

/-- CRC-16 of polynomial 0x1021, initial value 0xFFFF and no final inversion (R369, R370). -/
def crc16 (bits : List Bool) : Nat :=
  bits.foldl (fun c b =>
    let top := xor (bit c 15) b
    let c := c * 2 % 65536
    if top then c ^^^ 0x1021 else c) 0xFFFF

/-- A frame: SYNC, the fields, and the CRC over every bit after SYNC. (Assumption 146 DESIGN CHOICE) -/
def linkFrame (sync : Nat) (fields : List (Nat × Nat)) : List Bool :=
  let body := (fields.map (fun x => wire x.1 x.2)).flatten
  wire 16 sync ++ body ++ wire 16 (crc16 body)

/-- Fields 2 to 15 of an upstream frame (R369). -/
def UpFrame.fields (f : UpFrame) : List (Nat × Nat) :=
  [(8, f.seq), (16, f.sampleIdx), (32, f.rawNew), (32, f.rawPrev), (8, f.testFlags)]
    ++ (upto 4).map (fun k => (16, f.edges.getD k 0xFFFF))
    ++ [(12, f.lsOut), (48, f.lsFlags), (4, f.slot)]
    ++ (upto 3).map (fun k => (16, f.currents.getD k 0))
    ++ (upto 2).map (fun k => (16, f.feeds.getD k 0))
    ++ [(8, f.temp), (1, b2n f.failsafe), (7, f.resumes), (8, f.tokenEcho), (24, 0)]

/-- An upstream frame as it stands on the link. -/
def UpFrame.bits (f : UpFrame) : List Bool := linkFrame 0xA55A (UpFrame.fields f)

/-- The timed command a downstream frame repeats until its instant: valid, channel, state, reserved, instant (R370). -/
def Mod.timedField (m : Mod) (die : Nat) : List (Nat × Nat) :=
  match ((dieLs die).filterMap (fun n => (m.ls n).timed.map (fun t => (n, t)))).head? with
  | some (n, st, t) => [(1, 1), (4, n - 12 * die), (2, st), (1, 0), (32, t % 2 ^ 32)]
  | none => [(40, 0)]

/-- Fields 2 to 10 of the next downstream frame of a die (R370); the last is the token of the safety die.
 (Assumption 146 DESIGN CHOICE) -/
def Mod.downFields (m : Mod) (die : Nat) : List (Nat × Nat) :=
  let d := m.die die
  [(8, d.downSeq), (32, m.raw % 2 ^ 32)]
    ++ (dieLs die).map (fun n => (2, (m.ls n).cmd))
    ++ m.timedField die
    ++ [(12, d.cfgAddr), (32, (Config.cfgWord die d.cfgAddr m.live).toNat), (1, b2n m.started), (35, 0), (8, Config.token d.tokPos)]

/-- A downstream frame as it leaves the safety die. -/
def Mod.downBits (m : Mod) (die : Nat) : List Bool := linkFrame 0x5AA5 (m.downFields die)

end Sys2Proof.Machine
end

