-- ==== Sys2Proof/WellFormed.lean ====
section
/-! DEFINITION. Well-formed commands: operands that fit the fields that carry them. A command from a ring names its
INSTANCE in 16 bits and may name one the part does not have (that is refused by its meaning, R2); what the module's own
hardware reports names a part that exists. Bulk data has its lengths checked by its meaning. -/
namespace Sys2Proof

def below (n x : Nat) : Bool := decide (x < n)
def between (a b x : Nat) : Bool := decide (a ≤ x) && decide (x ≤ b)
def u16 (x : Nat) : Bool := decide (x < 65536)
def u32 (x : Nat) : Bool := decide (x < 4294967296)
def u64 (x : Nat) : Bool := decide (x < 18446744073709551616)
def s32 (x : Int) : Bool := decide (-2147483648 ≤ x) && decide (x < 2147483648)

/-- A ring command's ring, index and tag (R124, R129). -/
def hdrOk (h : Hdr) : Bool := below 32 h.ring && u16 h.idx && u16 h.tag

def srcOk (s : Src) : Bool :=
  match s with
  | .ring h => hdrOk h
  | .svc => true

/-- MOVE words 6 to 10 (R209). -/
def moveOk (m : MoveArgs) : Bool := s32 m.target && u32 m.speed && u32 m.accel && u32 m.decel && u32 m.jerk

/-- SET_MOTION_LIMITS words 7 to 10 (R215). -/
def limOk (l : LimitArgs) : Bool := u32 l.speed && u32 l.accel && u32 l.decel && u32 l.jerk

/-- CAN_TX words 6 and 7 (R417): 11 or 29 identifier bits, a 4-bit DLC, at most 64 bytes. -/
def canOk (a : CanArgs) : Bool := below 536870912 a.ident && below 16 a.dlc && decide (a.data.length ≤ 64)

def frameOk (f : CanFrame) : Bool := below 536870912 f.ident && below 16 f.dlc && decide (f.data.length ≤ 64)

/-- A Wegato header (R420): 9 address bits, an 8-bit TYPE, a 16-bit SEQ. -/
def wegatoOk (f : Frame) : Bool := below 256 f.type && below 65536 f.origin && below 65536 f.dest && u16 f.seq

/-- An action of R460. -/
def actOk (a : Action) : Bool :=
  match a with
  | .move ax m => u16 ax && moveOk m
  | .setLimits ax l => u16 ax && limOk l
  | .stop ax => u16 ax
  | .portalRequest p c => u16 p && u32 c
  | .sideRelease m _ => u32 m
  | .lsSet n st => u16 n && u32 st
  | .pointWrite pt v => u16 pt && s32 v
  | .other op => u16 op

/-- One tick's counts are at most one per axis, its voltages four. -/
def tickOk (t : TickIn) : Bool :=
  decide (t.enc.length ≤ 16) && decide (t.shadows.length ≤ 16) && decide (t.wireVolt.length ≤ 64)

/-- One exchange of R307: 16 pairs, the release enables and the loop contributions of two sides, the demands of four groups. -/
def evalsOk (e : Evals) : Bool :=
  decide (e.pairs.length = 16) && decide (e.enables.length = 2) && decide (e.contribs.length = 2) && decide (e.stos.length = 4)

/-- Phases are numbered 1 A, 2 B (R197). -/
def phaseNo (n : Nat) : Bool := decide (1 ≤ n) && decide (n ≤ 2)

/-- A descriptor's index has 16 bits (R128). -/
def xferOk (x : DmaXfer) : Bool :=
  match x with
  | .ringRead => true
  | .ringWrite => true
  | .bufRead i => u16 i
  | .bufWrite i => u16 i

/-- A register access is 1, 2, 4 or 8 bytes (R116). -/
def width (n : Nat) : Bool := [1, 2, 4, 8].contains n

/-- The command is well formed. -/
def Instr.wf (c : Instr) : Bool :=
  match c with
  | .lockstepMismatch pair => below 2 pair
  | .pllLockLoss _ => true
  | .clockRatioWindowEnd count => u32 count
  | .boreWindowMarker ticks => u32 ticks
  | .budgetPeriodBoundary => true
  | .classBudgetExhausted cls _ ov => between 1 8 cls && u32 ov
  | .budgetApply => true
  | .overrunClear mask => u32 mask
  | .sramScrub corrected => u32 corrected
  | .sramUncorrectableError _ => true
  | .supplySag vbus => u32 vbus
  | .supplyInterrupted vbus _ => u32 vbus
  | .dcLinkCollapse => true
  | .supplyRestored vbus _ => u32 vbus
  | .powerFail vbus => u32 vbus
  | .holdupReserveLevel => true
  | .serviceSupplyLoss vbus => u32 vbus
  | .serviceSupplyBusReturn vbus => u32 vbus
  | .holdupExhausted => true
  | .busPowerLimit power => u32 power
  | .busPowerLowering power => u32 power
  | .busPowerLimitClear power => u32 power
  | .peakReserveEmpty => true
  | .regenClamp vbus => u32 vbus
  | .busOvervoltage vbus => u32 vbus
  | .overvoltageRecovery vbus => u32 vbus
  | .baseplateTempSample t => s32 t
  | .encoderSupplyFault conn => u32 conn
  | .logicPowerOn _ _ => true
  | .controlDieReset _ => true
  | .startStep _ => true
  | .startComplete => true
  | .startFailed => true
  | .autoRestart => true
  | .loopVoltageAppears _ _ _ => true
  | .resetLoopHoldExpiry => true
  | .srstPress _ => true
  | .srstStuck => true
  | .modeRequest h target => hdrOk h && u32 target
  | .startRequest h => hdrOk h
  | .restoreFactory h word => hdrOk h && u32 word
  | .evacuate h _ => hdrOk h
  | .dormantWake _ _ => true
  | .hostLinkReset cause => u32 cause
  | .hostLinkUp width speed => u32 width && u32 speed
  | .hostVerReq value => u32 value
  | .ringEnable ring cfg => below 32 ring && u32 cfg
  | .ringDisable ring cfg => below 32 ring && u32 cfg
  | .ringDrained ring => below 32 ring
  | .doorbellHostIndex ring idx => below 32 ring && u16 idx
  | .doorbellCplConsumed ring idx => below 32 ring && u16 idx
  | .descriptorFetch ring _ => below 32 ring
  | .hostDmaError ring what => below 32 ring && xferOk what
  | .interruptCoalesceTimeout ring => below 32 ring
  | .msixVectorUnmask k => below 32 k
  | .paramRead h dom id inst => hdrOk h && u16 dom && u16 id && u16 inst
  | .paramWrite h dom id inst value => hdrOk h && u16 dom && u16 id && u16 inst && u64 value
  | .paramReadBlock h dom tid inst off len => hdrOk h && u16 dom && u16 tid && u16 inst && u32 off && u32 len
  | .paramWriteBlock h dom tid inst off _ => hdrOk h && u16 dom && u16 tid && u16 inst && u32 off
  | .nop h => hdrOk h
  | .longOpCancel h ring idx => hdrOk h && u16 ring && u16 idx
  | .longOpQuery h ring idx => hdrOk h && u16 ring && u16 idx
  | .longOpStep slot _ => u32 slot
  | .timeNsRead => true
  | .rawLoRead => true
  | .offsetLoRead => true
  | .timeCapture => true
  | .healthFaultBitsClear mask => u32 mask
  | .clearRegLocked => true
  | .clearSramCe => true
  | .hostWatchdogExpiry => true
  | .registerWrite off value bytes => below 65536 off && u64 value && width bytes
  | .profileTick inp => tickOk inp
  | .currentLoopUpdate ax x _ => below 16 ax && s32 x.ia && s32 x.ib && s32 x.fastA && s32 x.fastB
  | .chopperCycle ax phase onTicks _ => below 16 ax && phaseNo phase && u32 onTicks
  | .currentNotReached ax phase count => below 16 ax && phaseNo phase && u32 count
  | .phaseOvercurrent ax phase ma => below 16 ax && phaseNo phase && s32 ma
  | .phaseOpen ax phase => below 16 ax && phaseNo phase
  | .isolatorClosureConfirmed ax => below 16 ax
  | .isolatorOpenConfirmed ax => below 16 ax
  | .isolatorFault ax wire => below 16 ax && below 4 wire
  | .encLineBreak ax sig => below 16 ax && u32 sig
  | .encIllegalTransition ax count => below 16 ax && s32 count
  | .encOverspeed ax count => below 16 ax && s32 count
  | .encIndexCapture ax count revCounts => below 16 ax && s32 count && u32 revCounts
  | .ssiFrame ax _ => below 16 ax
  | .axisStall ax => below 16 ax
  | .holdDelayExpiry ax => below 16 ax
  | .driveStatus h ax len => hdrOk h && u16 ax && u32 len
  | .axisFaultClear h ax _ => hdrOk h && u16 ax
  | .phaseTest h ax => hdrOk h && u16 ax
  | .phaseTestDone ax _ => below 16 ax
  | .move h ax m => hdrOk h && u16 ax && moveOk m
  | .setMotionLimits h ax l => hdrOk h && u16 ax && limOk l
  | .stop h ax => hdrOk h && u16 ax
  | .home h inst _ => hdrOk h && u16 inst
  | .jog h ax _ _ speed => hdrOk h && u16 ax && u32 speed
  | .positionRead h ax => hdrOk h && u16 ax
  | .axisInPosition ax => below 16 ax
  | .jogTimeout ax => below 16 ax
  | .homeAlignHoldEnd ax count => below 16 ax && s32 count
  | .homeEndStopDetected ax => below 16 ax
  | .homeConfirmTimeout ax => below 16 ax
  | .homeTimeout ax => below 16 ax
  | .portalTimerExpiry p t => below 4 p && below 4 t
  | .lockConfirmTimeout p => below 4 p
  | .stepConfirmTimeout p => below 4 p
  | .loadTemplate h p n => hdrOk h && u16 p && u16 n
  | .portalReset h p => hdrOk h && u16 p
  | .portalRequest h p close => hdrOk h && u16 p && u32 close
  | .sideRelease h mask _ => hdrOk h && u32 mask
  | .obstacleForceDetect ax => below 16 ax
  | .obstacleErrGrowth ax => below 16 ax
  | .edgeMeasurement e ohm => below 8 e && u32 ohm
  | .edgeFault e cause => below 8 e && u32 cause
  | .edgePwTestEnd e _ => below 8 e
  | .edgeFaultCleared e => below 8 e
  | .obstacleSupervisionLate ax => below 16 ax
  | .probeDecision ax compliance periods => below 16 ax && u32 compliance && periods.all (fun x => s32 x.1)
  | .profileSaveInterval => true
  | .profileReloadDone ax _ => below 16 ax
  | .learnRun h p => hdrOk h && u16 p
  | .profileSave h => hdrOk h
  | .safetyExchange reed bore => evalsOk reed && evalsOk bore
  | .inputSample raw => decide (raw.length = 64)
  | .pairDiscrepancy p => below 16 p
  | .inputStuckSuspect n => below 64 n
  | .stoDemand g cause _ => below 4 g && u32 cause
  | .stoReadbackTimeout g _ _ => below 4 g
  | .safeStopEnd g => below 4 g
  | .sflTrip ax _ ma => below 16 ax && u32 ma
  | .currentViewLost ax reedMa boreMa => below 16 ax && u32 reedMa && u32 boreMa
  | .loopClose _ _ => true
  | .loopCurrentLimitTrip _ => true
  | .loopRetry _ => true
  | .loopReset h side => hdrOk h && u32 side
  | .offpulseStart voltL voltR => u32 voltL && u32 voltR
  | .offpulseEnd voltL voltR => u32 voltL && u32 voltR
  | .offpulseSuspended => true
  | .releaseEnableMismatch _ => true
  | .degradedTimeWrite => true
  | .degradedLimitReached => true
  | .checkValueCompute h => hdrOk h
  | .pairStatus h => hdrOk h
  | .fieldUpstreamFrame die _ => below 2 die
  | .fieldDownstreamFrame die _ => below 2 die
  | .fieldLinkStale die => below 2 die
  | .fieldWatchdogFailsafe die => below 2 die
  | .lsTimedSwitch n => below 24 n
  | .lsFlashToggle n => below 24 n
  | .lsLimitTrip n ma => below 24 n && u32 ma
  | .lsFuseUpdate n ma => below 24 n && u32 ma
  | .groupCheck g avg => between 1 3 g && u32 avg
  | .lsOpenLoad n cur => below 24 n && u32 cur
  | .lsThermalLatchSet n => below 24 n
  | .lsThermalLatchClear n => below 24 n
  | .lsRetry n => below 24 n
  | .lsRetryCounterReset n => below 24 n
  | .lsSet h n st => hdrOk h && u16 n && u32 st
  | .lsClear h n => hdrOk h && u16 n
  | .ioStatus h len => hdrOk h && u32 len
  | .feedSagOff f volt => below 4 f && u32 volt
  | .feedRestored f volt => below 4 f && u32 volt
  | .feedAbsent f volt => below 4 f && u32 volt
  | .canPortEnable p cfg => below 2 p && u32 cfg
  | .canPortDisable p cfg => below 2 p && u32 cfg
  | .canBusOffRecover p => below 2 p
  | .canCounterClear p => below 2 p
  | .canTx h p buf a => hdrOk h && u16 p && u32 buf && canOk a
  | .canTxCancel h p src => hdrOk h && u16 p && u32 src
  | .canObjWrite h p obj _ _ => hdrOk h && u16 p && u16 obj
  | .canObjRead h p obj len => hdrOk h && u16 p && u16 obj && u32 len
  | .canArbitration p tdc => below 2 p && u32 tdc
  | .canTxAttemptEnd p _ => below 2 p
  | .canRxFrame p f => below 2 p && frameOk f
  | .canBusOffRecovered p => below 2 p
  | .canTxdTimeout p => below 2 p
  | .canPeriodicSend p obj => below 2 p && u32 obj
  | .canStatusFrame p => below 2 p
  | .fabricLinkUp port => between 1 2 port
  | .fabricLinkLoss port => between 1 2 port
  | .fabricHelloSend => true
  | .fabricHelloRx port _ => between 1 2 port
  | .topologyRecordRx _ => true
  | .discoveryComplete => true
  | .fabricFrameArrival port pcp len f => between 1 2 port && u32 pcp && u32 len && wegatoOk f
  | .publicationSend cls => between 1 3 cls
  | .publicationRx f => wegatoOk f
  | .fabricLoadMeasure load1 load2 => u32 load1 && u32 load2
  | .fabricDiscover h => hdrOk h
  | .pointWrite h pt v => hdrOk h && u16 pt && s32 v
  | .pointRead h pt sel => hdrOk h && u16 pt && u32 sel
  | .topologyRead h len => hdrOk h && u32 len
  | .sessionOpen h peer => hdrOk h && u32 peer
  | .sessionSend h sess _ => hdrOk h && u16 sess
  | .sessionRecv h sess len => hdrOk h && u16 sess && u32 len
  | .sessionClose h sess => hdrOk h && u16 sess
  | .sessionDataRx peer kind sess seq _ => u32 peer && u32 kind && u32 sess && u32 seq
  | .sessionAckRx sess seq => u32 sess && u32 seq
  | .sessionRtoExpiry sess => u32 sess
  | .fabricCommand h dest cmd => hdrOk h && u32 dest && u16 cmd
  | .fabricCommandRx f cmd => wegatoOk f && u32 cmd
  | .ptpSyncRx _ => true
  | .gmLossTimeout => true
  | .gmSelected id _ _ => u64 id
  | .holdoverTrustExpiry => true
  | .fabricCounterClear => true
  | .txnOpen h _ => hdrOk h
  | .txnStageAction h ctx a _ => hdrOk h && u16 ctx && actOk a
  | .txnFabricAction h ctx _ => hdrOk h && u16 ctx
  | .txnCommit h ctx _ _ _ => hdrOk h && u16 ctx
  | .txnAbort h ctx => hdrOk h && u16 ctx
  | .txnResult h ctx => hdrOk h && u16 ctx
  | .txnClose h ctx => hdrOk h && u16 ctx
  | .txnStatus h ctx => hdrOk h && u16 ctx
  | .txnCheckInstant ctx => u32 ctx
  | .txnCommitInstant ctx => u32 ctx
  | .txnPrepareRx f _ => wegatoOk f
  | .txnVoteRx f _ => wegatoOk f
  | .txnVoteDeadline ctx => u32 ctx
  | .txnTwinAckRx ctx => u32 ctx
  | .txnTwinAckTimeout ctx => u32 ctx
  | .txnDecisionRx f _ => wegatoOk f
  | .txnResendTimer ctx => u32 ctx
  | .txnQueryRx f _ => wegatoOk f
  | .txnAnswerRx f _ => wegatoOk f
  | .txnLateApply ctx => u32 ctx
  | .txnQueryTimeout ctx => u32 ctx
  | .txnContextExpiry ctx => u32 ctx
  | .ligatureLinkUp _ => true
  | .ligatureHeartbeatSend => true
  | .ligatureHeartbeatRx lane mode _ mirSeq => below 2 lane && u32 mode && u32 mirSeq
  | .ligatureLaneLoss lane => below 2 lane
  | .twinHeartbeatLost => true
  | .mirrorFrameRx _ => true
  | .twinMirrorLate => true
  | .twinLsCommandRx n st _ => below 24 n && u32 st
  | .twinCurrentExchange _ => true
  | .twinProfileRx ax _ _ => below 16 ax
  | .twinDecisionWriteRx _ _ => true
  | .takeoverCheckDone _ => true
  | .twinOrphanTimeout => true
  | .relinquishRx handover cause => u32 handover && u32 cause
  | .handoverInstant => true
  | .isolatorsOpenReportRx => true
  | .twinPeerWaitExpiry => true
  | .twinReturn => true
  | .twinHealthReport _ _ => true
  | .twinCounterClear => true
  | .recordCommit _ _ => true
  | .eventBlockClose => true
  | .incidentFrameSample => true
  | .preTriggerCopied => true
  | .incidentFull => true
  | .lifetimeCounterWrite => true
  | .twinRecordRx _ _ => true
  | .recorderStatus h => hdrOk h
  | .journalRead h ring first len => hdrOk h && u16 ring && u32 first && u32 len
  | .incidentRead h part off len => hdrOk h && u16 part && u32 off && u32 len
  | .incidentTrigger h => hdrOk h
  | .incidentRearm h no => hdrOk h && u32 no
  | .countersRead h len => hdrOk h && u32 len
  | .sentinelRead h len => hdrOk h && u32 len
  | .sentinelClear h => hdrOk h
  | .attest src _ len => srcOk src && u32 len
  | .certRead src len => srcOk src && u32 len
  | .svcConnectionOpen major minor _ => u32 major && u32 minor
  | .svcConnectionClose => true
  | .svcNetworkFrame _ ip => u32 ip
  | .svcChallenge => true
  | .svcAuthenticate _ _ _ => true
  | .authLockoutExpiry => true
  | .checkValueConfirm _ => true
  | .debugUnlock => true
  | .debugLock => true
  | .debugUnlockExpiry => true
  | .updateHeader _ => true
  | .updateData off _ _ => u32 off
  | .updateVerify => true
  | .updateActivate => true
  | .updateConfirm => true
  | .updateAbort => true
  | .trialWindowExpiry => true
  | .updateIdleTimeout => true
  | .twinUpdateForwardRx _ _ => true
  | .powerFailRestart => true
  | .peakReserveRecovered => true
  | .safetyRailLoss => true
  | .loopTest _ => true
  | .loopTestTimeout _ => true
  | .configurationFileLoad _ => true
  | .powerStateChange _ => true
  | .canReceiveError p _ => below 2 p
  | .ptpMessageSend kind => u32 kind
  | .ptpDelayMessageRx kind _ => u32 kind

end Sys2Proof
end

