-- ==== Sys2Proof/Tests/Slice0.lean ====
section
/-! SUPPORT. Tests of our own: for every statement with hypotheses a witness theorem, which shows states and operands that
meet the hypotheses of each of its clauses; ill-formed terms that each check of WellFormed refuses; and worked examples of
the spec. -/
namespace Sys2Proof.Tests
open Sys2Proof.Machine Sys2Proof.Safety

/- The theorems below are evaluated by the kernel one after another. -/
set_option Elab.async false

/-! ### Helpers -/

/-- the module after reset -/
def base : Mod := State.reset.m
/-- the reset state with its module changed -/
def onM (f : Mod → Mod) : State := { State.reset with m := f base }
def md (x : Mode) (m : Mod) : Mod := { m with mode := { m.mode with mode := x } }
/-- a parameter value in force -/
def par (d : PDef) (i : Nat) (v : Int) (m : Mod) : Mod := { m with live := m.live.set d i v }
def h : Hdr := ⟨0, 5, 7, true, false⟩

/-- The 16 words of a descriptor that says `d` under a header. -/
def wordsOf (h : Hdr) (d : Desc) : List Nat :=
  let base (k : Nat) : Nat :=
    if k = 0 then h.tag
    else if k = 1 then b2n h.irq * 2 ^ 31 + b2n h.noProg * 2 ^ 29 + (match d.stage with | some c => 2 ^ 30 + c * 2 ^ 16 | none => 0)
    else if k = 2 then (if d.buf = some true ∨ 32 < d.inl.length then 8 else 0)
    else 0
  (upto 16).map (fun k =>
    base k + d.fields.foldl (fun n x => if x.1 = k then n + x.2.2.2 * 2 ^ x.2.1 else n) 0
      + (if 8 ≤ k ∧ d.inl.length ≤ 32 then ofLe ((d.inl.drop (4 * (k - 8))).take 4) else 0))

/-- A state in which a descriptor has been fetched that comes next on its ring. -/
def fetched (h : Hdr) (d : Desc) (s : State) : State :=
  { s with m := s.m.onRing h.ring (fun r => { r with fetched := ⟨h.idx, wordsOf h d, false, none⟩ :: r.fetched }) }

/-- `Ready` as a test. -/
def readyB (c : Instr) (s : State) : Bool :=
  match ringCmd c with
  | some x => s.m.mayRun x.1 x.2
  | none => true

theorem ready_iff (c : Instr) (s : State) : Ready c s ↔ readyB c s = true := by
  unfold Ready readyB
  cases ringCmd c <;> simp

theorem ready_of {c : Instr} {s : State} (hr : readyB c s = true) : Ready c s := (ready_iff c s).mpr hr

/-! ### Witnesses -/

namespace C01

def u : Mod → State := fun m => onM (fun _ => m)
def g1 : State := u (md .activeClosed State.reset.m)
def g2 : State := u ((md .activeClosed State.reset.m).onSaf (fun f => { f with halted := some 1 }))
def g3 : State := u { md .service State.reset.m with mode := { (md .service State.reset.m).mode with trigs := [.safeHold 3] } }
def g5 : State := { g1 with m := { g1.m with gov := { g1.m.gov with suspended := List.replicate 8 true } } }
def g6 : State := { g1 with boot := { g1.boot with revoked := 3 } }

theorem witness_Budgets :
    g1.m.alive = true ∧
    g1.m.runs 8 = true ∧
    (0 = 0 ∨ 8 < 0) ∧
    g5.m.alive = true ∧
    g5.m.runs 8 = false ∧
    1 ≤ 1 ∧
    1 ≤ 8 ∧
    1 ≤ g1.m.gov.suspended.length ∧
    1 ≤ g1.m.gov.overrun.length ∧
    g1.m.gov.suspended.getD (1 - 1) false = false := by
  decide +kernel

theorem witness_DieFaults :
    g1.m.alive = true ∧
    (3062 < 3063 ∨ 3187 < 3062) ∧
    3063 ≤ 3063 ∧
    3187 ≤ 3187 ∧
    (193999 < 194000 ∨ 206000 < 193999) ∧
    194000 ≤ 194000 ∧
    206000 ≤ 206000 ∧
    g1.m.saf.halted = none ∧
    (Region.firmware = Region.firmware ∨ Region.firmware = Region.workingConfig) ∧
    g1.m.saf.reedLost = none ∧
    Region.preTrigger ≠ Region.firmware ∧
    Region.preTrigger ≠ Region.workingConfig ∧
    g2.m.alive = true ∧
    g2.m.saf.halted = some 1 ∧
    1 ≠ 2 := by
  decide +kernel

theorem witness_BoundarySafeHold :
    g3.m.alive = true ∧
    g3.m.md ≠ Mode.safeHold ∧
    g3.m.mode.trigs = [Trig.safeHold 3] ∧
    g3.m.p P.twinRole 0 = 0 ∧
    g3.m.fw.stage ≠ 5 ∧
    g3.m.fw.fallbackDue = false := by
  decide +kernel

theorem witness_IdleStep :
    g3.pending = [] := by
  decide +kernel

theorem witness_StoresFrame :
    writesPar Instr.budgetApply = false ∧
    writesBoot Instr.budgetApply = false := by
  decide +kernel

theorem witness_ParamStoreCanonical :
    g3.par.wf = true := by
  decide +kernel

theorem witness_BootRecordForward :
    g6.boot.revoked.getLsbD 0 = true := by
  decide +kernel

theorem witness_PeriodGrid :
    g1.m.alive = true := by
  decide +kernel

end C01

namespace C02

def u : Mod → State := fun m => onM (fun _ => m)
def sp (x : Mode) (f : Sup → Sup) : State := u (let m := md x State.reset.m; { m with sup := f m.sup, ax := m.ax.map (fun a => { a with torque := true }) })
def s1 : State := sp .activeClosed id
def s2 : State := sp .activeClosed (fun x => { x with st := .sag })
def s3 : State := sp .activeClosed (fun x => { x with st := .interrupted, svc24 := false })
def s4 : State := sp .activeClosed (fun x => { x with st := .interrupted, svc24 := true })
def s5 : State := sp .activeClosed (fun x => { x with st := .interrupted, powerFail := true })
def s6 : State := sp .activeClosed (fun x => { x with powered := false })
def s7 : State := sp .activeClosed (fun x => { x with st := .interrupted, serviceOnly := true })
def s8 : State := sp .activeClosed (fun x => { x with limitActive := true, lowerings := 3, reserveEmpty := true, reserve := 0 })
def s9 : State := sp .activeClosed (fun x => { x with regenClamp := true, overvoltage := true })
def s11 : State := sp .activeClosed (fun x => { x with reserve := 1000, power := 100000 })
def s12 : State := sp .activeClosed (fun x => { x with vbus := 480, reserveEmpty := true, reserve := 7199999999, power := 0 })

theorem witness_SupplyStates :
    s1.m.sup.powered = true ∧
    s1.m.sup.st = SupSt.normal ∧
    300 ≤ 300 ∧
    419 < 420 ∧
    s1.m.sup.st ≠ SupSt.interrupted ∧
    299 < 300 ∧
    s2.m.sup.powered = true ∧
    s2.m.sup.st ≠ SupSt.normal ∧
    s2.m.sup.powerFail = false ∧
    430 ≤ 430 ∧
    s3.m.sup.powered = true ∧
    s3.m.sup.st = SupSt.interrupted := by
  decide +kernel

theorem witness_PowerFailures :
    s3.m.sup.powered = true ∧
    s3.m.sup.powerFail = false ∧
    s3.m.sup.st = SupSt.interrupted ∧
    429 < 430 ∧
    s3.m.sup.svc24 = false ∧
    s4.m.sup.powered = true ∧
    s4.m.sup.powerFail = false ∧
    s4.m.sup.st = SupSt.interrupted ∧
    s4.m.sup.svc24 = true ∧
    s4.m.sup.serviceOnly = false ∧
    s5.m.sup.powered = true ∧
    s5.m.sup.powerFail = true ∧
    s6.m.sup.powered = false ∧
    s7.m.sup.powered = true ∧
    (s7.m.sup.serviceOnly = true ∨ s7.m.sup.st = SupSt.normal ∧ s7.m.sup.svcThrough = true) ∧
    430 ≤ 430 := by
  decide +kernel

theorem witness_PowerLimit :
    s1.m.alive = true ∧
    s1.m.sup.limitActive = false ∧
    s1.m.pLimit ≤ 10000000 * 1000 ∧
    s8.m.alive = true ∧
    s8.m.sup.limitActive = true ∧
    0 * 10000 < s8.m.pLimit * 8 ∧
    s8.m.pLimit ≤ 10000000 * 1000 ∧
    s11.m.alive = true ∧
    s11.m.sup.reserveEmpty = false ∧
    0 ≤ s11.m.sup.reserve ∧
    s11.m.sup.reserve + ↑s11.m.pCont ≤ ↑s11.m.sup.power * 1000 ∧
    s12.m.alive = true ∧
    (s12.m.eMax + 9) / 10 = 7200000000 ∧
    s12.m.sup.reserveEmpty = true ∧
    0 < s12.m.eMax ∧
    s12.m.sup.reserve ≤ 7200000000 ∧
    7200000000 - s12.m.sup.reserve ≤ ↑s12.m.pCont - ↑s12.m.sup.power * 1000 := by
  decide +kernel

theorem witness_OverVoltage :
    s1.m.alive = true ∧
    1600 < 1601 ∧
    s1.m.sup.regenClamp = false ∧
    1700 < 1701 ∧
    s1.m.sup.overvoltage = false ∧
    s9.m.alive = true ∧
    1549 < 1550 ∧
    s9.m.sup.regenClamp = true ∧
    s9.m.sup.overvoltage = true := by
  decide +kernel

theorem witness_ThermalAndRails :
    s1.m.alive = true ∧
    s1.m.saf.boreLost = none := by
  decide +kernel

end C02

namespace C03

def u : Mod → State := fun m => onM (fun _ => m)
def stt (x : Mode) (f : StartSt → StartSt) : Mod := let m := md x State.reset.m; { m with start := f m.start }
def d1 : State := u (stt .starting id)
def rp (b : Bool) : StepReport := ⟨b, 4, 9000, [], [], (true, true), (true, true), (true, true), 0, (true, true)⟩
def d5 : State := u (stt .starting (fun z => { z with failed := some (5, 4), step := 5 }))
def d6 : State := u (stt .starting (fun z => { z with step := 13 }))
def d8 : State := u (let m := stt .starting (fun z => { z with step := 13 }); { m with nv := { m.nv with config := (true, false), calib := (true, true), confirmed := some 9 } })
def d9 : State := u (stt .safeHold (fun z => { z with autoAt := some 500 }))
def d10 : State := u (stt .starting (fun z => { z with holdUntil := some 500, loopsHeld := (true, false), inReset := true }))
def d11 : State := u (stt .service (fun z => { z with proofPending := (true, true) }))
def d12 : State := u (let m := stt .service id; { m with srst := { m.srst with needHigh := true } })
def d13 : State := u (let m := stt .service id; { m with srst := { m.srst with pressedAt := some 5 } })
def d14 : State := u (stt .service id)
def d15 : State := u (let m := stt .safeHold id; { m with mode := { m.mode with safeHoldLatched := true } })
def d16 : State := u (stt .dormant id)
def d17 : State := u (stt .commission id)
def d18 : State := u ((stt .commission id).onLoop .L (fun l => { l with test := some 9, reed := true, bore := true }))
def d17b : State := u ((upto 4).foldl (fun m i => par P.portalEnable i 0 m) (stt .commission id))
def d6b : State := u (let m := stt .starting (fun z => { z with step := 13 }); { m with nv := { m.nv with config := (true, false), calib := (true, true), confirmed := none } })
def d19 : State := u (stt .assembly id)
def cf0 : ConfigFile := ⟨[], []⟩
def cf7 : ConfigFile := ⟨[(P.portalEnable.id, 0, 7)], []⟩
def d20 : State := u (let m := stt .safeHold id; { m with mode := { m.mode with safeHoldCause := some 3 }, sup := { m.sup with band := 3 } })
def d14_r1 : State := fetched h (descModeRequest) d14
def d14_r2 : State := fetched h (descModeRequest) d14
def d14_r3 : State := fetched h (descRestoreFactory) d14
def d14_r4 : State := fetched h (descRestoreFactory) d14
def d14_r5 : State := fetched h (descEvacuate) d14
def d15_r1 : State := fetched h (descStartRequest) d15
def d9_r1 : State := fetched h (descStartRequest) d9
def d20_r1 : State := fetched h (descStartRequest) d20

theorem witness_DieReset :
    d1.m.alive = true := by
  decide +kernel

theorem witness_StartSequence :
    d1.m.sup.powered = true ∧
    d1.m.sup.powerFail = false ∧
    d1.m.md = Mode.starting ∧
    d1.m.start.failed = none ∧
    d1.m.start.step = 1 ∧
    d1.m.start.cold = true ∧
    (rp true).pass = true ∧
    1 ≤ d1.m.start.step ∧
    d1.m.start.step ≤ 12 ∧
    (rp false).pass = false ∧
    d5.m.sup.powered = true ∧
    d5.m.sup.powerFail = false ∧
    d5.m.md = Mode.starting ∧
    d5.m.start.failed = some (5, 4) ∧
    d6b.m.allPassed = true ∧
    d6b.m.cfgValid = true ∧
    d6b.m.nv.confirmed = none ∧
    d6.m.allPassed = true ∧
    d6.m.cfgValid = false ∧
    d8.m.allPassed = true ∧
    d8.m.cfgValid = true ∧
    d8.m.nv.confirmed.isSome = true ∧
    d8.m.p P.twinRole 0 = 0 := by
  decide +kernel

theorem witness_StartTimers :
    d9.m.sup.powered = true ∧
    d9.m.alive = true ∧
    d9.m.md = Mode.safeHold ∧
    d9.m.start.autoAt = some 500 ∧
    d9.m.sup.powerFail = false ∧
    d9.m.srst.needHigh = false ∧
    d9.m.start.inReset = false ∧
    d10.m.sup.powered = true ∧
    d10.m.start.holdUntil = some 500 ∧
    d11.m.sup.powered = true ∧
    d11.m.alive = true ∧
    d11.m.proofPending Side.L = true ∧
    d12.m.sup.powered = true ∧
    d12.m.srst.needHigh = true ∧
    d13.m.sup.powered = true ∧
    d13.m.srst.pressedAt = some 5 := by
  decide +kernel

theorem witness_ModeCommands :
    d14_r1.m.alive = true ∧
    d14_r1.m.md.requests = true ∧
    modeOfNum 1 = some Mode.assembly ∧
    d14_r1.m.modeFault d14_r1.par Mode.assembly = some 8449 ∧
    Ready (Instr.modeRequest h 1) d14_r1 ∧
    d14_r2.m.alive = true ∧
    d14_r2.m.md.requests = true ∧
    modeOfNum 2 = some Mode.commission ∧
    d14_r2.m.modeFault d14_r2.par Mode.commission = none ∧
    Ready (Instr.modeRequest h 2) d14_r2 ∧
    d14_r3.m.alive = true ∧
    d14_r3.m.md = Mode.service ∧
    d14_r3.m.allRest = true ∧
    d14_r3.m.host.ops.length < 8 ∧
    Ready (Instr.restoreFactory h d14_r3.m.serialLo) d14_r3 ∧
    d14_r4.m.alive = true ∧
    d14_r4.m.md = Mode.service ∧
    d14_r4.m.allRest = true ∧
    1 ≠ d14_r4.m.serialLo ∧
    Ready (Instr.restoreFactory h 1) d14_r4 ∧
    d14_r5.m.alive = true ∧
    d14_r5.m.md.comm = true ∧
    Ready (Instr.evacuate h true) d14_r5 ∧
    d15_r1.m.alive = true ∧
    d15_r1.m.md = Mode.safeHold ∧
    d15_r1.m.mode.safeHoldLatched = true ∧
    Ready (Instr.startRequest h) d15_r1 ∧
    d16.m.alive = true ∧
    d16.m.md = Mode.dormant ∧
    d16.m.start.failed = none ∧
    d9_r1.m.alive = true ∧
    d9_r1.m.md = Mode.safeHold ∧
    d9_r1.m.mode.safeHoldLatched = false ∧
    d9_r1.m.holdCause = false ∧
    Ready (Instr.startRequest h) d9_r1 ∧
    d20_r1.m.alive = true ∧
    d20_r1.m.md = Mode.safeHold ∧
    d20_r1.m.mode.safeHoldLatched = false ∧
    d20_r1.m.holdCause = true ∧
    Ready (Instr.startRequest h) d20_r1 := by
  refine ⟨?_, ?_, ?_, ?_, (ready_of ?_), ?_, ?_, ?_, ?_, (ready_of ?_), ?_, ?_, ?_, ?_, (ready_of ?_), ?_, ?_,
    ?_, ?_, (ready_of ?_), ?_, ?_, (ready_of ?_), ?_, ?_, ?_, (ready_of ?_), ?_, ?_, ?_, ?_, ?_, ?_, ?_,
    (ready_of ?_), ?_, ?_, ?_, ?_, (ready_of ?_)⟩ <;> decide +kernel

theorem witness_Workbench :
    d17b.m.alive = true ∧
    d17b.m.testMay Side.L = true ∧
    d17b.m.saf.loops.L.test = none ∧
    d17b.m.saf.loops.R.test = none ∧
    d17.m.alive = true ∧
    d17.m.testMay Side.L = false ∧
    d18.m.alive = true ∧
    (d18.m.saf.loops.get Side.L).test = some 9 ∧
    d19.m.alive = true ∧
    d19.m.md = Mode.assembly ∧
    d19.m.nv.eraseOwed = false ∧
    fileStore d19.m.id.part cf0.params = some [] ∧
    (d19.m.fileLoaded d19.par [] cf0).configFault [] = none ∧
    fileStore d19.m.id.part cf7.params = some [(537919488, 7)] ∧
    (d19.m.fileLoaded d19.par [(537919488, 7)] cf7).configFault [(537919488, 7)] ≠ none := by
  decide +kernel

end C03

namespace C04

def u : Mod → State := fun m => onM (fun _ => m)
def hs (x : Mode) (f : HostSt → HostSt) : Mod := let m := md x State.reset.m; { m with host := f m.host }
def e1 : State := u (hs .service (fun z => { z with wdogMs := 10, faultBits := 1024 + 7, timeSec := 5 }))
def e2 : State := u (hs .service id)
def rg (x : Mode) (f : Ring → Ring) : Mod := hs x (fun z => { z with linkUp := true, neg := upd z.neg 0 (fun _ => some (2, 3)), rings := upd z.rings 1 (fun r => f { r with log2 := 4, base := 4096, cplBase := 8192 }) })
def act (r : Ring) : Ring := { r with enable := true, active := true, modIdx := 2, cplIdx := 2, hostIdx := 5, cplCons := 1 }
def e3 : State := u (rg .service id)
def e4 : State := u (rg .service act)
def e5 : State := u (rg .service (fun r => { act r with enable := false, modIdx := 5 }))
def e6 : State := u (rg .service (fun r => { act r with since := some 5, count := 1, coalUs := 3 }))
def lo (k : LongKind) (c : Option Nat) : LongOp := ⟨some h, k, 0, 5, c, none, false, 0, 0⟩
def e7 : State := u (hs .service (fun z => { z with ops := [lo .checkValue none] }))
def e8 : State := u (hs .service (fun z => { z with ops := [lo .checkValue (some 3)] }))
def e7b : State := u (hs .service (fun z => { z with ops := [lo .restoreFactory none, lo (.attest [1]) none, lo (.journalRead 0 0 256) none, lo (.journalRead 0 0 256) (some 3), lo .discover none] }))
def e7c : State := u (hs .service (fun z => { z with ops := [lo (.attest [1]) none] }))
def e7e : State := u (hs .service (fun z => { z with ops := [lo (.journalRead 0 0 256) none] }))
def e10 : State := u (hs .commission id)
def e11 : State := u (hs .starting id)
def z512 : List Byte := List.replicate 512 0
def z2048 : List Byte := List.replicate 2048 0
def z16 : List Byte := List.replicate 12 1 ++ [1, 0, 0, 0]
def bad16 : List Byte := List.replicate 16 0
def sin0 : List Byte := (upto 1024).flatMap (fun k => leBytes 4 (wordOf ((sineEntry k).1 * 3 / 4, (sineEntry k).2 * 3 / 4)))
def pf0 : List Byte := List.replicate (8 * 4096) 1#8
def z4096 : List Byte := List.replicate 4096 0
def desc (op : Nat) : List Nat := [op * 65536 + 9, 0x80000000, 0, 0, 0, 0, 0, 0, 0, 0, 0, 0, 0, 0, 0, 0]
def le (b : Bool) : LongEnd := ⟨b, true, 0, 0, []⟩
def e17 : State := u (rg .service (fun r => { r with enable := true }))
def n512 : List Byte := List.replicate 512 9
def f2048 : List Byte := List.replicate 2048 255
def e19 : State := u (let m := md .commission State.reset.m; { m with can := m.can.map (fun c => { c with cfg := 2147483648 }) })
def e2_r1 : State := fetched h (descParamWrite 32 32 32 32) e2
def e2_r2 : State := fetched h (descParamRead 32 32 32) e2
def e2_r3 : State := fetched h (descParamWrite 32 P.portalEnable.id 0 32) e2
def e2_r4 : State := fetched h (descParamRead 32 P.portalEnable.id 0) e2
def e2_r5 : State := fetched h (descParamWrite 1 288 0 32) e2
def e2_r6 : State := fetched h (descParamWrite 1 288 0 288) e2
def e10_r1 : State := fetched h (descParamWrite 32 P.portalEnable.id 0 0) e10
def e2_r7 : State := fetched h (descParamReadBlock 32 8320 0 32 32) e2
def e2_r8 : State := fetched h (descParamReadBlock 32 8320 0 32 8320) e2
def e2_r9 : State := fetched h (descParamReadBlock 32 32 32 32 32) e2
def e2_r10 : State := fetched h (descParamWriteBlock 32 32 32 32 n512) e2
def e2_r11 : State := fetched h (descParamWriteBlock 32 8320 0 32 n512) e2
def e2_r12 : State := fetched h (descParamWriteBlock 96 24704 0 0 z2048) e2
def e2_r13 : State := fetched h (descParamWriteBlock 96 24704 0 0 f2048) e2
def e2_r14 : State := fetched h (descParamWriteBlock 16 4224 0 0 n512) e2
def e2_r15 : State := fetched h (descParamWriteBlock 48 12417 0 0 z16) e2
def e10_r2 : State := fetched h (descParamWriteBlock 32 8320 0 32 n512) e10
def e10_r3 : State := fetched h (descParamWriteBlock 112 28800 0 0 z512) e10
def e10_r4 : State := fetched h (descParamWriteBlock 112 28800 0 0 n512) e10
def e10_r5 : State := fetched h (descParamWriteBlock 16 (4224 + 1) 0 0 z4096) e10
def e10_r6 : State := fetched h (descParamWriteBlock 16 (4224 + 1) 0 0 sin0) e10
def e10_r7 : State := fetched h (descParamWriteBlock 48 12417 0 0 z16) e10
def e10_r8 : State := fetched h (descParamWriteBlock 48 12417 0 0 bad16) e10
def e10_r9 : State := fetched h (descParamWriteBlock 48 12416 0 0 pf0) e10
def e10_r10 : State := fetched h (descParamWriteBlock 32 8320 0 0 z4096) e10
def e10_r11 : State := fetched h (descParamWriteBlock 32 8320 0 0 sin0) e10
def e19_r1 : State := fetched h (descParamWriteBlock 96 24704 0 0 f2048) e19
def e2_r16 : State := fetched h (descNop) e2
def e2_r17 : State := fetched h (descLongOpQuery 0 0) e2
def e2_r18 : State := fetched h (descLongOpCancel 0 0) e2
def e7_r1 : State := fetched h (descLongOpQuery 0 5) e7
def e7_r2 : State := fetched h (descLongOpCancel 0 5) e7
def e11_r1 : State := fetched h (descNop) e11

theorem witness_HostRegisters :
    e1.m.alive = true ∧
    e1.m.host.wdogMs ≠ 0 ∧
    e1.m.host.silentDone = false ∧
    (0 ≠ 4 ∧ 0 ≠ 8 ∨ 0 = 4 ∧ 0 % 4 ≠ 0) ∧
    1 < 4294967296 ∧
    1 ≠ e1.m.host.heartbeat ∧
    e2.m.alive = true ∧
    (e2.m.host.wdogMs = 0 ∨ e2.m.host.silentDone = true) := by
  decide +kernel

theorem witness_HostLink :
    e1.m.alive = true ∧
    ((e1.m.host.rings.any fun r => r.active) = false) ∧
    negotiate (ownVer 0) { major := field 0 8 8, minor := field 0 0 8, prev := none } = none ∧
    e4.m.alive = true ∧
    ((e4.m.host.rings.any fun r => r.active) = true) := by
  decide +kernel

theorem witness_RingSetUp :
    e3.m.alive = true ∧
    1 < 32 ∧
    1 < e3.m.host.rings.length ∧
    (e3.m.ring 1).active = false ∧
    (e3.m.ring 1).enable = false ∧
    2 ≠ 0 ∧
    e3.m.ringFault ((e3.m.ring 1).setCfg 1) = 2 ∧
    ((e3.m.ring 1).active = false ∨ (e3.m.ring 1).fetched ≠ [] ∨ (e3.m.ring 1).enable = true ∧ (e3.m.ring 1).halted = false) ∧
    1 < 65536 ∧
    (if (e3.m.ring 1).eventKind = true then sub16 (e3.m.ring 1).modIdx 1 else sub16 1 (e3.m.ring 1).modIdx) = 1 ∧
    ((e3.m.ring 1).active = false ∨ (e3.m.ring 1).halted = true ∨ 1 ≤ (e3.m.ring 1).size) ∧
    ((e3.m.ring 1).active = false ∨ (e3.m.ring 1).halted = true ∨ (e3.m.ring 1).eventKind = true ∨ sub16 (e3.m.ring 1).cplIdx 1 ≤ (e3.m.ring 1).size) ∧
    e3.m.ringFault ((e3.m.ring 1).setCfg 4) = 0 ∧
    e4.m.alive = true ∧
    1 < e4.m.host.rings.length ∧
    (e4.m.ring 1).active = true ∧
    (if (e4.m.ring 1).eventKind = true then sub16 (e4.m.ring 1).modIdx 1 else sub16 1 (e4.m.ring 1).modIdx) = 65535 ∧
    (e4.m.ring 1).halted = false ∧
    (e4.m.ring 1).size < 65535 ∧
    4 < 65536 ∧
    (e4.m.ring 1).eventKind = false ∧
    (e4.m.ring 1).size < sub16 (e4.m.ring 1).cplIdx 4 ∧
    e5.m.alive = true ∧
    1 < e5.m.host.rings.length ∧
    (e5.m.ring 1).active = true ∧
    (e5.m.ring 1).enable = false ∧
    e5.m.ringFault (e5.m.ring 1) = 0 ∧
    (e5.m.ring 1).fetched = [] ∧
    ((e5.m.ring 1).enable = false ∨ (e5.m.ring 1).halted = true) ∧
    e17.m.alive = true ∧
    1 < e17.m.host.rings.length ∧
    (e17.m.ring 1).active = false ∧
    (e17.m.ring 1).enable = true := by
  decide +kernel

theorem witness_Fetching :
    e3.m.alive = true ∧
    1 < e3.m.host.rings.length ∧
    e3.m.nextRing ≠ some 1 ∧
    (e3.m.ring 1).active = false ∧
    1 < e3.m.host.msix.length ∧
    e3.m.host.linkUp = true ∧
    e3.m.host.d3 = false ∧
    e4.m.alive = true ∧
    1 < e4.m.host.rings.length ∧
    e4.m.md.fetches = true ∧
    e4.m.host.linkUp = true ∧
    e4.m.host.d3 = false ∧
    e4.m.gov.suspended.getD 4 false = false ∧
    e4.m.nextRing = some 1 ∧
    ([] : List (List Nat)).length ≤ 8 ∧
    ([] : List (List Nat)).length ≤ (e4.m.ring 1).free ∧
    (e4.m.ring 1).modIdx < 65536 ∧
    (e4.m.ring 1).hostIdx < 65536 ∧
    ([] : List (List Nat)).length ≤ sub16 (e4.m.ring 1).hostIdx (e4.m.ring 1).modIdx ∧
    (∀ (w : List Nat), w ∈ [] → w.length = 16 ∧ descFault w = none) ∧
    (desc 1).length = 16 ∧
    descFault (desc 1) = some 4097 ∧
    (e4.m.ring 1).active = true ∧
    e6.m.alive = true ∧
    1 < e6.m.host.rings.length ∧
    (e6.m.ring 1).since = some 5 ∧
    (e6.m.ring 1).coalUs ≠ 0 ∧
    e6.m.host.linkUp = true ∧
    e6.m.host.d3 = false := by
  decide +kernel

theorem witness_Parameters :
    e2_r1.m.alive = true ∧
    e2_r1.m.md.comm = true ∧
    e2_r1.par.wf = true ∧
    parName e2_r1.m.id.part 32 32 32 = Sum.inr 4098 ∧
    Ready (Instr.paramWrite h 32 32 32 32) e2_r1 ∧
    e2_r2.m.alive = true ∧
    e2_r2.m.md.comm = true ∧
    e2_r2.par.wf = true ∧
    parName e2_r2.m.id.part 32 32 32 = Sum.inr 4098 ∧
    Ready (Instr.paramRead h 32 32 32) e2_r2 ∧
    e2_r3.m.alive = true ∧
    e2_r3.m.md.comm = true ∧
    e2_r3.par.wf = true ∧
    parName e2_r3.m.id.part 32 P.portalEnable.id 0 = Sum.inl P.portalEnable ∧
    (P.portalEnable.rwl = true ∧ e2_r3.m.md.rwl = false ∨ P.portalEnable.eff = Eff.never) ∧
    Ready (Instr.paramWrite h 32 P.portalEnable.id 0 32) e2_r3 ∧
    e2_r4.m.alive = true ∧
    e2_r4.m.md.comm = true ∧
    e2_r4.par.wf = true ∧
    parName e2_r4.m.id.part 32 P.portalEnable.id 0 = Sum.inl P.portalEnable ∧
    Ready (Instr.paramRead h 32 P.portalEnable.id 0) e2_r4 ∧
    e2_r5.m.alive = true ∧
    e2_r5.m.md.comm = true ∧
    e2_r5.par.wf = true ∧
    parName e2_r5.m.id.part 1 288 0 = Sum.inl P.busPeakPowerLimit ∧
    (P.busPeakPowerLimit.rwl = false ∨ e2_r5.m.md.rwl = true) ∧
    P.busPeakPowerLimit.eff ≠ Eff.never ∧
    valueOk e2_r5.m.id.part P.busPeakPowerLimit (P.busPeakPowerLimit.arg 32) = false ∧
    Ready (Instr.paramWrite h 1 288 0 32) e2_r5 ∧
    e2_r6.m.alive = true ∧
    e2_r6.m.md.comm = true ∧
    e2_r6.par.wf = true ∧
    parName e2_r6.m.id.part 1 288 0 = Sum.inl P.busPeakPowerLimit ∧
    (P.busPeakPowerLimit.rwl = false ∨ e2_r6.m.md.rwl = true) ∧
    valueOk e2_r6.m.id.part P.busPeakPowerLimit (P.busPeakPowerLimit.arg 288) = true ∧
    relStatus e2_r6.m.id.part e2_r6.m.id.serial (e2_r6.par.set P.busPeakPowerLimit 0 (P.busPeakPowerLimit.arg 288)) P.busPeakPowerLimit 0 (P.busPeakPowerLimit.arg 288) = some 4099 ∧
    Ready (Instr.paramWrite h 1 288 0 288) e2_r6 ∧
    e10_r1.m.alive = true ∧
    e10_r1.m.md.comm = true ∧
    e10_r1.par.wf = true ∧
    parName e10_r1.m.id.part 32 P.portalEnable.id 0 = Sum.inl P.portalEnable ∧
    (P.portalEnable.rwl = false ∨ e10_r1.m.md.rwl = true) ∧
    P.portalEnable.eff ≠ Eff.never ∧
    valueOk e10_r1.m.id.part P.portalEnable (P.portalEnable.arg 0) = true ∧
    relStatus e10_r1.m.id.part e10_r1.m.id.serial (e10_r1.par.set P.portalEnable 0 (P.portalEnable.arg 0)) P.portalEnable 0 (P.portalEnable.arg 0) = none ∧
    Ready (Instr.paramWrite h 32 P.portalEnable.id 0 0) e10_r1 := by
  refine ⟨?_, ?_, ?_, ?_, (ready_of ?_), ?_, ?_, ?_, ?_, (ready_of ?_), ?_, ?_, ?_, ?_, ?_, (ready_of ?_), ?_,
    ?_, ?_, ?_, (ready_of ?_), ?_, ?_, ?_, ?_, ?_, ?_, ?_, (ready_of ?_), ?_, ?_, ?_, ?_, ?_, ?_, ?_,
    (ready_of ?_), ?_, ?_, ?_, ?_, ?_, ?_, ?_, ?_, (ready_of ?_)⟩ <;> decide +kernel

theorem bins_replicate (q : List Int → Bool) (hq : q (binOfBytes (List.replicate 8 1#8)) = true) (n k : Nat) :
    (binsOf n k (List.replicate (8 * n) 1#8)).all (fun x => q x.2) = true := by
  induction n generalizing k with
  | zero => rfl
  | succ n ih =>
    rw [binsOf, List.all_cons, List.take_replicate, List.drop_replicate,
      show min 8 (8 * (n + 1)) = 8 by omega, show 8 * (n + 1) - 8 = 8 * n by omega, ih, hq]
    rfl

theorem profile_passes : ((binsOf 4096 0 pf0).all fun x => decide (10 ≤ x.snd.getD 1 0) && decide (10 ≤ x.snd.getD 3 0) &&
    decide (x.snd.getD 0 0 ≤ 10 * (e10.m.p P.closeForceLimit (0 / 4) - e10.m.p P.forceDevMin (0 / 4)))) = true :=
  bins_replicate (fun y => decide (10 ≤ y.getD 1 0) && decide (10 ≤ y.getD 3 0)
    && decide (y.getD 0 0 ≤ 10 * (e10.m.p P.closeForceLimit (0 / 4) - e10.m.p P.forceDevMin (0 / 4)))) (by decide +kernel) 4096 0

theorem witness_TableBlocks_1 :
    e2_r7.m.alive = true ∧
    e2_r7.m.md.comm = true ∧
    tabName e2_r7.m.id.part 32 8320 0 = Sum.inl Tab.sequence ∧
    32 + 32 ≤ Tab.sequence.size ∧
    (32 % 8 = 0 ∨ Tab.sequence ≠ Tab.profile ∧ Tab.sequence ≠ Tab.probe) ∧
    Ready (Instr.paramReadBlock h 32 8320 0 32 32) e2_r7 ∧
    e2_r8.m.alive = true ∧
    e2_r8.m.md.comm = true ∧
    tabName e2_r8.m.id.part 32 8320 0 = Sum.inl Tab.sequence ∧
    (Tab.sequence.size < 32 + 8320 ∨ 32 % 8 ≠ 0 ∧ (Tab.sequence = Tab.profile ∨ Tab.sequence = Tab.probe)) ∧
    Ready (Instr.paramReadBlock h 32 8320 0 32 8320) e2_r8 ∧
    e2_r9.m.alive = true ∧
    e2_r9.m.md.comm = true ∧
    tabName e2_r9.m.id.part 32 32 32 = Sum.inr 4098 ∧
    Ready (Instr.paramReadBlock h 32 32 32 32 32) e2_r9 ∧
    e2_r10.m.alive = true ∧
    e2_r10.m.md.comm = true ∧
    tabName e2_r10.m.id.part 32 32 32 = Sum.inr 4098 ∧
    Ready (Instr.paramWriteBlock h 32 32 32 32 n512) e2_r10 ∧
    e2_r11.m.alive = true ∧
    e2_r11.m.md.comm = true ∧
    tabName e2_r11.m.id.part 32 8320 0 = Sum.inl Tab.sequence ∧
    Tab.sequence ≠ Tab.fingering 0 ∧
    e2_r11.m.md.rwl = false ∧
    Tab.sequence ≠ Tab.profile ∧
    Tab.sequence ≠ Tab.probe ∧
    Tab.sequence ≠ Tab.can ∧
    Ready (Instr.paramWriteBlock h 32 8320 0 32 n512) e2_r11 ∧
    e2_r12.m.alive = true ∧
    e2_r12.m.md.comm = true ∧
    0 < 2 ∧
    0 < e2_r12.m.can.length ∧
    z2048.length = 2048 ∧
    (e2_r12.m.canPort 0).en = false ∧
    canBadAt (e2_r12.m.canPort 0).fdEn 128 (toWords 512 z2048) 0 = none ∧
    Ready (Instr.paramWriteBlock h 96 24704 0 0 z2048) e2_r12 ∧
    e2_r13.m.alive = true ∧
    e2_r13.m.md.comm = true ∧
    f2048.length = 2048 ∧
    Ready (Instr.paramWriteBlock h 96 24704 0 0 f2048) e2_r13 ∧
    (e2_r13.m.canPort 0).en = false ∧
    canBadAt (e2_r13.m.canPort 0).fdEn 128 (toWords 512 f2048) 0 = some 0 ∧
    e2_r14.m.alive = true ∧
    e2_r14.m.md.comm = true ∧
    InstK.has e2_r14.m.id.part InstK.axis 0 = true ∧
    0 < e2_r14.m.ax.length ∧
    Ready (Instr.paramWriteBlock h 16 4224 0 0 n512) e2_r14 := by
  refine ⟨?_, ?_, ?_, ?_, ?_, (ready_of ?_), ?_, ?_, ?_, ?_, (ready_of ?_), ?_, ?_, ?_, (ready_of ?_), ?_, ?_,
    ?_, (ready_of ?_), ?_, ?_, ?_, ?_, ?_, ?_, ?_, ?_, (ready_of ?_), ?_, ?_, ?_, ?_, ?_, ?_, ?_, (ready_of
    ?_), ?_, ?_, ?_, (ready_of ?_), ?_, ?_, ?_, ?_, ?_, ?_, (ready_of ?_)⟩ <;> decide +kernel

theorem witness_TableBlocks_2 :
    e2_r15.m.alive = true ∧
    e2_r15.m.md.comm = true ∧
    InstK.has e2_r15.m.id.part InstK.axis 0 = true ∧
    0 < e2_r15.m.ob.ax.length ∧
    z16.length = 16 ∧
    e2_r15.m.md ≠ Mode.commission ∧
    Ready (Instr.paramWriteBlock h 48 12417 0 0 z16) e2_r15 ∧
    e10_r2.m.alive = true ∧
    e10_r2.m.md.comm = true ∧
    tabName e10_r2.m.id.part 32 8320 0 = Sum.inl Tab.sequence ∧
    e10_r2.m.md = Mode.commission ∧
    (32 ≠ 0 ∨ n512.length ≠ Tab.sequence.size) ∧
    Ready (Instr.paramWriteBlock h 32 8320 0 32 n512) e10_r2 ∧
    e10_r3.m.alive = true ∧
    e10_r3.m.md.comm = true ∧
    e10_r3.m.md.rwl = true ∧
    z512.length = 512 ∧
    (e10_r3.m.pubOk (List.map (fun x => BitVec.toNat x) z512) = true) ∧
    Ready (Instr.paramWriteBlock h 112 28800 0 0 z512) e10_r3 ∧
    e10_r4.m.alive = true ∧
    e10_r4.m.md.comm = true ∧
    e10_r4.m.md.rwl = true ∧
    n512.length = 512 ∧
    (e10_r4.m.pubOk (List.map (fun x => BitVec.toNat x) n512) = false) ∧
    Ready (Instr.paramWriteBlock h 112 28800 0 0 n512) e10_r4 ∧
    e10_r5.m.alive = true ∧
    e10_r5.m.md.comm = true ∧
    InstK.has e10_r5.m.id.part InstK.axis 0 = true ∧
    0 < e10_r5.m.ax.length ∧
    1 ≤ 1 ∧
    1 ≤ 7 ∧
    e10_r5.m.md.rwl = true ∧
    z4096.length = 4096 ∧
    (e10_r5.m.axis 0).torque = false ∧
    tableFault (toWords 1024 z4096) = some 0 ∧
    Ready (Instr.paramWriteBlock h 16 (4224 + 1) 0 0 z4096) e10_r5 ∧
    e10_r6.m.alive = true ∧
    e10_r6.m.md.comm = true ∧
    InstK.has e10_r6.m.id.part InstK.axis 0 = true ∧
    0 < e10_r6.m.ax.length ∧
    e10_r6.m.md.rwl = true ∧
    sin0.length = 4096 ∧
    (e10_r6.m.axis 0).torque = false ∧
    tableFault (toWords 1024 sin0) = none ∧
    Ready (Instr.paramWriteBlock h 16 (4224 + 1) 0 0 sin0) e10_r6 := by
  refine ⟨?_, ?_, ?_, ?_, ?_, ?_, (ready_of ?_), ?_, ?_, ?_, ?_, ?_, (ready_of ?_), ?_, ?_, ?_, ?_, ?_,
    (ready_of ?_), ?_, ?_, ?_, ?_, ?_, (ready_of ?_), ?_, ?_, ?_, ?_, ?_, ?_, ?_, ?_, ?_, ?_, (ready_of ?_),
    ?_, ?_, ?_, ?_, ?_, ?_, ?_, ?_, (ready_of ?_)⟩ <;> decide +kernel

theorem witness_TableBlocks_3 :
    e10_r7.m.alive = true ∧
    e10_r7.m.md.comm = true ∧
    InstK.has e10_r7.m.id.part InstK.axis 0 = true ∧
    0 < e10_r7.m.ob.ax.length ∧
    e10_r7.m.md = Mode.commission ∧
    e10_r7.m.moving 0 = false ∧
    ofLe (List.take 4 z16) ≠ 0 ∧
    ofLe (List.take 4 (List.drop 12 z16)) = 1 ∧
    Ready (Instr.paramWriteBlock h 48 12417 0 0 z16) e10_r7 ∧
    e10_r8.m.alive = true ∧
    e10_r8.m.md.comm = true ∧
    InstK.has e10_r8.m.id.part InstK.axis 0 = true ∧
    0 < e10_r8.m.ob.ax.length ∧
    bad16.length = 16 ∧
    e10_r8.m.md = Mode.commission ∧
    e10_r8.m.moving 0 = false ∧
    (ofLe (List.take 4 bad16) = 0 ∨ ofLe (List.take 4 (List.drop 12 bad16)) ≠ 1) ∧
    Ready (Instr.paramWriteBlock h 48 12417 0 0 bad16) e10_r8 ∧
    e10_r9.m.alive = true ∧
    e10_r9.m.md.comm = true ∧
    InstK.has e10_r9.m.id.part InstK.axis 0 = true ∧
    0 < e10_r9.m.ob.ax.length ∧
    pf0.length = 32768 ∧
    e10_r9.m.md = Mode.commission ∧
    e10_r9.m.moving 0 = false ∧
    (((binsOf 4096 0 pf0).all fun x => decide (10 ≤ x.snd.getD 1 0) && decide (10 ≤ x.snd.getD 3 0) && decide (x.snd.getD 0 0 ≤ 10 * (e10_r9.m.p P.closeForceLimit (0 / 4) - e10_r9.m.p P.forceDevMin (0 / 4)))) = true) ∧
    Ready (Instr.paramWriteBlock h 48 12416 0 0 pf0) e10_r9 ∧
    e10_r10.m.alive = true ∧
    e10_r10.m.md.comm = true ∧
    InstK.has e10_r10.m.id.part InstK.portal 0 = true ∧
    0 < e10_r10.m.po.length ∧
    e10_r10.m.md.rwl = true ∧
    tableFaultAt (e10_r10.par.tabCtx e10_r10.m.id.part 0) 0 (rowsOf z4096) = none ∧
    Ready (Instr.paramWriteBlock h 32 8320 0 0 z4096) e10_r10 ∧
    e10_r11.m.alive = true ∧
    e10_r11.m.md.comm = true ∧
    InstK.has e10_r11.m.id.part InstK.portal 0 = true ∧
    e10_r11.m.md.rwl = true ∧
    tableFaultAt (e10_r11.par.tabCtx e10_r11.m.id.part 0) 0 (rowsOf sin0) = some 0 ∧
    Ready (Instr.paramWriteBlock h 32 8320 0 0 sin0) e10_r11 ∧
    e19_r1.m.alive = true ∧
    e19_r1.m.md.comm = true ∧
    Ready (Instr.paramWriteBlock h 96 24704 0 0 f2048) e19_r1 ∧
    (e19_r1.m.canPort 0).en = true := by
  refine ⟨?_, ?_, ?_, ?_, ?_, ?_, ?_, ?_, (ready_of ?_), ?_, ?_, ?_, ?_, ?_, ?_, ?_, ?_, (ready_of ?_), ?_,
    ?_, ?_, ?_, (by rw [pf0, List.length_replicate]), ?_, ?_, ?_, (ready_of ?_), ?_, ?_, ?_, ?_, ?_, ?_,
    (ready_of ?_), ?_, ?_, ?_, ?_, ?_, (ready_of ?_), ?_, ?_, (ready_of ?_), ?_⟩ <;> decide +kernel

theorem witness_LongOperations_1 :
    e2_r16.m.alive = true ∧
    e2_r16.m.md.reads = true ∧
    Ready (Instr.nop h) e2_r16 ∧
    e2_r17.m.alive = true ∧
    e2_r17.m.md.reads = true ∧
    e2_r17.m.opOf 0 0 = none ∧
    (if e2_r17.m.recent 0 0 = true then 1 else 4103) = 4103 ∧
    Ready (Instr.longOpQuery h 0 0) e2_r17 ∧
    e2_r18.m.alive = true ∧
    e2_r18.m.md.reads = true ∧
    e2_r18.m.opOf 0 0 = none ∧
    (if e2_r18.m.recent 0 0 = true then 1 else 4103) = 4103 ∧
    Ready (Instr.longOpCancel h 0 0) e2_r18 ∧
    e2.m.alive = true ∧
    (e2.m.turnSlot ≠ some 0 ∨ e2.m.runs 7 = false) ∧
    e7_r1.m.alive = true ∧
    e7_r1.m.md.reads = true ∧
    e7_r1.m.opOf 0 5 = some (lo LongKind.checkValue none) ∧
    Ready (Instr.longOpQuery h 0 5) e7_r1 ∧
    e7_r2.m.alive = true ∧
    e7_r2.m.md.reads = true ∧
    e7_r2.m.opOf 0 5 = some (lo LongKind.checkValue none) ∧
    Ready (Instr.longOpCancel h 0 5) e7_r2 ∧
    e7.m.alive = true ∧
    e7.m.host.ops[0]? = some (lo LongKind.checkValue none) ∧
    e7.m.turnSlot = some 0 ∧
    e7.m.runs 7 = true ∧
    (lo LongKind.checkValue none).kind = LongKind.checkValue ∧
    (le true).last = true ∧
    ((∀ (body : List Byte), (lo LongKind.checkValue none).kind ≠ LongKind.attest body) ∨ (lo LongKind.checkValue none).steps + 1 < 300) ∧
    (le false).last = false ∧
    (lo LongKind.checkValue none).cancel = none ∧
    e8.m.alive = true ∧
    e8.m.host.ops[0]? = some (lo LongKind.checkValue (some 3)) ∧
    e8.m.turnSlot = some 0 ∧
    e8.m.runs 7 = true ∧
    (∀ (i : Nat) (b : Bool), (lo LongKind.checkValue (some 3)).kind ≠ LongKind.home i b) ∧
    (∀ (p : Nat), (lo LongKind.checkValue (some 3)).kind ≠ LongKind.learn p) ∧
    (∀ (a b c : Nat), (lo LongKind.checkValue (some 3)).kind ≠ LongKind.journalRead a b c) ∧
    ((∀ (body : List Byte), (lo LongKind.checkValue (some 3)).kind ≠ LongKind.attest body) ∨ (lo LongKind.checkValue (some 3)).steps + 1 < 300) ∧
    (lo LongKind.checkValue (some 3)).cancel = some 3 ∧
    e7b.m.alive = true ∧
    e7b.m.host.ops[0]? = some (lo LongKind.restoreFactory none) ∧
    e7b.m.turnSlot = some 0 ∧
    e7b.m.runs 7 = true ∧
    (lo LongKind.restoreFactory none).kind = LongKind.restoreFactory := by
  refine ⟨?_, ?_, (ready_of ?_), ?_, ?_, ?_, ?_, (ready_of ?_), ?_, ?_, ?_, ?_, (ready_of ?_), ?_, ?_, ?_, ?_,
    ?_, (ready_of ?_), ?_, ?_, ?_, (ready_of ?_), ?_, ?_, ?_, ?_, ?_, ?_, (.inl (by simp [lo])), ?_, ?_, ?_,
    ?_, ?_, ?_, (by simp [lo]), (by simp [lo]), (by simp [lo]), (.inl (by simp [lo])), ?_, ?_, ?_, ?_, ?_, ?_⟩
    <;> decide +kernel

theorem witness_LongOperations_2 :
    e7c.m.alive = true ∧
    e7c.m.host.ops[0]? = some (lo (LongKind.attest [1]) none) ∧
    e7c.m.turnSlot = some 0 ∧
    e7c.m.runs 7 = true ∧
    (lo (LongKind.attest [1]) none).kind = LongKind.attest [1] ∧
    ((le true).last = true ∨ 300 ≤ (lo (LongKind.attest [1]) none).steps + 1) ∧
    e7e.m.alive = true ∧
    e7e.m.host.ops[0]? = some (lo (LongKind.journalRead 0 0 256) none) ∧
    e7e.m.turnSlot = some 0 ∧
    e7e.m.runs 7 = true ∧
    (lo (LongKind.journalRead 0 0 256) none).kind = LongKind.journalRead 0 0 256 ∧
    (le true).ok = true ∧
    e7e.m.recd.ring (decide (0 = 0)) = { head := 0, floor := 1, stored := 0, recs := [] } ∧
    (if 0 = 0 then 0 else max 0 ({ head := 0, floor := 1, stored := 0, recs := [] } : JRing).floor - 0) = 0 ∧
    (List.take (256 / 256) (List.filter (fun x => decide (max 0 ({ head := 0, floor := 1, stored := 0, recs := [] } : JRing).floor ≤ x.seq)) ({ head := 0, floor := 1, stored := 0, recs := [] } : JRing).recs) = []) ∧
    ([] : List JRec).length ≤ (lo (LongKind.journalRead 0 0 256) none).moved + 480 ∧
    ([] : List JRec).length < (lo (LongKind.journalRead 0 0 256) none).moved + e7e.m.copyRoom := by
  decide +kernel

theorem witness_ClosedModes :
    hdrOf (Instr.nop h) = some h ∧
    e11_r1.m.alive = true ∧
    e11_r1.m.md.reads = false ∧
    Ready (Instr.nop h) e11_r1 := by
  refine ⟨?_, ?_, ?_, (ready_of ?_)⟩ <;> decide +kernel

end C04

namespace C05

def u : Mod → State := fun m => onM (fun _ => m)
def m0 : Mod := base
def ax (x : Mode) (f : Axis → Axis) : State := u ((md x m0).onAx 2 f)
def pw (a : Axis) : Axis := { a with torque := true, iso := .closed }
def d1 : State := ax .service id
def d2 : State := ax .service (fun a => { pw a with A := { a.A with sp := 1000, floorEnds := 100 } })
def d2b : State := ax .service (fun a => { pw a with B := { a.B with sp := -1000, floorEnds := 100 } })
def d3 : State := let x := ax .service (fun a => { a with iso := .closing, gateOff := false }); { x with m := { x.m with saf := { x.m.saf with sto := x.m.saf.sto.map (fun z => { z with applied := false }) } } }
def d4 : State := ax .service (fun a => { a with iso := .opening, restAt := some 5 })
def enc (x : State) : State := { x with m := par P.encType 2 2 (par P.ssiFormat 2 (0x3F * 16777216 + 12 * 4096 + 12) x.m) }
def d5 : State := enc (ax .service id)
def d6 : State := enc (ax .service (fun a => { a with ssiErrs := 1, ssiLast := some 5, ssiDelta := 3 }))
def d7 : State := ax .service (fun a => { a with illegal := [0,1], overspeed := [0,0], idxCap := some (5, 3), idxDir := 1, vel := 7 })
def d8 : State := ax .service (fun a => { pw a with stallTicks := 60000 })
def d9 : State := ax .service (fun a => { a with fault := some 1, gateOff := true, mv := none })
def mv0 : Move := ⟨500, 0, [], 0, 0, ⟨0,0,0,0⟩, .ring h, 0, true, false, none, none, false, false, true⟩
def d10 : State := ax .service (fun a => { pw a with mv := some mv0 })
def d10b : State := ax .service (fun a => { pw a with mv := some mv0, A := { a.A with sp := 1000 } })
def d8b : State := ax .service (fun a => { pw a with stallTicks := 60000, mv := some mv0 })
def d11 : State := ax .service (fun a => { a with testUntil := some (h, 800) })
def sf0 : SsiFrame := ⟨5, 5, true, true⟩
def sf1 : SsiFrame := ⟨5, 5, false, true⟩
def ptr0 : PhaseTestResult := ⟨5, 7, 0, 0, 0⟩
def ptr2 : PhaseTestResult := ⟨5, 7, 2, 0, 0⟩
def ptr3 : PhaseTestResult := ⟨5, 7, 0, 1, 13000⟩
def d13 : State := ax .service (fun a => { a with fault := some 5 })
def d15 : State := let x := d13; { x with m := { x.m with raw := 30000000 } }
def d1_r1 : State := fetched h (descDriveStatus 2 2) d1
def d1_r2 : State := fetched h (descDriveStatus 2 64) d1
def d1_r3 : State := fetched h (descAxisFaultClear 2) d1
def d1_r4 : State := fetched h (descPhaseTest 2) d1
def d9_r1 : State := fetched h (descAxisFaultClear 2) d9
def d9_r2 : State := fetched h (descAxisFaultClear 2) d9
def d10_r1 : State := fetched h (descAxisFaultClear 2) d10
def d10_r2 : State := fetched h (descPhaseTest 2) d10
def d15_r1 : State := fetched h (descAxisFaultClear 2) d15

theorem witness_DriveLoop :
    d1.m.alive = true ∧
    d1.m.axes.contains 2 = true ∧
    2 < d1.m.ax.length ∧
    (d1.m.axis 2).torque = false ∧
    (d1.m.axis 2).restAt = some 0 ∧
    (d1.m.axis 2).ramp = none ∧
    d1_r1.m.alive = true ∧
    d1_r1.m.axes.contains 2 = true ∧
    2 < d1_r1.m.ax.length ∧
    d1_r1.m.md.reads = true ∧
    63 < 64 ∧
    Ready (Instr.driveStatus h 2 2) d1_r1 ∧
    d1_r2.m.alive = true ∧
    d1_r2.m.axes.contains 2 = true ∧
    2 < d1_r2.m.ax.length ∧
    d1_r2.m.md.reads = true ∧
    64 ≤ 64 ∧
    Ready (Instr.driveStatus h 2 64) d1_r2 ∧
    d2.m.alive = true ∧
    d2.m.axes.contains 2 = true ∧
    2 < d2.m.ax.length ∧
    (d2.m.axis 2).torque = true ∧
    2 ≠ 1 ∧
    (100 ≤ if 1 = 1 then (d2.m.axis 2).A.floorEnds else (d2.m.axis 2).B.floorEnds) ∧
    (d2.m.axis 2).notReachedAt = none ∧
    d3.m.alive = true ∧
    d3.m.axes.contains 2 = true ∧
    2 < d3.m.ax.length ∧
    (d3.m.axis 2).iso = Iso.closing ∧
    d3.m.mayDrive 2 = true ∧
    d4.m.alive = true ∧
    d4.m.axes.contains 2 = true ∧
    2 < d4.m.ax.length ∧
    (d4.m.axis 2).iso = Iso.opening ∧
    100 ≤ (if 1 = 0 then (d2b.m.axis 2).A.floorEnds else (d2b.m.axis 2).B.floorEnds) := by
  refine ⟨?_, ?_, ?_, ?_, ?_, ?_, ?_, ?_, ?_, ?_, ?_, (ready_of ?_), ?_, ?_, ?_, ?_, ?_, (ready_of ?_), ?_,
    ?_, ?_, ?_, ?_, ?_, ?_, ?_, ?_, ?_, ?_, ?_, ?_, ?_, ?_, ?_, ?_⟩ <;> decide +kernel

theorem witness_Encoders :
    d1.m.alive = true ∧
    d1.m.axes.contains 2 = true ∧
    2 < d1.m.ax.length ∧
    d1.m.ssiClocked 2 = false ∧
    (within10ms d1.m.raw (d1.m.axis 2).illegal).length + (within10ms d1.m.raw (d1.m.axis 2).overspeed).length = 0 ∧
    (d1.m.axis 2).home = none ∧
    d5.m.alive = true ∧
    d5.m.axes.contains 2 = true ∧
    2 < d5.m.ax.length ∧
    d5.m.ssiClocked 2 = true ∧
    d5.m.ssiError 2 sf0 = none ∧
    ssiPos (d5.m.pn P.ssiFormat 2) sf0.bits = 5 ∧
    d5.m.ssiError 2 sf1 = some 1 ∧
    (d5.m.axis 2).ssiErrs = 0 ∧
    d6.m.alive = true ∧
    d6.m.axes.contains 2 = true ∧
    2 < d6.m.ax.length ∧
    d6.m.ssiClocked 2 = true ∧
    d6.m.ssiError 2 sf1 = some 1 ∧
    (d6.m.axis 2).ssiErrs = 1 ∧
    d7.m.alive = true ∧
    d7.m.axes.contains 2 = true ∧
    2 < d7.m.ax.length ∧
    (d7.m.axis 2).home = none ∧
    (d7.m.axis 2).idxCap = some (5, 3) ∧
    (d7.m.axis 2).vel ≠ 0 ∧
    (d7.m.axis 2).idxDir = sgn (d7.m.axis 2).vel ∧
    wholeRevs (1500 - 5) 10 = false := by
  decide +kernel

theorem witness_DriveFaults :
    d1.m.alive = true ∧
    d1.m.axes.contains 2 = true ∧
    2 < d1.m.ax.length ∧
    2 / 4 < d1.m.saf.sto.length ∧
    (d1.m.axis 2).stallTicks ≤ d1.m.pn P.devTime 2 ∧
    d2.m.alive = true ∧
    d2.m.axes.contains 2 = true ∧
    2 < d2.m.ax.length ∧
    (d2.m.axis 2).torque = true ∧
    500 * 2047 ≤ (if 1 = 1 then (d2.m.axis 2).A.sp else (d2.m.axis 2).B.sp).natAbs * 10000 ∧
    (d2.m.axis 2).mv = none ∧
    d8.m.alive = true ∧
    d8.m.axes.contains 2 = true ∧
    2 < d8.m.ax.length ∧
    d8.m.pn P.devTime 2 < (d8.m.axis 2).stallTicks ∧
    (d8.m.axis 2).stallHeld = false ∧
    (d8.m.axis 2).torque = true ∧
    (d8.m.axis 2).encBad = false ∧
    d8.m.moving 2 = false ∧
    d8b.m.alive = true ∧
    d8b.m.axes.contains 2 = true ∧
    2 < d8b.m.ax.length ∧
    d8b.m.pn P.devTime 2 < (d8b.m.axis 2).stallTicks ∧
    (d8b.m.axis 2).stallHeld = false ∧
    (d8b.m.axis 2).torque = true ∧
    (d8b.m.axis 2).encBad = false ∧
    d8b.m.moving 2 = true ∧
    (d8b.m.axis 2).mv = some { start := 500, p0 := 0, segs := [], rest := 0, target := 0, lim := { v := 0, a := 0, d := 0, j := 0 }, src := MSrc.ring { ring := 0, idx := 5, tag := 7, irq := true, noProg := false }, tag := 0, jog := some true, home := false, stop := none, next := none, overrun := false, toEnc := false, fresh := true } ∧
    ({ start := 500, p0 := 0, segs := [], rest := 0, target := 0, lim := { v := 0, a := 0, d := 0, j := 0 }, src := MSrc.ring { ring := 0, idx := 5, tag := 7, irq := true, noProg := false }, tag := 0, jog := some true, home := false, stop := none, next := none, overrun := false, toEnc := false, fresh := true } : Move).stop ≠ some StopWhy.safeStop ∧
    d10b.m.alive = true ∧
    d10b.m.axes.contains 2 = true ∧
    2 < d10b.m.ax.length ∧
    (d10b.m.axis 2).torque = true ∧
    500 * 2047 ≤ (if 1 = 1 then (d10b.m.axis 2).A.sp else (d10b.m.axis 2).B.sp).natAbs * 10000 ∧
    (d10b.m.axis 2).mv.isSome = true ∧
    500 * 2047 ≤ (if 2 = 1 then (d2b.m.axis 2).A.sp else (d2b.m.axis 2).B.sp).natAbs * 10000 := by
  decide +kernel

theorem witness_FaultClear_1 :
    d1_r3.m.alive = true ∧
    d1_r3.m.axes.contains 2 = true ∧
    2 < d1_r3.m.ax.length ∧
    d1_r3.m.locked (Res.axis 2) = false ∧
    d1_r3.m.md.faultClear = true ∧
    d1_r3.m.moving 2 = false ∧
    (d1_r3.m.axis 2).fault = none ∧
    Ready (Instr.axisFaultClear h 2 true) d1_r3 ∧
    d1_r4.m.alive = true ∧
    d1_r4.m.axes.contains 2 = true ∧
    2 < d1_r4.m.ax.length ∧
    d1_r4.m.locked (Res.axis 2) = false ∧
    d1_r4.m.md.maint = true ∧
    d1_r4.m.moving 2 = false ∧
    (d1_r4.m.axis 2).testUntil = none ∧
    Ready (Instr.phaseTest h 2) d1_r4 ∧
    d9_r1.m.alive = true ∧
    d9_r1.m.axes.contains 2 = true ∧
    2 < d9_r1.m.ax.length ∧
    d9_r1.m.locked (Res.axis 2) = false ∧
    d9_r1.m.md.faultClear = true ∧
    d9_r1.m.moving 2 = false ∧
    (d9_r1.m.axis 2).fault = some 1 ∧
    (d9_r1.m.axis 2).faults = [] ∧
    1 ≠ 5 ∧
    (1 = 4 → (d9_r1.m.axis 2).encBadAt + 20000000 ≤ d9_r1.m.raw) ∧
    Ready (Instr.axisFaultClear h 2 true) d9_r1 ∧
    d9_r2.m.alive = true ∧
    d9_r2.m.axes.contains 2 = true ∧
    2 < d9_r2.m.ax.length ∧
    d9_r2.m.locked (Res.axis 2) = false ∧
    d9_r2.m.md.faultClear = true ∧
    d9_r2.m.moving 2 = false ∧
    (d9_r2.m.axis 2).fault.isSome = true ∧
    d9_r2.m.causesGone 2 false = false ∧
    Ready (Instr.axisFaultClear h 2 false) d9_r2 ∧
    d10_r1.m.alive = true ∧
    d10_r1.m.axes.contains 2 = true ∧
    2 < d10_r1.m.ax.length ∧
    d10_r1.m.locked (Res.axis 2) = false ∧
    d10_r1.m.md.faultClear = true ∧
    d10_r1.m.moving 2 = true ∧
    Ready (Instr.axisFaultClear h 2 true) d10_r1 := by
  refine ⟨?_, ?_, ?_, ?_, ?_, ?_, ?_, (ready_of ?_), ?_, ?_, ?_, ?_, ?_, ?_, ?_, (ready_of ?_), ?_, ?_, ?_,
    ?_, ?_, ?_, ?_, ?_, ?_, ?_, (ready_of ?_), ?_, ?_, ?_, ?_, ?_, ?_, ?_, ?_, (ready_of ?_), ?_, ?_, ?_, ?_,
    ?_, ?_, (ready_of ?_)⟩ <;> decide +kernel

theorem witness_FaultClear_2 :
    d10_r2.m.alive = true ∧
    d10_r2.m.axes.contains 2 = true ∧
    2 < d10_r2.m.ax.length ∧
    d10_r2.m.locked (Res.axis 2) = false ∧
    d10_r2.m.md.maint = true ∧
    (d10_r2.m.moving 2 = true ∨ (d10_r2.m.axis 2).testUntil.isSome = true) ∧
    Ready (Instr.phaseTest h 2) d10_r2 ∧
    d11.m.alive = true ∧
    d11.m.axes.contains 2 = true ∧
    2 < d11.m.ax.length ∧
    d11.m.locked (Res.axis 2) = false ∧
    (d11.m.axis 2).testUntil = some (h, 800) ∧
    ptr0.openPhase = 0 ∧
    ptr0.overPhase = 0 ∧
    ptr2.openPhase ≠ 0 ∧
    ptr3.openPhase = 0 ∧
    ptr3.overPhase ≠ 0 ∧
    d15_r1.m.alive = true ∧
    d15_r1.m.axes.contains 2 = true ∧
    2 < d15_r1.m.ax.length ∧
    d15_r1.m.locked (Res.axis 2) = false ∧
    d15_r1.m.md.faultClear = true ∧
    d15_r1.m.moving 2 = false ∧
    (d15_r1.m.axis 2).fault = some 5 ∧
    (d15_r1.m.axis 2).faults = [] ∧
    d15_r1.m.still (2 / 4) = true ∧
    Ready (Instr.axisFaultClear h 2 true) d15_r1 := by
  refine ⟨?_, ?_, ?_, ?_, ?_, ?_, (ready_of ?_), ?_, ?_, ?_, ?_, ?_, ?_, ?_, ?_, ?_, ?_, ?_, ?_, ?_, ?_, ?_,
    ?_, ?_, ?_, ?_, (ready_of ?_)⟩ <;> decide +kernel

end C05

namespace C06
open C05

def g1 : State := let x := ax .activeClosed (fun a => { pw a with referenced := true }); { x with m := par P.portalEnable 0 0 x.m }
def g2 : State := ax .service pw
def g3 : State := ax .service (fun a => { pw a with fault := some 2 })
def g5 : State := ax .service (fun a => { pw a with inPosSince := some 300, inPosRaised := false, jogDir := some true, home := none })
def g6 : State := ax .service (fun a => { pw a with mv := some mv0, jogDir := some true })
def hr (ph : HomePh) (k : Nat) : HomeRun := ⟨k, ph, true, 100, none, 60000, 1, none, 0, none, 0, false⟩
def ho : LongOp := ⟨some h, .home 2 false, 0, 0, none, none, false, 0, 0⟩
def g7 : State := ax .service (fun a => { pw a with home := some (hr .align 0) })
def g8 : State := ax .service (fun a => { pw a with home := some (hr .search 4), mv := some { mv0 with jog := false, home := true } })
def g9 : State := ax .service (fun a => { pw a with home := some (hr .confirm 4) })
def g10 : State := let x := ax .service (fun a => { pw a with home := some (hr .search 0) }); { x with m := { x.m with host := { x.m.host with ops := [ho] } } }
def g11 : State := { ax .commission id with m := par P.portalType 0 1 (ax .commission id).m }
def g13 : State := { g11 with m := par P.homeMethod 2 4 (par P.homeMethod 3 4 g11.m) }
def g14 : State := let x := g2; { x with m := { x.m with host := { x.m.host with ops := List.replicate 8 { ho with kind := .checkValue } } } }
def g15 : State := ax .service (fun a => { pw a with mv := some { mv0 with next := none }, jogDir := some false })
def g16 : State := ax .service (fun a => { pw a with mv := some { mv0 with stop := some .safeStop } })
def g17 : State := { g2 with m := par P.axisScale 2 256 (par P.homeSpeed 2 400000 (par P.jogSpeedMax 2 400000 g2.m)) }
def g18 : State := { g2 with m := par P.portalAxisMap 0 0xFFF g2.m }
def ma0 : MoveArgs := ⟨1000, 0, 0, 0, 0, false, false⟩
def ma1 : MoveArgs := ⟨100000000, 0, 0, 0, 0, false, false⟩
def la0 : LimitArgs := ⟨0, 0, 0, 0⟩
def la1 : LimitArgs := ⟨4000000000, 0, 0, 0⟩
def g1_r1 : State := fetched h (descMove 2 ma0) g1
def g1_r2 : State := fetched h (descMove 2 ma1) g1
def g1_r3 : State := fetched h (descSetMotionLimits 2 la0) g1
def g1_r4 : State := fetched h (descSetMotionLimits 2 la1) g1
def g1_r5 : State := fetched h (descStop 2) g1
def g1_r6 : State := fetched h (descPositionRead 2) g1
def g2_r1 : State := fetched h (descJog 2 true true 2) g2
def g2_r2 : State := fetched h (descJog 2 true true 4000000000) g2
def g2_r3 : State := fetched h (descJog 0 true true 2) g2
def g2_r4 : State := fetched h (descHome 2 true) g2
def g3_r1 : State := fetched h (descHome 2 false) g3
def g10_r1 : State := fetched h (descHome 2 false) g10
def g13_r1 : State := fetched h (descHome 2 false) g13
def g14_r1 : State := fetched h (descHome 2 true) g14
def g15_r1 : State := fetched h (descJog 2 true false 2) g15
def g15_r2 : State := fetched h (descJog 2 false true 2) g15
def g16_r1 : State := fetched h (descJog 2 true true 2) g16
def g17_r1 : State := fetched h (descJog 2 true true 0) g17
def g17_r2 : State := fetched h (descHome 2 false) g17
def g18_r1 : State := fetched h (descHome 0 true) g18

theorem witness_TickGrid :
    g1.m.sup.powered = true := by
  decide +kernel

theorem witness_TickReach :
    g1.m.sup.powered = true := by
  decide +kernel

theorem witness_MotionCommands_1 :
    g1_r1.m.alive = true ∧
    g1_r1.m.axes.contains 2 = true ∧
    2 < g1_r1.m.ax.length ∧
    g1_r1.m.locked (Res.axis 2) = false ∧
    g1_r1.m.md.active = true ∧
    g1_r1.m.moveCheck 2 false ma0 = none ∧
    Ready (Instr.move h 2 ma0) g1_r1 ∧
    g1_r2.m.alive = true ∧
    g1_r2.m.axes.contains 2 = true ∧
    2 < g1_r2.m.ax.length ∧
    g1_r2.m.locked (Res.axis 2) = false ∧
    g1_r2.m.md.active = true ∧
    g1_r2.m.moveCheck 2 false ma1 = some 4614 ∧
    Ready (Instr.move h 2 ma1) g1_r2 ∧
    g1_r3.m.alive = true ∧
    g1_r3.m.axes.contains 2 = true ∧
    2 < g1_r3.m.ax.length ∧
    g1_r3.m.locked (Res.axis 2) = false ∧
    g1_r3.m.md.active = true ∧
    g1_r3.m.limArgStatus 2 la0 = none ∧
    Ready (Instr.setMotionLimits h 2 la0) g1_r3 ∧
    g1_r4.m.alive = true ∧
    g1_r4.m.axes.contains 2 = true ∧
    2 < g1_r4.m.ax.length ∧
    g1_r4.m.locked (Res.axis 2) = false ∧
    g1_r4.m.md.active = true ∧
    g1_r4.m.limArgStatus 2 la1 = some 4615 ∧
    Ready (Instr.setMotionLimits h 2 la1) g1_r4 ∧
    g1_r5.m.alive = true ∧
    g1_r5.m.axes.contains 2 = true ∧
    2 < g1_r5.m.ax.length ∧
    g1_r5.m.locked (Res.axis 2) = false ∧
    g1_r5.m.md.faultClear = true ∧
    Ready (Instr.stop h 2) g1_r5 ∧
    g1_r6.m.alive = true ∧
    g1_r6.m.axes.contains 2 = true ∧
    2 < g1_r6.m.ax.length ∧
    g1_r6.m.locked (Res.axis 2) = false ∧
    g1_r6.m.md.reads = true ∧
    Ready (Instr.positionRead h 2) g1_r6 := by
  refine ⟨?_, ?_, ?_, ?_, ?_, ?_, (ready_of ?_), ?_, ?_, ?_, ?_, ?_, ?_, (ready_of ?_), ?_, ?_, ?_, ?_, ?_,
    ?_, (ready_of ?_), ?_, ?_, ?_, ?_, ?_, ?_, (ready_of ?_), ?_, ?_, ?_, ?_, ?_, (ready_of ?_), ?_, ?_, ?_,
    ?_, ?_, (ready_of ?_)⟩ <;> decide +kernel

theorem witness_MotionCommands_2 :
    g2_r1.m.alive = true ∧
    g2_r1.m.axes.contains 2 = true ∧
    2 < g2_r1.m.ax.length ∧
    g2_r1.m.locked (Res.axis 2) = false ∧
    g2_r1.m.md.maint = true ∧
    Ready (Instr.jog h 2 true true 2) g2_r1 ∧
    ((decide ((g2_r1.m.axis 2).jogDir = some true) && g2_r1.m.moving 2 && (decide ((Option.map (fun x => x.stop) (g2_r1.m.axis 2).mv).join = none) || (g2_r1.m.axis 2).jogWaits)) = false) ∧
    2 ≤ g2_r1.m.pn P.jogSpeedMax 2 ∧
    g2_r1.m.tooFast 2 (g2_r1.m.jogSpeed 2 2) = false ∧
    g2_r1.m.axisCheck 2 false false = none ∧
    (g2_r1.m.moving 2 = false ∨ true = true) ∧
    (g2_r1.m.axis 2).stopping = false ∧
    g2_r2.m.alive = true ∧
    g2_r2.m.axes.contains 2 = true ∧
    2 < g2_r2.m.ax.length ∧
    g2_r2.m.locked (Res.axis 2) = false ∧
    g2_r2.m.md.maint = true ∧
    Ready (Instr.jog h 2 true true 4000000000) g2_r2 ∧
    ((decide ((g2_r2.m.axis 2).jogDir = some true) && g2_r2.m.moving 2 && (decide ((Option.map (fun x => x.stop) (g2_r2.m.axis 2).mv).join = none) || (g2_r2.m.axis 2).jogWaits)) = false) ∧
    g2_r2.m.pn P.jogSpeedMax 2 < 4000000000 ∧
    g2_r3.m.alive = true ∧
    g2_r3.m.axes.contains 0 = true ∧
    0 < g2_r3.m.ax.length ∧
    g2_r3.m.locked (Res.axis 0) = false ∧
    g2_r3.m.md.maint = true ∧
    Ready (Instr.jog h 0 true true 2) g2_r3 ∧
    ((decide ((g2_r3.m.axis 0).jogDir = some true) && g2_r3.m.moving 0 && (decide ((Option.map (fun x => x.stop) (g2_r3.m.axis 0).mv).join = none) || (g2_r3.m.axis 0).jogWaits)) = false) ∧
    2 ≤ g2_r3.m.pn P.jogSpeedMax 0 ∧
    g2_r3.m.tooFast 0 (g2_r3.m.jogSpeed 0 2) = false ∧
    g2_r3.m.axisCheck 0 false false = some 8712 ∧
    g2_r4.m.alive = true ∧
    g2_r4.m.md.maint = true ∧
    Ready (Instr.home h 2 true) g2_r4 ∧
    (if true = true then g2_r4.m.portals.contains 2 else g2_r4.m.axes.contains 2) = true ∧
    g2_r4.m.homeAxes 2 true = [11, 10, 8, 9] ∧
    (∀ (i : Nat), i ∈ [11, 10, 8, 9] → g2_r4.m.locked (Res.axis i) = false) ∧
    (∀ (i : Nat), i ∈ [11, 10, 8, 9] → (g2_r4.m.axis i).fault = none) ∧
    (∀ (i : Nat), i ∈ [11, 10, 8, 9] → g2_r4.m.homeBusy i = false ∧ g2_r4.m.homeFits i (g2_r4.m.nextMethod i) = true) ∧
    (∀ (j : Nat), j ∈ [11, 10, 8, 9] → g2_r4.m.homeTooFast j = false) ∧
    g2_r4.m.host.ops.length < 8 ∧
    [11, 10, 8, 9].head? = some 11 ∧
    11 < g2_r4.m.ax.length := by
  refine ⟨?_, ?_, ?_, ?_, ?_, (ready_of ?_), ?_, ?_, ?_, ?_, ?_, ?_, ?_, ?_, ?_, ?_, ?_, (ready_of ?_), ?_,
    ?_, ?_, ?_, ?_, ?_, ?_, (ready_of ?_), ?_, ?_, ?_, ?_, ?_, ?_, (ready_of ?_), ?_, ?_, ?_, ?_, ?_, ?_, ?_,
    ?_, ?_⟩ <;> decide +kernel

theorem witness_MotionCommands_3 :
    g3_r1.m.alive = true ∧
    g3_r1.m.md.maint = true ∧
    Ready (Instr.home h 2 false) g3_r1 ∧
    (if false = true then g3_r1.m.portals.contains 2 else g3_r1.m.axes.contains 2) = true ∧
    g3_r1.m.homeAxes 2 false = [2] ∧
    (∀ (i : Nat), i ∈ [2] → g3_r1.m.locked (Res.axis i) = false) ∧
    (∃ i, i ∈ [2] ∧ (g3_r1.m.axis i).fault.isSome = true) ∧
    g10_r1.m.alive = true ∧
    g10_r1.m.md.maint = true ∧
    Ready (Instr.home h 2 false) g10_r1 ∧
    (if false = true then g10_r1.m.portals.contains 2 else g10_r1.m.axes.contains 2) = true ∧
    g10_r1.m.homeAxes 2 false = [2] ∧
    (∀ (i : Nat), i ∈ [2] → g10_r1.m.locked (Res.axis i) = false) ∧
    (∀ (i : Nat), i ∈ [2] → (g10_r1.m.axis i).fault = none) ∧
    (∃ i, i ∈ [2] ∧ g10_r1.m.homeBusy i = true) ∧
    g13_r1.m.alive = true ∧
    g13_r1.m.md.maint = true ∧
    Ready (Instr.home h 2 false) g13_r1 ∧
    (if false = true then g13_r1.m.portals.contains 2 else g13_r1.m.axes.contains 2) = true ∧
    g13_r1.m.homeAxes 2 false = [2] ∧
    (∀ (i : Nat), i ∈ [2] → g13_r1.m.locked (Res.axis i) = false) ∧
    (∀ (i : Nat), i ∈ [2] → (g13_r1.m.axis i).fault = none) ∧
    (∀ (i : Nat), i ∈ [2] → g13_r1.m.homeBusy i = false) ∧
    (∃ i, i ∈ [2] ∧ g13_r1.m.homeFits i (g13_r1.m.nextMethod i) = false) ∧
    g14_r1.m.alive = true ∧
    g14_r1.m.md.maint = true ∧
    Ready (Instr.home h 2 true) g14_r1 ∧
    (if true = true then g14_r1.m.portals.contains 2 else g14_r1.m.axes.contains 2) = true ∧
    g14_r1.m.homeAxes 2 true = [11, 10, 8, 9] ∧
    (∀ (i : Nat), i ∈ [11, 10, 8, 9] → g14_r1.m.locked (Res.axis i) = false) ∧
    (∀ (i : Nat), i ∈ [11, 10, 8, 9] → (g14_r1.m.axis i).fault = none) ∧
    (∀ (i : Nat), i ∈ [11, 10, 8, 9] → g14_r1.m.homeBusy i = false ∧ g14_r1.m.homeFits i (g14_r1.m.nextMethod i) = true) ∧
    (∀ (i : Nat), i ∈ [11, 10, 8, 9] → g14_r1.m.homeTooFast i = false) ∧
    8 ≤ g14_r1.m.host.ops.length ∧
    g15_r1.m.alive = true ∧
    g15_r1.m.axes.contains 2 = true ∧
    2 < g15_r1.m.ax.length ∧
    g15_r1.m.locked (Res.axis 2) = false ∧
    g15_r1.m.md.maint = true ∧
    Ready (Instr.jog h 2 true false 2) g15_r1 ∧
    ((decide ((g15_r1.m.axis 2).jogDir = some true) && g15_r1.m.moving 2 && (decide ((Option.map (fun x => x.stop) (g15_r1.m.axis 2).mv).join = none) || (g15_r1.m.axis 2).jogWaits)) = false) ∧
    2 ≤ g15_r1.m.pn P.jogSpeedMax 2 ∧
    g15_r1.m.tooFast 2 (g15_r1.m.jogSpeed 2 2) = false ∧
    g15_r1.m.axisCheck 2 false false = none ∧
    g15_r1.m.moving 2 = true := by
  refine ⟨?_, ?_, (ready_of ?_), ?_, ?_, ?_, ?_, ?_, ?_, (ready_of ?_), ?_, ?_, ?_, ?_, ?_, ?_, ?_, (ready_of
    ?_), ?_, ?_, ?_, ?_, ?_, ?_, ?_, ?_, (ready_of ?_), ?_, ?_, ?_, ?_, ?_, ?_, ?_, ?_, ?_, ?_, ?_, ?_,
    (ready_of ?_), ?_, ?_, ?_, ?_, ?_⟩ <;> decide +kernel

theorem witness_MotionCommands_4 :
    g15_r2.m.alive = true ∧
    g15_r2.m.axes.contains 2 = true ∧
    2 < g15_r2.m.ax.length ∧
    g15_r2.m.locked (Res.axis 2) = false ∧
    g15_r2.m.md.maint = true ∧
    Ready (Instr.jog h 2 false true 2) g15_r2 ∧
    ((decide ((g15_r2.m.axis 2).jogDir = some false) && g15_r2.m.moving 2 && (decide ((Option.map (fun x => x.stop) (g15_r2.m.axis 2).mv).join = none) || (g15_r2.m.axis 2).jogWaits)) = true) ∧
    g16_r1.m.alive = true ∧
    g16_r1.m.axes.contains 2 = true ∧
    2 < g16_r1.m.ax.length ∧
    g16_r1.m.locked (Res.axis 2) = false ∧
    g16_r1.m.md.maint = true ∧
    Ready (Instr.jog h 2 true true 2) g16_r1 ∧
    ((decide ((g16_r1.m.axis 2).jogDir = some true) && g16_r1.m.moving 2 && (decide ((Option.map (fun x => x.stop) (g16_r1.m.axis 2).mv).join = none) || (g16_r1.m.axis 2).jogWaits)) = false) ∧
    2 ≤ g16_r1.m.pn P.jogSpeedMax 2 ∧
    g16_r1.m.tooFast 2 (g16_r1.m.jogSpeed 2 2) = false ∧
    g16_r1.m.axisCheck 2 false false = none ∧
    (g16_r1.m.moving 2 = false ∨ true = true) ∧
    (g16_r1.m.axis 2).stopping = true ∧
    g17_r1.m.alive = true ∧
    g17_r1.m.axes.contains 2 = true ∧
    2 < g17_r1.m.ax.length ∧
    g17_r1.m.locked (Res.axis 2) = false ∧
    g17_r1.m.md.maint = true ∧
    Ready (Instr.jog h 2 true true 0) g17_r1 ∧
    ((decide ((g17_r1.m.axis 2).jogDir = some true) && g17_r1.m.moving 2 && (decide ((Option.map (fun x => x.stop) (g17_r1.m.axis 2).mv).join = none) || (g17_r1.m.axis 2).jogWaits)) = false) ∧
    0 ≤ g17_r1.m.pn P.jogSpeedMax 2 ∧
    g17_r1.m.tooFast 2 (g17_r1.m.jogSpeed 2 0) = true ∧
    g17_r2.m.alive = true ∧
    g17_r2.m.md.maint = true ∧
    Ready (Instr.home h 2 false) g17_r2 ∧
    (if false = true then g17_r2.m.portals.contains 2 else g17_r2.m.axes.contains 2) = true ∧
    g17_r2.m.homeAxes 2 false = [2] ∧
    (∀ (i : Nat), i ∈ [2] → g17_r2.m.locked (Res.axis i) = false) ∧
    (∀ (i : Nat), i ∈ [2] → (g17_r2.m.axis i).fault = none) ∧
    (∀ (i : Nat), i ∈ [2] → g17_r2.m.homeBusy i = false ∧ g17_r2.m.homeFits i (g17_r2.m.nextMethod i) = true) ∧
    (∃ i, i ∈ [2] ∧ g17_r2.m.homeTooFast i = true) ∧
    g18_r1.m.alive = true ∧
    g18_r1.m.md.maint = true ∧
    Ready (Instr.home h 0 true) g18_r1 ∧
    (if true = true then g18_r1.m.portals.contains 0 else g18_r1.m.axes.contains 0) = true ∧
    g18_r1.m.homeAxes 0 true = [] ∧
    (∀ (i : Nat), i ∈ [] → g18_r1.m.locked (Res.axis i) = false) ∧
    (∀ (i : Nat), i ∈ [] → (g18_r1.m.axis i).fault = none) ∧
    (∀ (i : Nat), i ∈ [] → g18_r1.m.homeBusy i = false ∧ g18_r1.m.homeFits i (g18_r1.m.nextMethod i) = true) ∧
    g18_r1.m.host.ops.length < 8 := by
  refine ⟨?_, ?_, ?_, ?_, ?_, (ready_of ?_), ?_, ?_, ?_, ?_, ?_, ?_, (ready_of ?_), ?_, ?_, ?_, ?_, ?_, ?_,
    ?_, ?_, ?_, ?_, ?_, (ready_of ?_), ?_, ?_, ?_, ?_, ?_, (ready_of ?_), ?_, ?_, ?_, ?_, ?_, ?_, ?_, ?_,
    (ready_of ?_), ?_, ?_, ?_, ?_, ?_, ?_⟩ <;> decide +kernel

theorem witness_MotionEnds :
    g5.m.alive = true ∧
    g5.m.axes.contains 2 = true ∧
    2 < g5.m.ax.length ∧
    (g5.m.axis 2).inPosSince = some 300 ∧
    g5.m.moving 2 = false ∧
    (g5.m.axis 2).inPosRaised = false ∧
    g6.m.alive = true ∧
    g6.m.axes.contains 2 = true ∧
    2 < g6.m.ax.length ∧
    (g6.m.axis 2).mv = some mv0 ∧
    mv0.stop = none ∧
    (g6.m.axis 2).jogDir.isSome = true ∧
    g7.m.alive = true ∧
    g7.m.axes.contains 2 = true ∧
    2 < g7.m.ax.length ∧
    (g7.m.axis 2).home = some (hr HomePh.align 0) ∧
    (hr HomePh.align 0).ph = HomePh.align ∧
    g8.m.alive = true ∧
    g8.m.axes.contains 2 = true ∧
    2 < g8.m.ax.length ∧
    (g8.m.axis 2).home = some (hr HomePh.search 4) ∧
    (g8.m.axis 2).endStopPhase = true ∧
    g8.m.pn P.homeStopTime 2 ≤ (hr HomePh.search 4).stopTicks ∧
    ((hr HomePh.search 4).method = 4 ∨ (hr HomePh.search 4).method = 5) ∧
    g8.m.homePair 2 (hr HomePh.search 4).method = false ∧
    g9.m.alive = true ∧
    g9.m.axes.contains 2 = true ∧
    2 < g9.m.ax.length ∧
    (g9.m.axis 2).home = some (hr HomePh.confirm 4) ∧
    (hr HomePh.confirm 4).ph = HomePh.confirm ∧
    g9.m.homeOp 2 = none ∧
    g10.m.alive = true ∧
    g10.m.axes.contains 2 = true ∧
    2 < g10.m.ax.length ∧
    (g10.m.axis 2).home = some (hr HomePh.search 0) ∧
    g10.m.homeOp 2 = some ho ∧
    ho.hdr = some h := by
  decide +kernel

end C06

namespace C07
open C05

def po (x : Mode) (f : Portal → Portal) : State := u ((md x m0).onPo 0 f)
def axes (f : Axis → Axis) (s : State) : State := { s with m := { s.m with ax := s.m.ax.map f } }
def p1 : State := po .commission (fun q => { q with timers := [.running 700, .idle, .idle, .idle], state := 0 })
def p2 : State := po .activeClosed (fun q => { q with lockWatch := some (1, 700), stepWatch := some (0, 900), state := 0 })
def p4 : State := axes (fun a => { a with mv := some mv0 }) p1
def p5 : State := po .service (fun q => { q with state := 9 })
def p8 : State := let x := po .activeReleased (fun q => { q with state := 0 }); { x with m := { x.m with side := ⟨{ x.m.side.L with grant := true, released := true }, x.m.side.R⟩ } }
def p11 : State := { p8 with m := { p8.m with side := ⟨p8.m.side.L, { p8.m.side.R with grant := true, released := true }⟩ } }
def p10 : State := { p1 with par := ([0,1,4,5,8,9,12,13] : List Nat).foldl (fun st k => st.set P.portalPos k (if k % 4 = 0 then 0 else 500000)) p1.par }
def p1_r1 : State := fetched h (descLoadTemplate 0 0) p1
def p1_r2 : State := fetched h (descLoadTemplate 0 1) p1
def p1_r3 : State := fetched h (descPortalReset 0) p1
def p2_r1 : State := fetched h (descPortalRequest 0 1) p2
def p2_r2 : State := fetched h (descPortalRequest 0 4) p2
def p2_r3 : State := fetched h (descPortalRequest 0 0) p2
def p2_r4 : State := fetched h (descSideRelease 0 true) p2
def p4_r1 : State := fetched h (descLoadTemplate 0 1) p4
def p5_r1 : State := fetched h (descPortalReset 0) p5
def p8_r1 : State := fetched h (descPortalRequest 0 0) p8
def p8_r2 : State := fetched h (descSideRelease (2 ^ sideNum Side.L) false) p8
def p10_r1 : State := fetched h (descLoadTemplate 0 1) p10
def p11_r1 : State := fetched h (descSideRelease 3 false) p11

theorem witness_Portals_1 :
    p1.m.alive = true ∧
    p1.m.portals.contains 0 = true ∧
    0 < p1.m.po.length ∧
    (p1.m.portal 0).timers.getD 0 Tmr.idle = Tmr.running 700 ∧
    p1_r1.m.alive = true ∧
    p1_r1.m.portals.contains 0 = true ∧
    0 < p1_r1.m.po.length ∧
    p1_r1.m.md = Mode.commission ∧
    (0 = 0 ∨ 4 < 0) ∧
    Ready (Instr.loadTemplate h 0 0) p1_r1 ∧
    p1_r2.m.alive = true ∧
    p1_r2.m.portals.contains 0 = true ∧
    0 < p1_r2.m.po.length ∧
    p1_r2.m.md = Mode.commission ∧
    1 ≤ 1 ∧
    1 ≤ 4 ∧
    p1_r2.m.portalRest 0 = true ∧
    tableFaultAt (p1_r2.par.tabCtx p1_r2.m.id.part 0) 0 (template 1 0 (p1_r2.par.get P.portalLsMap 0).toNat) = some 522 ∧
    Ready (Instr.loadTemplate h 0 1) p1_r2 ∧
    p1_r3.m.alive = true ∧
    p1_r3.m.portals.contains 0 = true ∧
    0 < p1_r3.m.po.length ∧
    (p1_r3.m.md.faultClear = true ∨ p1_r3.m.md = Mode.egress) ∧
    p1_r3.m.locked (Res.portal 0) = false ∧
    Ready (Instr.portalReset h 0) p1_r3 ∧
    ((p1_r3.m.portal 0).state ≠ 9 ∧ (p1_r3.m.portal 0).state ≠ 10 ∨ (p1_r3.m.portal 0).state = 9 ∧ (p1_r3.m.emergency false 0 = true ∨ p1_r3.m.md = Mode.egress) ∨ (p1_r3.m.portal 0).state = 10 ∧ ((p1_r3.m.roleFault 0).isSome = true ∨ p1_r3.m.portalRest 0 = false)) ∧
    p2.m.alive = true ∧
    p2.m.portals.contains 0 = true ∧
    0 < p2.m.po.length ∧
    (p2.m.portal 0).lockWatch = some (1, 700) ∧
    p2.m.md.tables = true ∧
    (p2.m.portal 0).state < 8 ∧
    (p2.m.portal 0).stepWatch = some (0, 900) ∧
    p2.m.roleAxis 0 2 = some 2 ∧
    p2_r1.m.alive = true ∧
    p2_r1.m.portals.contains 0 = true ∧
    0 < p2_r1.m.po.length ∧
    p2_r1.m.md.active = true ∧
    p2_r1.m.locked (Res.portal 0) = false ∧
    Ready (Instr.portalRequest h 0 1) p2_r1 ∧
    p2_r2.m.alive = true ∧
    p2_r2.m.portals.contains 0 = true ∧
    0 < p2_r2.m.po.length ∧
    p2_r2.m.md.active = true ∧
    p2_r2.m.locked (Res.portal 0) = false ∧
    1 < 4 ∧
    Ready (Instr.portalRequest h 0 4) p2_r2 := by
  refine ⟨?_, ?_, ?_, ?_, ?_, ?_, ?_, ?_, ?_, (ready_of ?_), ?_, ?_, ?_, ?_, ?_, ?_, ?_, ?_, (ready_of ?_),
    ?_, ?_, ?_, ?_, ?_, (ready_of ?_), ?_, ?_, ?_, ?_, ?_, ?_, ?_, ?_, ?_, ?_, ?_, ?_, ?_, ?_, (ready_of ?_),
    ?_, ?_, ?_, ?_, ?_, ?_, (ready_of ?_)⟩ <;> decide +kernel

theorem witness_Portals_2 :
    p2_r3.m.alive = true ∧
    p2_r3.m.portals.contains 0 = true ∧
    0 < p2_r3.m.po.length ∧
    p2_r3.m.md.active = true ∧
    p2_r3.m.locked (Res.portal 0) = false ∧
    p2_r3.m.released 0 = false ∧
    Ready (Instr.portalRequest h 0 0) p2_r3 ∧
    p2_r4.m.alive = true ∧
    p2_r4.m.portals.contains 0 = true ∧
    0 < p2_r4.m.po.length ∧
    p2_r4.m.md.active = true ∧
    Ready (Instr.sideRelease h 0 true) p2_r4 ∧
    p4_r1.m.alive = true ∧
    p4_r1.m.portals.contains 0 = true ∧
    0 < p4_r1.m.po.length ∧
    p4_r1.m.md = Mode.commission ∧
    p4_r1.m.portalRest 0 = false ∧
    Ready (Instr.loadTemplate h 0 1) p4_r1 ∧
    p5_r1.m.alive = true ∧
    p5_r1.m.portals.contains 0 = true ∧
    0 < p5_r1.m.po.length ∧
    (p5_r1.m.md.faultClear = true ∨ p5_r1.m.md = Mode.egress) ∧
    p5_r1.m.locked (Res.portal 0) = false ∧
    Ready (Instr.portalReset h 0) p5_r1 ∧
    ((p5_r1.m.portal 0).state = 9 ∧ p5_r1.m.emergency false 0 = false ∧ p5_r1.m.md ≠ Mode.egress ∨ (p5_r1.m.portal 0).state = 10 ∧ p5_r1.m.roleFault 0 = none ∧ p5_r1.m.portalRest 0 = true) ∧
    p5_r1.m.enabled 0 = true ∧
    p8_r1.m.alive = true ∧
    p8_r1.m.portals.contains 0 = true ∧
    0 < p8_r1.m.po.length ∧
    p8_r1.m.md.active = true ∧
    p8_r1.m.locked (Res.portal 0) = false ∧
    p8_r1.m.released 0 = true ∧
    Ready (Instr.portalRequest h 0 0) p8_r1 ∧
    p8_r2.m.alive = true ∧
    p8_r2.m.portals.contains 0 = true ∧
    0 < p8_r2.m.po.length ∧
    p8_r2.m.md.active = true ∧
    p8_r2.m.locked (Res.side Side.L) = false ∧
    (p8_r2.m.side.get Side.L).grant = true ∧
    Ready (Instr.sideRelease h (2 ^ sideNum Side.L) false) p8_r2 ∧
    p10_r1.m.alive = true ∧
    p10_r1.m.portals.contains 0 = true ∧
    0 < p10_r1.m.po.length ∧
    p10_r1.m.md = Mode.commission ∧
    p10_r1.m.portalRest 0 = true ∧
    p10_r1.par.wf = true ∧
    tableFaultAt (p10_r1.par.tabCtx p10_r1.m.id.part 0) 0 (template 1 0 (p10_r1.par.get P.portalLsMap 0).toNat) = none ∧
    Ready (Instr.loadTemplate h 0 1) p10_r1 := by
  refine ⟨?_, ?_, ?_, ?_, ?_, ?_, (ready_of ?_), ?_, ?_, ?_, ?_, (ready_of ?_), ?_, ?_, ?_, ?_, ?_, (ready_of
    ?_), ?_, ?_, ?_, ?_, ?_, (ready_of ?_), ?_, ?_, ?_, ?_, ?_, ?_, ?_, ?_, (ready_of ?_), ?_, ?_, ?_, ?_, ?_,
    ?_, (ready_of ?_), ?_, ?_, ?_, ?_, ?_, ?_, ?_, (ready_of ?_)⟩ <;> decide +kernel

theorem witness_Portals_3 :
    p11_r1.m.alive = true ∧
    p11_r1.m.portals.contains 0 = true ∧
    0 < p11_r1.m.po.length ∧
    p11_r1.m.md.active = true ∧
    p11_r1.m.locked (Res.side Side.L) = false ∧
    p11_r1.m.locked (Res.side Side.R) = false ∧
    p11_r1.m.side.L.grant = true ∧
    p11_r1.m.side.R.grant = true ∧
    Ready (Instr.sideRelease h 3 false) p11_r1 := by
  refine ⟨?_, ?_, ?_, ?_, ?_, ?_, ?_, ?_, (ready_of ?_)⟩ <;> decide +kernel

end C07

namespace C08
open C05 C07

def obx (x : Mode) (f : Obst → Obst) : State := let s := po x (fun q => { q with state := 3 }); { s with m := { s.m with ob := { s.m.ob with ax := s.m.ob.ax.map f } } }
def q1 : State := obx .activeReleased (fun o => { o with forceCnt := 50, growCnt := 2 })
def q2 : State := axes (fun a => { a with mv := some { mv0 with stop := none } }) q1
def q3 : State := axes (fun a => { a with coast := false }) (obx .service (fun o => { o with forceCnt := 50 }))
def q4 : State := axes (fun a => { a with mv := some { mv0 with stop := none }, coast := false }) (obx .activeReleased (fun o => { o with absCnt := 50 }))
def q5 : State := axes (fun a => { a with mv := some { mv0 with stop := none }, coast := false }) (obx .activeReleased (fun o => { o with openCnt := 50 }))
def q7 : State := axes (fun a => { a with coast := false }) (obx .activeReleased (fun o => { o with }))
def ed (f : Edge → Edge) : State := let s := u (md .service m0); { s with m := par P.edgeType 0 1 { s.m with ob := { s.m.ob with edges := s.m.ob.edges.map f } } }
def r1 : State := ed (fun e => { e with openCnt := 200, pressedAt := some 77 })
def r2 : State := ed (fun e => { e with test := some 5, fault := none })
def r3 : State := ed (fun e => { e with fault := some 2, clearAt := some 77, filt := 1 })
def r4 : State := ed (fun e => { e with test := some 5, testPress := some 10, testFree := some 1000 })
def r5 : State := let s := ed (fun e => { e with sincePass := 10, fault := some 2, clearAt := some 77, passed := true }); { s with m := par P.edgeType 0 2 s.m }
def r6 : State := let s := ed id; { s with m := par P.edgeAxis 0 2 s.m }
def prf : Prof := ⟨true, [], 20, 5, 3⟩
def v1 : State := obx .service (fun o => { o with probe := .dwell 30000, prof := prf, changed := true, loading := true })
def v2 : State := po .commission (fun q => { q with state := 0 })
def pos3 (m : Mod) : Mod := ([0,1,2,4,5,12,13] : List Nat).foldl (fun m k => par P.portalPos k (if k % 4 = 0 then 0 else 500000) m) m
def v3 : State := let s := axes (fun a => { a with referenced := true, inPos := true }) v2; { s with m := pos3 s.m }
def ln (hd : Option Hdr) (ph : LearnPh) : Learn := ⟨0, hd, ph, 3, [], [], [(0,7,5),(1,8,6)], none⟩
def v4 : State := { v1 with m := { v1.m with ob := { v1.m.ob with learn := [ln (some h) .dwell] } } }
def hang (k : Nat) (s : State) : State := { s with m := { s.m with gov := { s.m.gov with suspended := upd s.m.gov.suspended (k-1) (fun _ => true) } } }
def v5 : State := hang 8 v1
def lop : LongOp := ⟨some h, .learn 0, 0, 0, none, none, false, 0, 0⟩
def v6 : State := { v1 with m := { v1.m with ob := { v1.m.ob with learn := [ln (some h) .write] }, host := { v1.m.host with ops := [lop] } } }
def lle : LongEnd := ⟨true, true, 0, 0, []⟩
def v7 : State := { v3 with m := { v3.m with host := { v3.m.host with ops := List.replicate 8 { lop with kind := .checkValue } } } }
def v1_r1 : State := fetched h (descProfileSave) v1
def v1_r2 : State := fetched h (descLearnRun 0) v1
def v3_r1 : State := fetched h (descLearnRun 0) v3
def v5_r1 : State := fetched h (descProfileSave) v5
def v7_r1 : State := fetched h (descLearnRun 0) v7

theorem witness_Detections_1 :
    q1.m.alive = true ∧
    q1.m.axes.contains 0 = true ∧
    0 < q1.m.ob.ax.length ∧
    0 < q1.m.ax.length ∧
    0 < q1.m.po.length ∧
    q1.m.roleOf 0 = some (0, 0) ∧
    ((!(q1.m.axis 0).coast && (q1.m.axis 0).fstop.isNone && Option.all (fun mv => mv.stop.isNone) (q1.m.axis 0).mv) = true) ∧
    0 < 2 ∧
    due (q1.m.obst 0).absCnt (q1.m.pn P.forceConfirm 0) = false ∧
    due (q1.m.obst 0).openCnt (q1.m.pn P.forceConfirm 0) = false ∧
    due (q1.m.obst 0).forceCnt (q1.m.pn P.forceConfirm 0) = true ∧
    due (q1.m.obst 0).growCnt 2 = true ∧
    q1.m.workDue 0 = false ∧
    q1.m.axes.contains 2 = true ∧
    2 < q1.m.ob.ax.length ∧
    2 < q1.m.ax.length ∧
    q1.m.roleOf 2 = some (0, 2) ∧
    ((!(q1.m.axis 2).coast && (q1.m.axis 2).fstop.isNone && Option.all (fun mv => mv.stop.isNone) (q1.m.axis 2).mv) = true) ∧
    0 = 2 / 4 ∧
    due (q1.m.obst 2).forceCnt (q1.m.pn P.forceConfirm 0) = true ∧
    due (q1.m.obst 2).growCnt 2 = true ∧
    q2.m.alive = true ∧
    q2.m.axes.contains 0 = true ∧
    0 < q2.m.ob.ax.length ∧
    0 < q2.m.ax.length ∧
    0 < q2.m.po.length ∧
    q2.m.roleOf 0 = some (0, 0) ∧
    ((!(q2.m.axis 0).coast && (q2.m.axis 0).fstop.isNone && Option.all (fun mv => mv.stop.isNone) (q2.m.axis 0).mv) = true) ∧
    q2.m.workDue 0 = true ∧
    q2.m.supervised 0 = true ∧
    q2.m.axes.contains 2 = true ∧
    2 < q2.m.ob.ax.length ∧
    2 < q2.m.ax.length ∧
    q2.m.roleOf 2 = some (0, 2) ∧
    ((!(q2.m.axis 2).coast && (q2.m.axis 2).fstop.isNone && Option.all (fun mv => mv.stop.isNone) (q2.m.axis 2).mv) = true) ∧
    q2.m.workDue 2 = true ∧
    q2.m.supervised 2 = false ∧
    q3.m.alive = true ∧
    q3.m.axes.contains 0 = true ∧
    0 < q3.m.ob.ax.length ∧
    0 < q3.m.ax.length ∧
    0 < q3.m.po.length ∧
    q3.m.roleOf 0 = some (0, 0) ∧
    ((!(q3.m.axis 0).coast && (q3.m.axis 0).fstop.isNone && Option.all (fun mv => mv.stop.isNone) (q3.m.axis 0).mv) = true) ∧
    due (q3.m.obst 0).growCnt 2 = false := by
  decide +kernel

theorem witness_Detections_2 :
    q4.m.alive = true ∧
    q4.m.axes.contains 0 = true ∧
    0 < q4.m.ob.ax.length ∧
    0 < q4.m.ax.length ∧
    0 < q4.m.po.length ∧
    q4.m.roleOf 0 = some (0, 0) ∧
    ((!(q4.m.axis 0).coast && (q4.m.axis 0).fstop.isNone && Option.all (fun mv => mv.stop.isNone) (q4.m.axis 0).mv) = true) ∧
    due (q4.m.obst 0).forceCnt (q4.m.pn P.forceConfirm 0) = false ∧
    due (q4.m.obst 0).openCnt (q4.m.pn P.forceConfirm 0) = false ∧
    due (q4.m.obst 0).absCnt (q4.m.pn P.forceConfirm 0) = true ∧
    q5.m.alive = true ∧
    q5.m.axes.contains 0 = true ∧
    0 < q5.m.ob.ax.length ∧
    0 < q5.m.ax.length ∧
    0 < q5.m.po.length ∧
    q5.m.roleOf 0 = some (0, 0) ∧
    ((!(q5.m.axis 0).coast && (q5.m.axis 0).fstop.isNone && Option.all (fun mv => mv.stop.isNone) (q5.m.axis 0).mv) = true) ∧
    due (q5.m.obst 0).forceCnt (q5.m.pn P.forceConfirm 0) = false ∧
    due (q5.m.obst 0).absCnt (q5.m.pn P.forceConfirm 0) = false ∧
    (if q5.m.inPocket 0 = true then 6 else 5) = 5 ∧
    due (q5.m.obst 0).openCnt (q5.m.pn P.forceConfirm 0) = true ∧
    q7.m.alive = true ∧
    q7.m.axes.contains 0 = true ∧
    0 < q7.m.ob.ax.length ∧
    0 < q7.m.ax.length ∧
    0 < q7.m.po.length ∧
    q7.m.roleOf 0 = some (0, 0) ∧
    ((!(q7.m.axis 0).coast && (q7.m.axis 0).fstop.isNone && Option.all (fun mv => mv.stop.isNone) (q7.m.axis 0).mv) = true) ∧
    due (q7.m.obst 0).absCnt (q7.m.pn P.forceConfirm 0) = false ∧
    due (q7.m.obst 0).openCnt (q7.m.pn P.forceConfirm 0) = false ∧
    due (q7.m.obst 0).forceCnt (q7.m.pn P.forceConfirm 0) = false := by
  decide +kernel

theorem witness_Edges :
    r1.m.alive = true ∧
    0 < r1.m.ob.edges.length ∧
    ¬1 ∈ (r1.m.edge 0).causes ∧
    r1.m.p P.edgeType 0 ≠ 0 ∧
    r1.m.pn P.edgeFilter 0 ≤ (r1.m.edge 0).openCnt ∧
    (r1.m.edge 0).pressedAt = some 77 ∧
    ¬2 ∈ (r1.m.edge 0).causes ∧
    (r1.m.edge 0).test = none ∧
    r2.m.alive = true ∧
    0 < r2.m.ob.edges.length ∧
    (r2.m.edge 0).test = some 5 ∧
    r2.m.pwPassed 0 5 = false ∧
    ¬3 ∈ (r2.m.edge 0).causes ∧
    true ≠ r2.m.pwPassed 0 5 ∧
    r3.m.alive = true ∧
    0 < r3.m.ob.edges.length ∧
    (r3.m.edge 0).fault = some 2 ∧
    (r3.m.edge 0).clearAt = some 77 ∧
    (r3.m.p P.edgeType 0 ≠ 2 ∨ (r3.m.edge 0).passed = true) ∧
    r4.m.alive = true ∧
    0 < r4.m.ob.edges.length ∧
    (r4.m.edge 0).test = some 5 ∧
    r4.m.pwPassed 0 5 = true ∧
    r5.m.alive = true ∧
    0 < r5.m.ob.edges.length ∧
    r5.m.p P.edgeType 0 = 2 ∧
    10 ≤ (r5.m.edge 0).sincePass ∧
    ¬4 ∈ (r5.m.edge 0).causes ∧
    r6.m.alive = true ∧
    0 < r6.m.ob.edges.length ∧
    r6.m.p P.edgeType 0 ≠ 0 ∧
    r6.m.edgeLeaf 0 = none ∧
    ¬5 ∈ (r6.m.edge 0).causes := by
  decide +kernel

theorem witness_Probe_1 :
    v1.m.alive = true ∧
    v1.m.axes.contains 0 = true ∧
    0 < v1.m.ob.ax.length ∧
    (v1.m.obst 0).probe = ProbeSt.dwell 30000 ∧
    v1.m.roleOf 0 = some (0, 0) ∧
    (onsetOf []).getD (Config.onsetUnseen v1.m.freeCtr) = Config.onsetUnseen v1.m.freeCtr ∧
    v1.m.learning 0 = false ∧
    v1.m.runs 8 = true ∧
    ((v1.m.ob.ax.any fun o => o.changed) = true) ∧
    (v1.m.obst 0).loading = true ∧
    v1_r1.m.alive = true ∧
    v1_r1.m.md.reads = true ∧
    Ready (Instr.profileSave h) v1_r1 ∧
    v1_r1.m.runs 8 = true ∧
    v1_r2.m.alive = true ∧
    v1_r2.m.md.reads = true ∧
    v1_r2.m.portals.contains 0 = true ∧
    Ready (Instr.learnRun h 0) v1_r2 ∧
    ((v1_r2.m.takeDue fun d i => d.id == P.learnCycles.id && decide (i = 0)) = v1_r2.m.takeDue fun d i => d.id == P.learnCycles.id && decide (i = 0)) ∧
    ((v1_r2.m.takeDue fun d i => d.id == P.learnCycles.id && decide (i = 0)).learnReady 0 = false) ∧
    v2.m.alive = true ∧
    (v2.m.runs 8 = false ∨ (v2.m.ob.ax.any fun o => o.changed) = false) ∧
    v2.m.axes.contains 0 = true ∧
    0 < v2.m.ob.ax.length ∧
    (v2.m.obst 0).loading = false ∧
    v3_r1.m.alive = true ∧
    v3_r1.m.md.reads = true ∧
    v3_r1.m.portals.contains 0 = true ∧
    Ready (Instr.learnRun h 0) v3_r1 ∧
    ((v3_r1.m.takeDue fun d i => d.id == P.learnCycles.id && decide (i = 0)) = v3_r1.m.takeDue fun d i => d.id == P.learnCycles.id && decide (i = 0)) ∧
    ((v3_r1.m.takeDue fun d i => d.id == P.learnCycles.id && decide (i = 0)).learnReady 0 = true) ∧
    v3_r1.m.host.ops.length < 8 ∧
    v4.m.alive = true ∧
    v4.m.axes.contains 0 = true ∧
    0 < v4.m.ob.ax.length ∧
    (v4.m.obst 0).probe = ProbeSt.dwell 30000 ∧
    v4.m.roleOf 0 = some (0, 0) ∧
    (onsetOf []).getD (Config.onsetUnseen v4.m.freeCtr) = Config.onsetUnseen v4.m.freeCtr ∧
    v4.m.learning 0 = true ∧
    v5_r1.m.alive = true ∧
    v5_r1.m.md.reads = true ∧
    Ready (Instr.profileSave h) v5_r1 ∧
    v5_r1.m.runs 8 = false := by
  refine ⟨?_, ?_, ?_, ?_, ?_, (Eq.refl _), ?_, ?_, ?_, ?_, ?_, ?_, (ready_of ?_), ?_, ?_, ?_, ?_, (ready_of
    ?_), ?_, ?_, ?_, ?_, ?_, ?_, ?_, ?_, ?_, ?_, (ready_of ?_), ?_, ?_, ?_, ?_, ?_, ?_, ?_, ?_, (Eq.refl _),
    ?_, ?_, ?_, (ready_of ?_), ?_⟩ <;> decide +kernel

theorem witness_Probe_2 :
    v6.m.alive = true ∧
    v6.m.host.ops[0]? = some lop ∧
    v6.m.turnSlot = some 0 ∧
    v6.m.runs 7 = true ∧
    v6.m.runs 8 = true ∧
    lop.kind = LongKind.learn 0 ∧
    lle.last = true ∧
    (List.find? (fun l => decide (l.p = 0)) v6.m.ob.learn = some (ln (some h) LearnPh.write)) ∧
    (ln (some h) LearnPh.write).ph = LearnPh.write ∧
    v6.m.learnOp 0 = some lop ∧
    lop.hdr = some h ∧
    v7_r1.m.alive = true ∧
    v7_r1.m.md.reads = true ∧
    v7_r1.m.portals.contains 0 = true ∧
    Ready (Instr.learnRun h 0) v7_r1 ∧
    ((v7_r1.m.takeDue fun d i => d.id == P.learnCycles.id && decide (i = 0)) = v7_r1.m.takeDue fun d i => d.id == P.learnCycles.id && decide (i = 0)) ∧
    ((v7_r1.m.takeDue fun d i => d.id == P.learnCycles.id && decide (i = 0)).learnReady 0 = true) ∧
    8 ≤ v7_r1.m.host.ops.length := by
  refine ⟨?_, ?_, ?_, ?_, ?_, ?_, ?_, ?_, ?_, ?_, ?_, ?_, ?_, ?_, (ready_of ?_), ?_, ?_, ?_⟩ <;> decide
    +kernel

end C08

namespace C09
open C05 C07

def sf (x : Mode) (f : Safety → Safety) : State := u (let m := md x m0; { m with saf := f m.saf })
def ev0 : Evals := ⟨List.replicate 16 0, [false,false],[false,false],[false,false,false,false]⟩
def ev1 : Evals := { ev0 with pairs := 1 :: List.replicate 15 0 }
def sa (x : State) : State := { x with m := { x.m with saf := { x.m.saf with sto := List.replicate 4 ⟨[], [], false, none⟩ } } }
def s1 : State := sa (u (md .service m0))
def s2 : State := sf .service (fun f => { f with diff := 3 :: List.replicate 23 0 })
def s3 : State := sf .service (fun f => { f with pairs := f.pairs.map (fun q => { q with cnt := 100000 }) })
def s4 : State := { s1 with m := par P.diMaxActive 0 5 { s1.m with io := { s1.m.io with di := s1.m.io.di.map (fun d => { d with activeAt := some 7 }) } } }
def s5 : State := sf .service (fun f => { f with sto := f.sto.map (fun z => { z with restoring := some 70 }) })
def s6 : State := sf .service (fun f => { f with ss := [true,true,false,false], ax := f.ax.map (fun x => { x with standAt := some 70 }) })
def s7 : State := sa (po .activeReleased (fun q => { q with state := 5 }))
def s8 : State := { s7 with m := { s7.m with ax := s7.m.ax.map (fun a => { a with shadowDisc := true }) } }
def lp (x : Mode) (f : Sys2Proof.Machine.Loop → Sys2Proof.Machine.Loop) : State := sf x (fun z => { z with loops := ⟨f z.loops.L, f z.loops.R⟩ })
def l1 : State := { lp .activeClosed (fun l => { l with sinceR := some 70, bore := true }) with m := (lp .activeClosed (fun l => { l with sinceR := some 70, bore := true })).m.onPo 0 (fun q => { q with state := 0 }) }
def l1' : State := { l1 with m := (let z := ([0,1,2,3] : List Nat).foldl (fun m k => par P.portalEnable k 0 m) l1.m; { z with nv := { z.nv with confirmed := some 5 }, start := { z.start with proofPending := (false, false) } }) }
def l1b : State := { lp .activeClosed (fun l => { l with sinceB := some 70, reed := true }) with m := (let z := ([0,1,2,3] : List Nat).foldl (fun m k => par P.portalEnable k 0 m) (lp .activeClosed (fun l => { l with sinceB := some 70, reed := true })).m; { z with nv := { z.nv with confirmed := some 5 }, start := { z.start with proofPending := (false, false) } }) }
def l2 : State := lp .service (fun l => { l with reed := true, bore := true, trips := [0, 0] })
def l3 : State := lp .service (fun l => { l with reed := true, bore := true })
def l4 : State := lp .activeClosed (fun l => { l with latched := true, retryAt := some 70, trips := [1,2,3] })
def of_ (x : OffP → OffP) (s : State) : State := { s with m := { s.m with saf := { s.m.saf with off := x s.m.saf.off } } }
def o1 : State := of_ (fun z => { z with running := some 50, judged := (true, false) }) l3
def o2 : State := of_ (fun z => { z with running := some 50, judged := (true, false), fails := [1,0,0,0] }) l3
def o3 : State := of_ (fun z => { z with susp := some 2 }) { l3 with m := { l3.m with time := { l3.m.time with alone := true } } }
def o4 : State := sf .service (fun f => { f with rel := ⟨⟨true, false, some 50⟩, ⟨false, true, some 60⟩⟩, degAt := 0 })
def o7 : State := u { md .service m0 with host := { m0.host with ops := List.replicate 8 ⟨some h, .checkValue, 0, 0, none, none, false, 0, 0⟩ } }
def ev2 : Evals := { ev0 with enables := [true,false] }
def s9 : State := sf .service (fun f => { f with diff := (List.replicate 16 0) ++ 3 :: List.replicate 7 0 })
def twn (x : State) : State := { x with m := { par P.twinRole 0 1 x.m with tw := { x.m.tw with pairFormed := true, heart := true } } }
def o8 : State := twn (of_ (fun z => { z with next := 1 }) o1)
def o14 : State := { l3 with m := { l3.m with time := { l3.m.time with alone := false } } }
def l1b_r1 : State := fetched h (descLoopReset (sideNum Side.L)) l1b
def l1b_r2 : State := fetched h (descLoopReset 2) l1b
def l1b_r3 : State := fetched h (descPairStatus) l1b
def l1b_r4 : State := fetched h (descCheckValueCompute) l1b
def l4_r1 : State := fetched h (descLoopReset (sideNum Side.L)) l4
def o7_r1 : State := fetched h (descCheckValueCompute) o7

theorem witness_StoAndPairs_1 :
    s1.m.sup.powered = true ∧
    0 < 4 ∧
    0 < s1.m.saf.sto.length ∧
    4 ≤ 4 ∧
    s1.m.alive = true ∧
    (∀ (k : Nat), k < 24 → evalsDiffer ev0 ev0 k = true → s1.m.saf.diff.getD k 0 + 1 ≠ 4) ∧
    (s1.m.saf.pairs.getD 0 Pair.reset).cnt < s1.m.pairLimit 0 ∧
    0 ∈ s1.m.groupAxes 0 ∧
    (s1.m.safAx 0).standAt = none ∧
    s1.m.axes.contains 0 = true ∧
    (s1.m.isLeaf 0 = false ∨ (if Chan.reed = Chan.reed then s1.m.closingDir 0 else s1.m.closingBore 0) = false ∨ s1.m.aboveSfl 0 0 = false) ∧
    0 < s1.m.saf.ax.length ∧
    s2.m.alive = true ∧
    0 < 16 ∧
    (∀ (j : Nat), j < 24 → j ≠ 0 → evalsDiffer ev0 ev1 j = true → s2.m.saf.diff.getD j 0 + 1 ≠ 4) ∧
    s2.m.saf.diff.getD 0 0 = 3 ∧
    evalsDiffer ev0 ev1 0 = true ∧
    decide (ev0.pairs.getD 0 0 = 1) ≠ decide (ev1.pairs.getD 0 0 = 1) ∧
    (s2.m.stoOf 0).applied = true ∧
    s2.m.saf.reedLost = none ∧
    s2.m.saf.boreLost = none ∧
    s3.m.alive = true ∧
    0 < s3.m.saf.pairs.length ∧
    s3.m.pairLimit 0 ≤ (s3.m.saf.pairs.getD 0 Pair.reset).cnt ∧
    (s3.m.saf.pairs.getD 0 Pair.reset).latched = false ∧
    s4.m.alive = true ∧
    0 < s4.m.io.di.length ∧
    (s4.m.di 0).activeAt = some 7 ∧
    s4.m.pn P.diMaxActive 0 ≠ 0 ∧
    s4.m.pn P.diTestSource 0 = 0 ∧
    (s4.m.di 0).suspect = false ∧
    s5.m.alive = true ∧
    0 < s5.m.saf.sto.length ∧
    (s5.m.stoOf 0).restoring = some 70 ∧
    s6.m.alive = true ∧
    0 < s6.m.saf.sto.length ∧
    0 < s6.m.saf.ss.length ∧
    s6.m.groupAxes 0 ≠ [] ∧
    (∀ (i : Nat), i ∈ s6.m.groupAxes 0 → (s6.m.safAx i).standAt.isSome = true) ∧
    s6.m.saf.ss.getD 0 false = true ∧
    s7.m.alive = true ∧
    s7.m.axes.contains 0 = true ∧
    0 < s7.m.ax.length ∧
    0 / 4 < s7.m.saf.sto.length ∧
    s7.m.isLeaf 0 = true ∧
    (if Chan.reed = Chan.reed then s7.m.closingDir 0 else s7.m.closingBore 0) = true ∧
    s7.m.aboveSfl 0 4000000 = true := by
  refine ⟨?_, ?_, ?_, ?_, ?_, ?_, ?_, ?_, ?_, ?_, ?_, ?_, ?_, ?_, ?_, ?_, ?_, ?_, ?_, ?_, ?_, ?_, ?_, ?_, ?_,
    ?_, ?_, ?_, ?_, ?_, ?_, ?_, ?_, ?_, ?_, ?_, ?_, ?_, ?_, ?_, ?_, ?_, ?_, ?_, ?_, ?_, ?_⟩ <;> decide +kernel

theorem witness_StoAndPairs_2 :
    s9.m.alive = true ∧
    0 < 2 ∧
    (∀ (j : Nat), j < 24 → j ≠ 16 + 0 → evalsDiffer ev0 ev2 j = true → s9.m.saf.diff.getD j 0 + 1 ≠ 4) ∧
    s9.m.saf.diff.getD (16 + 0) 0 = 3 ∧
    ev0.enables.getD 0 false ≠ ev2.enables.getD 0 false ∧
    (if Chan.bore = Chan.reed then s8.m.closingDir 0 else s8.m.closingBore 0) = true := by
  refine ⟨?_, ?_, ?_, ?_, ?_, ?_⟩ <;> decide +kernel

theorem witness_Loops_1 :
    l1b.m.sup.powered = true ∧
    (l1b.m.saf.loops.get Side.L).closed = false ∧
    l1b.m.alive = true ∧
    (l1b.m.saf.loops.get Side.L).sinceB = some 70 ∧
    l1b.m.sideBore Side.L = true ∧
    l1b_r1.m.alive = true ∧
    (l1b_r1.m.md = Mode.service ∨ l1b_r1.m.md.active = true) ∧
    (l1b_r1.m.saf.loops.get Side.L).latched = false ∧
    Ready (Instr.loopReset h (sideNum Side.L)) l1b_r1 ∧
    l1b_r2.m.alive = true ∧
    (l1b_r2.m.md = Mode.service ∨ l1b_r2.m.md.active = true) ∧
    1 < 2 ∧
    Ready (Instr.loopReset h 2) l1b_r2 ∧
    l1b_r3.m.alive = true ∧
    l1b_r3.m.md.reads = true ∧
    Ready (Instr.pairStatus h) l1b_r3 ∧
    l1b_r4.m.alive = true ∧
    l1b_r4.m.md.reads = true ∧
    l1b_r4.m.host.ops.length < 8 ∧
    Ready (Instr.checkValueCompute h) l1b_r4 ∧
    l1'.m.alive = true ∧
    (l1'.m.saf.loops.get Side.L).sinceR = some 70 ∧
    l1'.m.wantReed Side.L = true ∧
    l2.m.sup.powered = true ∧
    (l2.m.saf.loops.get Side.L).closed = true ∧
    l2.m.saf.off.susp = none ∧
    l2.m.saf.off.running = none ∧
    (l2.m.saf.loops.L.closed = true ∨ l2.m.saf.loops.R.closed = true) ∧
    l4.m.alive = true ∧
    (l4.m.saf.loops.get Side.L).retryAt = some 70 ∧
    (((l4.m.advance 70).onLoop Side.L fun l => { reed := l.reed, bore := l.bore, subst := l.subst, sinceR := l.sinceR, sinceB := l.sinceB, trips := l.trips, latched := l.latched, retryAt := none, volt := l.volt, inV := l.inV, test := l.test }) = (l4.m.advance 70).onLoop Side.L fun l => { reed := l.reed, bore := l.bore, subst := l.subst, sinceR := l.sinceR, sinceB := l.sinceB, trips := l.trips, latched := l.latched, retryAt := none, volt := l.volt, inV := l.inV, test := l.test }) ∧
    l4_r1.m.alive = true ∧
    (l4_r1.m.md = Mode.service ∨ l4_r1.m.md.active = true) ∧
    (l4_r1.m.saf.loops.get Side.L).latched = true ∧
    Ready (Instr.loopReset h (sideNum Side.L)) l4_r1 ∧
    o1.m.sup.powered = true ∧
    o1.m.saf.off.running = some 50 ∧
    o1.m.ownSwitch o1.m.saf.off.next = some 0 ∧
    o1.m.saf.off.judged = (decide (Side.L = Side.L), decide (Side.L = Side.R)) ∧
    4 ≤ o1.m.saf.off.fails.length ∧
    (if Side.L = Side.L then 0 else 0) = 0 ∧
    49 < 50 ∧
    (if Side.L = Side.L then 70 else 0) = 70 ∧
    50 ≤ 50 ∧
    o1.m.saf.off.fails.getD (2 * sideNum Side.L + 0) 0 = 0 := by
  refine ⟨?_, ?_, ?_, ?_, ?_, ?_, ?_, ?_, (ready_of ?_), ?_, ?_, ?_, (ready_of ?_), ?_, ?_, (ready_of ?_), ?_,
    ?_, ?_, (ready_of ?_), ?_, ?_, ?_, ?_, ?_, ?_, ?_, ?_, ?_, ?_, ?_, ?_, ?_, ?_, (ready_of ?_), ?_, ?_, ?_,
    ?_, ?_, ?_, ?_, ?_, ?_, ?_⟩ <;> decide +kernel

theorem witness_Loops_2 :
    o2.m.sup.powered = true ∧
    o2.m.saf.off.running = some 50 ∧
    o2.m.ownSwitch o2.m.saf.off.next = some 0 ∧
    o2.m.saf.off.judged = (decide (Side.L = Side.L), decide (Side.L = Side.R)) ∧
    4 ≤ o2.m.saf.off.fails.length ∧
    o2.m.saf.off.fails.getD (2 * sideNum Side.L + 0) 0 = 1 ∧
    o2.m.saf.reedLost = none ∧
    o2.m.saf.boreLost = none ∧
    o3.m.alive = true ∧
    o3.m.saf.off.susp = some 2 ∧
    o3.m.offCause = none ∧
    (if o3.m.degOn = true then o3.m.saf.deg + (o3.m.raw - o3.m.saf.degAt) else o3.m.saf.deg) = 0 ∧
    o3.m.saf.reached = false ∧
    (o3.m.degOn = true ∨ o3.m.degLimit ≤ 0) ∧
    o4.m.alive = true ∧
    (o4.m.saf.rel.get Side.L).diffAt = some 50 ∧
    o7_r1.m.alive = true ∧
    o7_r1.m.md.reads = true ∧
    8 ≤ o7_r1.m.host.ops.length ∧
    Ready (Instr.checkValueCompute h) o7_r1 ∧
    o8.m.sup.powered = true ∧
    o8.m.saf.off.running = some 50 ∧
    o8.m.ownSwitch o8.m.saf.off.next = none ∧
    o14.m.alive = true ∧
    o14.m.saf.off.susp = none ∧
    o14.m.offCause = some 1 ∧
    (o14.m.saf.loops.L.closed = true ∨ o14.m.saf.loops.R.closed = true) := by
  refine ⟨?_, ?_, ?_, ?_, ?_, ?_, ?_, ?_, ?_, ?_, ?_, ?_, ?_, ?_, ?_, ?_, ?_, ?_, ?_, (ready_of ?_), ?_, ?_,
    ?_, ?_, ?_, ?_, ?_⟩ <;> decide +kernel

end C09

namespace C10
open C05 C07 C09

def io (x : Mode) (f : IoSt → IoSt) : State := u (let m := md x m0; { m with io := f m.io })
def uf (ok fs : Bool) : UpFrame := ⟨ok, 5, 6, 7, 8, 0, [100,100,100,100], 0, 0, 0, [1,2,3], [240,240], 30, fs, 0, 9⟩
def k1 : State := io .service id
def lss (x : Mode) (f : Ls → Ls) : State := io x (fun i => { i with ls := i.ls.map f, feed := i.feed.map (fun q => { q with volt := 240 }) })
def n1 : State := lss .service (fun l => { l with timed := some (1, 70), flashing := true, out := true, cmd := 1, dieCmd := 1 })
def n1' : State := { n1 with m := par P.lsOpenLoad 2 50 (par P.lsOpenLoad 0 50 n1.m) }
def n2 : State := lss .activeClosed (fun l => { l with latch := true, openLoad := true, fs := some 1, dieCmd := 1, cmd := 1 })
def n2' : State := { n2 with m := par P.lsOpenLoad 2 50 (par P.lsRetryMax 0 3 (par P.lsRetryMax 2 3 n2.m)) }
def n3 : State := lss .activeClosed (fun l => { l with trip := 1, dieCmd := 1, cmd := 1, retries := 1 })
def n3' : State := { n3 with m := par P.lsRetryMax 2 3 { n3.m with io := { n3.m.io with fsMode := false } } }
def n4 : State := io .service (fun i => { i with feed := i.feed.map (fun q => { q with sag := true, absent := true, offAt := 0 }) })
def n3'' : State := { n3' with m := { n3'.m with io := { n3'.m.io with ls := n3'.m.io.ls.map (fun l => { l with retries := 9 }) } } }
def n1'' : State := { n1' with m := { n1'.m with raw := 10^9 } }
def n5 : State := { n1 with m := { (md .activeClosed n1.m) with live := (par P.portalLsMap 0 0 n1.m).live } }
def wd : State := io .service (fun i => { i with die := i.die.map (fun d => { d with wdog := true, stale := true }) })
def nt : State := { k1 with m := { k1.m with saf := { k1.m.saf with reedLost := some 1, boreLost := some 2 } } }
def n7 : State := lss .service (fun l => { l with shed := true, trip := 2, x := 10^15, dieCmd := 1, cmd := 1 })
def n8 : State := { n7 with m := { n7.m with raw := 10^9, io := { n7.m.io with fsMode := false, grp := n7.m.io.grp.map (fun g => { g with belowAt := some 5 }) } } }
def n1_r1 : State := fetched h (descLsSet 0 0) n1
def n1_r2 : State := fetched h (descLsClear 0) n1
def n1_r3 : State := fetched h (descLsSet 0 3) n1
def n1_r4 : State := fetched h (descLsSet 24 0) n1
def n1_r5 : State := fetched h (descLsClear 24) n1
def n1_r6 : State := fetched h (descIoStatus 0) n1
def n1_r7 : State := fetched h (descIoStatus 144) n1
def n2_r1 : State := fetched h (descLsClear 0) n2
def n5_r1 : State := fetched h (descLsSet 0 0) n5

theorem witness_FieldLinks :
    0 < 2 ∧
    0 < k1.m.io.die.length ∧
    k1.m.alive = true ∧
    (uf false true).ok = false ∧
    (uf true true).ok = true ∧
    (k1.m.die 0).stale = false ∧
    k1.m.tokens = true ∧
    (k1.m.die 0).wdog = false ∧
    0 < wd.m.io.die.length ∧
    wd.m.alive = true ∧
    (wd.m.die 0).stale = true ∧
    (wd.m.die 0).wdog = true ∧
    0 < nt.m.io.die.length ∧
    nt.m.alive = true ∧
    nt.m.tokens = false := by
  decide +kernel

theorem witness_LoadSwitches_1 :
    n1.m.sup.powered = true ∧
    0 < 24 ∧
    0 < n1.m.io.ls.length ∧
    (n1.m.ls 0).timed = some (1, 70) ∧
    (n1.m.ls 0).flashing = true ∧
    (n1.m.ls 0).out = true ∧
    max n1.m.raw ((n1.m.ls 0).onAt + (n1.m.pn P.lsInrushTime 0 + 10) * 200000) = 12000000 ∧
    n1.m.lsSum 0 0 1 = 0 ∧
    0 < n1.m.lsLimit 0 12000000 ∧
    n1.m.lsSum 0 21000 1 = 21000 ∧
    n1.m.lsLimit 0 12000000 ≤ 21000 ∧
    ((if (n1.m.ls 0).out = true then if n1.m.lsReports 0 = true then 0 else (n1.m.ls 0).ma else 0) = 0) ∧
    n1.m.alive = true ∧
    (if (n1.m.twinConf && !n1.m.tw.heart) = true then 2 * 21000 else 21000) = 21000 ∧
    24000 ≤ 24000 * n1.m.sup.kT / 10000 ∧
    24000 * n1.m.sup.kT / 10000 * 80 ≤ 24000 * 100 ∧
    (if (n1.m.twinConf && !n1.m.tw.heart) = true then 2 * 24500 else 24500) = 24500 ∧
    24000 * n1.m.sup.kT / 10000 < 24001 ∧
    ((n1.m.ls 0).out = true ∨ (n1.m.ls 0).flashing = true) ∧
    (n1.m.pn P.lsOpenLoad 0 = 0 ∨ n1.m.lsReports 0 = false) ∧
    n2.m.sup.powered = true ∧
    0 < n2.m.io.ls.length ∧
    (n2.m.ls 0).out = false ∧
    (n2.m.ls 0).latch = true ∧
    n2'.m.sup.powered = true ∧
    2 < 24 ∧
    2 < n2'.m.io.ls.length ∧
    n2'.m.alive = true ∧
    n2'.m.pn P.lsOpenLoad 2 ≠ 0 ∧
    n2'.m.lsReports 2 = true ∧
    n2'.m.lsSum 2 70 (if n2'.m.p P.lsMode 2 = 1 then 20 else 1) = 70 ∧
    (n2'.m.ls 2).openLoad = true ∧
    n2'.m.pn P.lsOpenLoad 2 ≤ 70 ∧
    n3'.m.sup.powered = true ∧
    0 < n3'.m.io.ls.length ∧
    ((n3'.m.ls 0).trip = 1 ∨ (n3'.m.ls 0).trip = 2 ∧ 200 * (n3'.m.ls 0).x ≤ n3'.m.lsLevel 0) ∧
    (n3'.m.ls 0).latch = false ∧
    (n3'.m.ls 0).exhausted = false ∧
    n3'.m.lsWant 0 ≠ 0 ∧
    (n3'.m.ls 0).retries < n3'.m.pn P.lsRetryMax 0 ∧
    n3''.m.sup.powered = true ∧
    0 < n3''.m.io.ls.length ∧
    ((n3''.m.ls 0).trip = 1 ∨ (n3''.m.ls 0).trip = 2 ∧ 200 * (n3''.m.ls 0).x ≤ n3''.m.lsLevel 0) ∧
    (n3''.m.ls 0).latch = false ∧
    (n3''.m.ls 0).exhausted = false ∧
    n3''.m.lsWant 0 ≠ 0 ∧
    n3''.m.pn P.lsRetryMax 0 ≤ (n3''.m.ls 0).retries := by
  decide +kernel

theorem witness_LoadSwitches_2 :
    n1''.m.sup.powered = true ∧
    0 < n1''.m.io.ls.length ∧
    n1''.m.alive = true ∧
    n1''.m.pn P.lsOpenLoad 0 ≠ 0 ∧
    n1''.m.lsReports 0 = true ∧
    n1''.m.lsSum 0 0 (if n1''.m.p P.lsMode 0 = 1 then 20 else 1) = 0 ∧
    (n1''.m.ls 0).openLoad = false ∧
    (n1''.m.ls 0).out = true ∧
    0 < n1''.m.pn P.lsOpenLoad 0 ∧
    (n1''.m.ls 0).onAt + n1''.m.pn P.lsInrushTime 0 * 200000 ≤ n1''.m.raw ∧
    n8.m.sup.powered = true ∧
    0 < n8.m.io.ls.length ∧
    n8.m.alive = true ∧
    (if (n8.m.twinConf && !n8.m.tw.heart) = true then 2 * 0 else 0) = 0 ∧
    0 * 100 < 24000 * n8.m.sup.kT / 10000 * 80 ∧
    (n8.m.ls 0).shed = true ∧
    (n8.m.io.grp.getD (lsGroup 0 - 1) { avg := 0, belowAt := none }).belowAt = some 5 ∧
    5 + 200000000 ≤ n8.m.raw ∧
    (n8.m.ls 0).trip = 2 ∧
    (n8.m.ls 0).latch = false ∧
    (n8.m.ls 0).exhausted = false ∧
    n8.m.lsWant 0 ≠ 0 ∧
    n8.m.lsLevel 0 < 200 * (n8.m.ls 0).x := by
  decide +kernel

theorem witness_IoCommands_1 :
    n1_r1.m.alive = true ∧
    n1_r1.m.md.faultClear = true ∧
    n1_r1.m.locked (Res.ls 0) = false ∧
    0 < 24 ∧
    0 < n1_r1.m.io.ls.length ∧
    0 < 3 ∧
    n1_r1.m.lsOwned 0 = false ∧
    Ready (Instr.lsSet h 0 0) n1_r1 ∧
    n1_r2.m.alive = true ∧
    n1_r2.m.md.faultClear = true ∧
    n1_r2.m.locked (Res.ls 0) = false ∧
    0 < n1_r2.m.io.ls.length ∧
    (n1_r2.m.ls 0).latch = false ∧
    Ready (Instr.lsClear h 0) n1_r2 ∧
    n1_r3.m.alive = true ∧
    n1_r3.m.md.faultClear = true ∧
    n1_r3.m.locked (Res.ls 0) = false ∧
    3 ≤ 3 ∧
    Ready (Instr.lsSet h 0 3) n1_r3 ∧
    n1_r4.m.alive = true ∧
    n1_r4.m.md.faultClear = true ∧
    n1_r4.m.locked (Res.ls 24) = false ∧
    24 ≤ 24 ∧
    Ready (Instr.lsSet h 24 0) n1_r4 ∧
    n1_r5.m.alive = true ∧
    n1_r5.m.md.faultClear = true ∧
    n1_r5.m.locked (Res.ls 24) = false ∧
    Ready (Instr.lsClear h 24) n1_r5 ∧
    n1_r6.m.alive = true ∧
    n1_r6.m.md.reads = true ∧
    143 < 144 ∧
    Ready (Instr.ioStatus h 0) n1_r6 ∧
    n1_r7.m.alive = true ∧
    n1_r7.m.md.reads = true ∧
    144 ≤ 144 ∧
    Ready (Instr.ioStatus h 144) n1_r7 ∧
    n1.m.sup.powered = true ∧
    0 < 4 ∧
    0 < n1.m.io.feed.length ∧
    0 < n1.m.feedMin 0 ∧
    (n1.m.feed 0).sag = false ∧
    (n1.m.feed 0).absent = false ∧
    49 < 50 ∧
    ((n1.m.feed 0).sag = false ∨ 0 < 8 * n1.m.pn P.feedUn (feedGroup 0)) ∧
    (n1.m.feed 0).absent = decide (144 < 50) ∧
    (n1.m.feedMin 0 ≤ 1000 ∨ (n1.m.feed 0).sag = true) := by
  refine ⟨?_, ?_, ?_, ?_, ?_, ?_, ?_, (ready_of ?_), ?_, ?_, ?_, ?_, ?_, (ready_of ?_), ?_, ?_, ?_, ?_,
    (ready_of ?_), ?_, ?_, ?_, ?_, (ready_of ?_), ?_, ?_, ?_, (ready_of ?_), ?_, ?_, ?_, (ready_of ?_), ?_,
    ?_, ?_, (ready_of ?_), ?_, ?_, ?_, ?_, ?_, ?_, ?_, ?_, ?_, ?_⟩ <;> decide +kernel

theorem witness_IoCommands_2 :
    n2_r1.m.alive = true ∧
    n2_r1.m.md.faultClear = true ∧
    n2_r1.m.locked (Res.ls 0) = false ∧
    (n2_r1.m.ls 0).latch = true ∧
    Ready (Instr.lsClear h 0) n2_r1 ∧
    n5_r1.m.alive = true ∧
    n5_r1.m.md.faultClear = true ∧
    n5_r1.m.locked (Res.ls 0) = false ∧
    n5_r1.m.lsOwned 0 = true ∧
    Ready (Instr.lsSet h 0 0) n5_r1 ∧
    n4.m.sup.powered = true ∧
    0 < n4.m.io.feed.length ∧
    (n4.m.feed 0).absent = true ∧
    50 ≤ 50 ∧
    (n4.m.feed 0).sag = true ∧
    8 * n4.m.pn P.feedUn (feedGroup 0) ≤ 1000 := by
  refine ⟨?_, ?_, ?_, ?_, (ready_of ?_), ?_, ?_, ?_, ?_, (ready_of ?_), ?_, ?_, ?_, ?_, ?_, ?_⟩ <;> decide
    +kernel

theorem witness_ThermalLatch :
    n1.m.sup.powered = true ∧
    23 < 24 ∧
    23 < n1.m.io.ls.length ∧
    (n1.m.ls 23).latch = false ∧
    n2.m.sup.powered = true ∧
    23 < n2.m.io.ls.length ∧
    (n2.m.ls 23).latch = true := by
  decide +kernel

end C10

namespace C11
open C05 C07

def cn (x : Mode) (f : CanPort → CanPort) : State := u (let m := md x m0; { m with can := m.can.map f })
def tx0 : CanTx := ⟨true, false, false, false, 5, 8, List.replicate 8 0, 1, 0⟩
def ob0 : CanObj := { CanObj.reset with valid := true, send := true, ide := true, ident := 9, dlc := 8, data := some [1], due := some 70 }
def ob1 : CanObj := { CanObj.reset with valid := true, send := false, ide := true, ident := 9, dlc := 8, new := true, rx := some (⟨true,false,false,false,false,9,8,[1]⟩, 5) }
def c1 : State := cn .service id
def c2 : State := cn .service (fun c => { c with nbtp := 0 })
def on (c : CanPort) : CanPort := { c with cfg := 0xE0000000, errState := 0, objs := ob0 :: c.objs.tail }
def c3 : State := cn .service (fun c => { on c with txb := [some tx0, none, none] })
def c4 : State := cn .service (fun c => { on c with errState := 2 })
def c5 : State := cn .service (fun c => { on c with errState := 2, recovering := true })
def c6 : State := cn .service (fun c => { on c with txb := [some tx0, none, none], attempt := some (0, 5, none) })
def tx15 : CanTx := { tx0 with coll := 15 }
def c10 : State := cn .service (fun c => { on c with txb := [some tx15, none, none], attempt := some (0, 5, none) })
def c7 : State := cn .service (fun c => { on c with objs := ob1 :: c.objs.tail })
def c8 : State := cn .safeHold (fun c => { on c with objs := { ob0 with pend := some tx0 } :: c.objs.tail })
def c9 : State := let x := cn .service on; { x with m := par P.canStatusPeriod 0 10 (x.m.onFab (fun f => { f with addr := some 7 })) }
def ca (b : Bool) : CanArgs := ⟨true, false, false, 6, false, false, 8, b, [1,2]⟩
def cf : CanFrame := ⟨true,false,false,false,false,9,8,[1]⟩
def c12 : State := cn .service (fun c => { on c with txb := [some tx0, none, none], attempt := some (0, 5, some h), disabling := true })
def c13 : State := cn .service (fun c => { on c with txb := [some tx0, none, none], attempt := some (0, 5, some h) })
def c1_r1 : State := fetched h (descCanTx 0 0 (ca true)) c1
def c1_r2 : State := fetched h (descCanTx 0 128 (ca true)) c1
def c1_r3 : State := fetched h (descCanTx 2 0 (ca true)) c1
def c1_r4 : State := fetched h (descCanTxCancel 2 0) c1
def c1_r5 : State := fetched h (descCanObjWrite 2 0 true [1, 2]) c1
def c1_r6 : State := fetched h (descCanTxCancel 0 0) c1
def c1_r7 : State := fetched h (descCanTxCancel 0 256) c1
def c1_r8 : State := fetched h (descCanObjWrite 0 0 true [1, 2]) c1
def c1_r9 : State := fetched h (descCanObjWrite 0 128 true [1, 2]) c1
def c1_r10 : State := fetched h (descCanObjRead 2 0 0) c1
def c1_r11 : State := fetched h (descCanObjRead 0 0 0) c1
def c1_r12 : State := fetched h (descCanObjRead 0 0 128) c1
def c1_r13 : State := fetched h (descCanObjRead 0 128 0) c1
def c3_r1 : State := fetched h (descCanTx 0 0 (ca false)) c3
def c3_r2 : State := fetched h (descCanTx 0 1 (ca false)) c3
def c3_r3 : State := fetched h (descCanTx 0 0 (ca true)) c3
def c3_r4 : State := fetched h (descCanTxCancel 0 0) c3
def c3_r5 : State := fetched h (descCanObjWrite 0 0 true [1, 2]) c3
def c3_r6 : State := fetched h (descCanObjWrite 0 1 true [1, 2]) c3
def c6_r1 : State := fetched h (descCanTxCancel 0 0) c6
def c7_r1 : State := fetched h (descCanObjRead 0 0 128) c7

theorem witness_CanPorts_1 :
    c1.m.alive = true ∧
    0 < 2 ∧
    0 < c1.m.can.length ∧
    (c1.m.canPort 0).en = false ∧
    (c1.m.canPort 0).timingFault = none ∧
    (c1.m.canPort 0).errState ≠ 2 ∧
    c1_r1.m.alive = true ∧
    0 < c1_r1.m.can.length ∧
    c1_r1.m.md.comm = true ∧
    0 < 3 ∧
    (c1_r1.m.canPort 0).en = false ∧
    Ready (Instr.canTx h 0 0 (ca true)) c1_r1 ∧
    c1_r2.m.alive = true ∧
    0 < c1_r2.m.can.length ∧
    c1_r2.m.md.comm = true ∧
    3 ≤ 128 ∧
    Ready (Instr.canTx h 0 128 (ca true)) c1_r2 ∧
    c1_r3.m.alive = true ∧
    0 < c1_r3.m.can.length ∧
    c1_r3.m.md.comm = true ∧
    2 ≤ 2 ∧
    Ready (Instr.canTx h 2 0 (ca true)) c1_r3 ∧
    c1_r4.m.alive = true ∧
    0 < c1_r4.m.can.length ∧
    c1_r4.m.md.comm = true ∧
    Ready (Instr.canTxCancel h 2 0) c1_r4 ∧
    c1_r5.m.alive = true ∧
    0 < c1_r5.m.can.length ∧
    c1_r5.m.md.comm = true ∧
    Ready (Instr.canObjWrite h 2 0 true [1, 2]) c1_r5 ∧
    c1_r6.m.alive = true ∧
    0 < c1_r6.m.can.length ∧
    c1_r6.m.md.comm = true ∧
    (0 < 3 ∨ 128 ≤ 0 ∧ 0 < 256) ∧
    (c1_r6.m.canPort 0).src 0 = none ∧
    Ready (Instr.canTxCancel h 0 0) c1_r6 ∧
    c1_r7.m.alive = true ∧
    0 < c1_r7.m.can.length ∧
    c1_r7.m.md.comm = true ∧
    3 ≤ 256 ∧
    (256 < 128 ∨ 256 ≤ 256) ∧
    Ready (Instr.canTxCancel h 0 256) c1_r7 ∧
    c1_r8.m.alive = true ∧
    0 < c1_r8.m.can.length ∧
    c1_r8.m.md.comm = true ∧
    Ready (Instr.canObjWrite h 0 0 true [1, 2]) c1_r8 ∧
    0 < 128 ∧
    (c1_r8.m.canPort 0).en = false := by
  refine ⟨?_, ?_, ?_, ?_, ?_, ?_, ?_, ?_, ?_, ?_, ?_, (ready_of ?_), ?_, ?_, ?_, ?_, (ready_of ?_), ?_, ?_,
    ?_, ?_, (ready_of ?_), ?_, ?_, ?_, (ready_of ?_), ?_, ?_, ?_, (ready_of ?_), ?_, ?_, ?_, ?_, ?_, (ready_of
    ?_), ?_, ?_, ?_, ?_, ?_, (ready_of ?_), ?_, ?_, ?_, (ready_of ?_), ?_, ?_⟩ <;> decide +kernel

theorem witness_CanPorts_2 :
    c1_r9.m.alive = true ∧
    0 < c1_r9.m.can.length ∧
    c1_r9.m.md.comm = true ∧
    Ready (Instr.canObjWrite h 0 128 true [1, 2]) c1_r9 ∧
    128 ≤ 128 ∧
    c1_r10.m.alive = true ∧
    0 < c1_r10.m.can.length ∧
    c1_r10.m.md.reads = true ∧
    Ready (Instr.canObjRead h 2 0 0) c1_r10 ∧
    c1_r11.m.alive = true ∧
    0 < c1_r11.m.can.length ∧
    c1_r11.m.md.reads = true ∧
    Ready (Instr.canObjRead h 0 0 0) c1_r11 ∧
    0 < 80 ∧
    c1_r12.m.alive = true ∧
    0 < c1_r12.m.can.length ∧
    c1_r12.m.md.reads = true ∧
    Ready (Instr.canObjRead h 0 0 128) c1_r12 ∧
    80 ≤ 128 ∧
    (((c1_r12.m.canPort 0).objs.getD 0 CanObj.reset).valid = false ∨ ((c1_r12.m.canPort 0).objs.getD 0 CanObj.reset).send = true) ∧
    c1_r13.m.alive = true ∧
    0 < c1_r13.m.can.length ∧
    c1_r13.m.md.reads = true ∧
    Ready (Instr.canObjRead h 0 128 0) c1_r13 ∧
    (c1.m.canSilent 0 = true ∨ (c1.m.canPort 0).en = false ∨ 2 ≤ (c1.m.canPort 0).errState ∨ (c1.m.canPort 0).attempt.isSome = true ∨ (c1.m.canPort 0).offer = none) ∧
    (c1.m.canPort 0).attempt = none ∧
    ((c1.m.canPort 0).en = false ∨ 2 ≤ (c1.m.canPort 0).errState ∨ cf.fdf = true ∧ (c1.m.canPort 0).fdEn = false) ∧
    (((c1.m.canPort 0).objs.getD 0 CanObj.reset).due = none ∨ ((c1.m.canPort 0).objs.getD 0 CanObj.reset).data = none ∨ (c1.m.canPort 0).en = false ∨ c1.m.md = Mode.shadow) ∧
    (c1.m.fab.addr = none ∨ (c1.m.canPort 0).en = false ∨ c1.m.p P.canStatusPeriod 0 = 0 ∨ c1.m.md = Mode.dormant ∨ c1.m.md = Mode.safeHold) ∧
    c2.m.alive = true ∧
    0 < c2.m.can.length ∧
    (c2.m.canPort 0).en = false ∧
    (c2.m.canPort 0).timingFault = some 1 ∧
    c3.m.alive = true ∧
    0 < c3.m.can.length ∧
    (c3.m.canPort 0).en = true ∧
    (c3.m.canPort 0).attempt = none ∧
    c3_r1.m.alive = true ∧
    0 < c3_r1.m.can.length ∧
    c3_r1.m.md.comm = true ∧
    0 < (c3_r1.m.canPort 0).txb.length ∧
    (c3_r1.m.canPort 0).en = true ∧
    c3_r1.m.canFrame 0 (ca false) = Sum.inl { ide := true, fdf := false, brs := false, rtr := false, ident := 6, dlc := 8, data := [1#8, 2#8, 0#8, 0#8, 0#8, 0#8, 0#8, 0#8], attempts := 0, coll := 0 } ∧
    (c3_r1.m.canPort 0).src 0 ≠ none ∧
    Ready (Instr.canTx h 0 0 (ca false)) c3_r1 := by
  refine ⟨?_, ?_, ?_, (ready_of ?_), ?_, ?_, ?_, ?_, (ready_of ?_), ?_, ?_, ?_, (ready_of ?_), ?_, ?_, ?_, ?_,
    (ready_of ?_), ?_, ?_, ?_, ?_, ?_, (ready_of ?_), ?_, ?_, ?_, ?_, ?_, ?_, ?_, ?_, ?_, ?_, ?_, ?_, ?_, ?_,
    ?_, ?_, ?_, ?_, ?_, ?_, (ready_of ?_)⟩ <;> decide +kernel

theorem witness_CanPorts_3 :
    c3_r2.m.alive = true ∧
    0 < c3_r2.m.can.length ∧
    c3_r2.m.md.comm = true ∧
    1 < 3 ∧
    1 < (c3_r2.m.canPort 0).txb.length ∧
    (c3_r2.m.canPort 0).en = true ∧
    c3_r2.m.canFrame 0 (ca false) = Sum.inl { ide := true, fdf := false, brs := false, rtr := false, ident := 6, dlc := 8, data := [1#8, 2#8, 0#8, 0#8, 0#8, 0#8, 0#8, 0#8], attempts := 0, coll := 0 } ∧
    (c3_r2.m.canPort 0).src 1 = none ∧
    Ready (Instr.canTx h 0 1 (ca false)) c3_r2 ∧
    c3_r3.m.alive = true ∧
    0 < c3_r3.m.can.length ∧
    c3_r3.m.md.comm = true ∧
    (c3_r3.m.canPort 0).en = true ∧
    c3_r3.m.canFrame 0 (ca true) = Sum.inr 5889 ∧
    Ready (Instr.canTx h 0 0 (ca true)) c3_r3 ∧
    c3_r4.m.alive = true ∧
    0 < c3_r4.m.can.length ∧
    c3_r4.m.md.comm = true ∧
    (0 < 3 ∧ 0 < (c3_r4.m.canPort 0).txb.length ∨ 128 ≤ 0 ∧ 0 < 256 ∧ 0 - 128 < (c3_r4.m.canPort 0).objs.length) ∧
    (c3_r4.m.canPort 0).src 0 = some tx0 ∧
    (Option.all (fun x => x.fst != 0) (c3_r4.m.canPort 0).attempt = true) ∧
    Ready (Instr.canTxCancel h 0 0) c3_r4 ∧
    c3_r5.m.alive = true ∧
    0 < c3_r5.m.can.length ∧
    c3_r5.m.md.comm = true ∧
    0 < (c3_r5.m.canPort 0).objs.length ∧
    (c3_r5.m.canPort 0).en = true ∧
    ((c3_r5.m.canPort 0).objs.getD 0 CanObj.reset).valid = true ∧
    ((c3_r5.m.canPort 0).objs.getD 0 CanObj.reset).send = true ∧
    (((c3_r5.m.canPort 0).objs.getD 0 CanObj.reset).addrEmbed = false ∨ c3_r5.m.fab.addr ≠ none) ∧
    Ready (Instr.canObjWrite h 0 0 true [1, 2]) c3_r5 ∧
    c3_r6.m.alive = true ∧
    0 < c3_r6.m.can.length ∧
    c3_r6.m.md.comm = true ∧
    Ready (Instr.canObjWrite h 0 1 true [1, 2]) c3_r6 ∧
    1 < 128 ∧
    (c3_r6.m.canPort 0).en = true ∧
    (((c3_r6.m.canPort 0).objs.getD 1 CanObj.reset).valid = false ∨ ((c3_r6.m.canPort 0).objs.getD 1 CanObj.reset).send = false) ∧
    (c3.m.canPort 0).errState < 2 ∧
    c3.m.canSilent 0 = false ∧
    (c3.m.canPort 0).offer = some (0, tx0) ∧
    (cf.fdf = false ∨ (c3.m.canPort 0).fdEn = true) ∧
    0 < (c3.m.canPort 0).objs.length ∧
    ((c3.m.canPort 0).objs.getD 0 CanObj.reset).due = some 70 ∧
    ((c3.m.canPort 0).objs.getD 0 CanObj.reset).data = some [1#8] ∧
    c3.m.md ≠ Mode.shadow ∧
    ((c3.m.canPort 0).objs.getD 0 CanObj.reset).pend = none := by
  refine ⟨?_, ?_, ?_, ?_, ?_, ?_, ?_, ?_, (ready_of ?_), ?_, ?_, ?_, ?_, ?_, (ready_of ?_), ?_, ?_, ?_, ?_,
    ?_, ?_, (ready_of ?_), ?_, ?_, ?_, ?_, ?_, ?_, ?_, ?_, (ready_of ?_), ?_, ?_, ?_, (ready_of ?_), ?_, ?_,
    ?_, ?_, ?_, ?_, ?_, ?_, ?_, ?_, ?_, ?_⟩ <;> decide +kernel

theorem witness_CanPorts_4 :
    c4.m.alive = true ∧
    0 < c4.m.can.length ∧
    (c4.m.canPort 0).errState = 2 ∧
    c5.m.alive = true ∧
    0 < c5.m.can.length ∧
    (c5.m.canPort 0).errState = 2 ∧
    (c5.m.canPort 0).recovering = true ∧
    c6.m.alive = true ∧
    0 < c6.m.can.length ∧
    (c6.m.canPort 0).en = true ∧
    (c6.m.canPort 0).attempt.isSome = true ∧
    c6_r1.m.alive = true ∧
    0 < c6_r1.m.can.length ∧
    c6_r1.m.md.comm = true ∧
    (0 < 3 ∧ 0 < (c6_r1.m.canPort 0).txb.length ∨ 128 ≤ 0 ∧ 0 < 256 ∧ 0 - 128 < (c6_r1.m.canPort 0).objs.length) ∧
    (c6_r1.m.canPort 0).src 0 = some tx0 ∧
    (c6_r1.m.canPort 0).attempt = some (0, 5, none) ∧
    Ready (Instr.canTxCancel h 0 0) c6_r1 ∧
    (c6.m.canPort 0).attempt = some (0, 5, none) ∧
    (0 < 3 ∧ 0 < (c6.m.canPort 0).txb.length ∨ 128 ≤ 0 ∧ 0 < 256 ∧ 0 - 128 < (c6.m.canPort 0).objs.length ∨ 0 = 256) ∧
    (c6.m.canPort 0).src 0 = some tx0 ∧
    (c6.m.canPort 0).disabling = false ∧
    ((if 0 = 3 ∧ (c6.m.canPort 0).errState = 1 then (c6.m.canPort 0).tec else (c6.m.canPort 0).tec + 8) = 8) ∧
    tx0.coll + 1 < 16 ∧
    c7_r1.m.alive = true ∧
    0 < c7_r1.m.can.length ∧
    c7_r1.m.md.reads = true ∧
    0 < (c7_r1.m.canPort 0).objs.length ∧
    ((c7_r1.m.canPort 0).objs.getD 0 CanObj.reset).valid = true ∧
    ((c7_r1.m.canPort 0).objs.getD 0 CanObj.reset).send = false ∧
    Ready (Instr.canObjRead h 0 0 128) c7_r1 ∧
    c8.m.alive = true ∧
    0 < c8.m.can.length ∧
    0 < (c8.m.canPort 0).objs.length ∧
    ((c8.m.canPort 0).objs.getD 0 CanObj.reset).due = some 70 ∧
    ((c8.m.canPort 0).objs.getD 0 CanObj.reset).data = some [1#8] ∧
    (c8.m.canPort 0).en = true ∧
    c8.m.md ≠ Mode.shadow ∧
    ((c8.m.canPort 0).objs.getD 0 CanObj.reset).pend ≠ none ∧
    c9.m.alive = true ∧
    0 < c9.m.can.length ∧
    c9.m.fab.addr = some 7 ∧
    (c9.m.canPort 0).en = true ∧
    c9.m.p P.canStatusPeriod 0 ≠ 0 ∧
    0 ≤ c9.m.p P.canStatusPeriod 0 ∧
    c9.m.md ≠ Mode.dormant ∧
    c9.m.md ≠ Mode.safeHold := by
  refine ⟨?_, ?_, ?_, ?_, ?_, ?_, ?_, ?_, ?_, ?_, ?_, ?_, ?_, ?_, ?_, ?_, ?_, (ready_of ?_), ?_, ?_, ?_, ?_,
    ?_, ?_, ?_, ?_, ?_, ?_, ?_, ?_, (ready_of ?_), ?_, ?_, ?_, ?_, ?_, ?_, ?_, ?_, ?_, ?_, ?_, ?_, ?_, ?_, ?_,
    ?_⟩ <;> decide +kernel

theorem witness_CanPorts_5 :
    c10.m.alive = true ∧
    0 < c10.m.can.length ∧
    (c10.m.canPort 0).attempt = some (0, 5, none) ∧
    (0 < 3 ∧ 0 < (c10.m.canPort 0).txb.length ∨ 128 ≤ 0 ∧ 0 < 256 ∧ 0 - 128 < (c10.m.canPort 0).objs.length ∨ 0 = 256) ∧
    (c10.m.canPort 0).src 0 = some tx15 ∧
    (c10.m.canPort 0).disabling = false ∧
    16 ≤ tx15.coll + 1 ∧
    c12.m.alive = true ∧
    0 < c12.m.can.length ∧
    (c12.m.canPort 0).attempt = some (0, 5, some { ring := 0, idx := 5, tag := 7, irq := true, noProg := false }) ∧
    (0 < 3 ∧ 0 < (c12.m.canPort 0).txb.length ∨ 128 ≤ 0 ∧ 0 < 256 ∧ 0 - 128 < (c12.m.canPort 0).objs.length ∨ 0 = 256) ∧
    (c12.m.canPort 0).src 0 = some tx0 ∧
    (c12.m.canPort 0).disabling = true ∧
    c13.m.alive = true ∧
    0 < c13.m.can.length ∧
    (c13.m.canPort 0).attempt = some (0, 5, some { ring := 0, idx := 5, tag := 7, irq := true, noProg := false }) ∧
    (0 < 3 ∧ 0 < (c13.m.canPort 0).txb.length ∨ 128 ≤ 0 ∧ 0 < 256 ∧ 0 - 128 < (c13.m.canPort 0).objs.length ∨ 0 = 256) ∧
    (c13.m.canPort 0).src 0 = some tx0 ∧
    some { ring := 0, idx := 5, tag := 7, irq := true, noProg := false } = some h ∧
    (c13.m.canPort 0).disabling = false := by
  refine ⟨?_, ?_, ?_, ?_, ?_, ?_, ?_, ?_, ?_, ?_, ?_, ?_, ?_, ?_, ?_, ?_, ?_, ?_, ?_, ?_⟩ <;> decide +kernel

end C11

namespace C12
open C05 C07

def fb (x : Mode) (f : FabSt → FabSt) : State := u (let m := md x m0; { m with fab := f m.fab })
def up2 (f : FabSt) : FabSt := { f with ports := f.ports.map (fun q => { q with up := true, ver := some (1, 0), rxErrors := 3, rxFrames := 9 }), addr := some 7, topology := 2, routes := [⟨8, 5, false, 1⟩] }
def f1 : State := fb .service id
def f2 : State := fb .service up2
def rc (n : Nat) : TopoRec := ⟨n, none, false, 0, 0, none, none⟩
def f3 : State := let x := fb .service (fun f => { up2 f with disc := 1, recs := [rc 5, rc 6] }); { x with m := { x.m with host := { x.m.host with ops := [⟨some h, .discover, 0, 0, none, none, false, 0, 0⟩] } } }
def fr (ty org dst fl : Nat) : Frame := ⟨1, ty, org, false, dst, 5, fl, 77, [0,1,5,0,0,0], 1, 3, 0, 0, 0⟩
/-- the right SAFE_CRC -/
def sgn (f : Frame) : Frame := { f with safeCrc := safeCrc (safeBytes f (m0.pn P.fabricId 0)) }
def tru (s : State) : State := { s with m := { s.m with time := { s.m.time with trusted := true, offset := 0 } } }
def f4 : State := tru (fb .dormant up2)
def f5 : State := tru (fb .service up2)
def f6 : State := fb .service (fun f => { up2 f with image := [⟨8, 3, 5, 0, none, 1, true⟩], seen := [(8, 0x10, 77), (8,3,77)] })
def ss (x : Mode) (f : Sess → Sess) : State := fb x (fun z => { up2 z with sess := z.sess.map f })
def g1 : State := ss .service (fun q => { q with used := true, peer := 8 })
def sm : SessMsg := ⟨0, [1], 5, 0, some h⟩
def g2 : State := ss .service (fun q => { q with used := true, peer := 8, tx := [sm], rx := [[1],[2]], rxSeq := 2, nextSeq := 1 })
def g3 : State := ss .service (fun q => { q with used := true, peer := 8, tx := [{ sm with retries := 8 }] ++ List.replicate 7 sm, nextSeq := 8 })
def g4 : State := ss .service (fun q => { q with used := true, peer := 8, opening := some h })
def tm (f : TimeSt → TimeSt) : State := u (let m := md .service m0; { m with time := f m.time })
def t1 : State := tm (fun t => { t with profile := 1, sync := .acquiring, good := 7, gm := some 5 })
def t3 : State := tm (fun t => { t with profile := 1, self := true, sync := .holdover })
def s6 : State := u (let m := md .activeClosed m0; { m with sup := { m.sup with powered := false }, time := { m.time with offset := 5, rate := 9 } })
def t4 : State := tm (fun t => { t with profile := 0 })
def sm8 : SessMsg := { sm with retries := 8 }
def hang (k : Nat) (s : State) : State := { s with m := { s.m with gov := { s.m.gov with suspended := upd s.m.gov.suspended (k-1) (fun _ => true) } } }
def f7 : State := hang 4 (hang 2 f5)
def f8 : State := { f2 with m := { f2.m with host := { f2.m.host with ops := List.replicate 8 ⟨some h, .discover, 0, 0, none, none, false, 0, 0⟩ } } }
def h2 : Hdr := ⟨0, 6, 9, true, false⟩
def g5 : State := ss .service (fun q => { q with used := true, peer := 8, tx := [sm], wait := [([3], h2)], rx := List.replicate 16 [1], nextSeq := 1 })
def g6 : State := hang 4 g2
def f1_r1 : State := fetched h (descFabricDiscover) f1
def f1_r2 : State := fetched h (descTopologyRead 1) f1
def f1_r3 : State := fetched h (descTopologyRead 4096) f1
def f3_r1 : State := fetched h (descFabricDiscover) f3
def f8_r1 : State := fetched h (descFabricDiscover) f8
def f1_r4 : State := fetched h (descPointWrite 1 7) f1
def f1_r5 : State := fetched h (descPointWrite 384 7) f1
def f1_r6 : State := fetched h (descPointRead 1 1) f1
def f1_r7 : State := fetched h (descPointRead 1 2147483648) f1
def f1_r8 : State := fetched h (descPointRead 512 1) f1
def f1_r9 : State := fetched h (descFabricCommand 1 0) f1
def f1_r10 : State := fetched h (descFabricCommand 512 1) f1
def f1_r11 : State := fetched h (descFabricCommand 1 1) f1
def f2_r1 : State := fetched h (descFabricCommand 65535 1) f2
def f1_r12 : State := fetched h (descSessionOpen 0) f1
def f1_r13 : State := fetched h (descSessionSend 64 [1]) f1
def f1_r14 : State := fetched h (descSessionClose 64) f1
def f1_r15 : State := fetched h (descSessionSend 0 [1]) f1
def f1_r16 : State := fetched h (descSessionClose 0) f1
def f1_r17 : State := fetched h (descSessionRecv 64 0) f1
def f1_r18 : State := fetched h (descSessionRecv 0 0) f1
def f2_r2 : State := fetched h (descSessionOpen 8) f2
def g1_r1 : State := fetched h (descSessionOpen 8) g1
def g1_r2 : State := fetched h (descSessionSend 0 []) g1
def g1_r3 : State := fetched h (descSessionSend 0 [1]) g1
def g1_r4 : State := fetched h (descSessionClose 0) g1
def g1_r5 : State := fetched h (descSessionRecv 0 4096) g1
def g2_r1 : State := fetched h (descSessionRecv 0 0) g2
def g2_r2 : State := fetched h (descSessionRecv 0 4096) g2
def g3_r1 : State := fetched h (descSessionSend 0 [1]) g3

theorem witness_Fabric_1 :
    f1.m.alive = true ∧
    (1 = 1 ∨ 1 = 2) ∧
    f1.m.fab.ports.length = 2 ∧
    (f1.m.fport 1).up = false ∧
    0 ≠ 1 ∧
    0 ≠ 2 ∧
    f1.m.runs 4 = true ∧
    ((rc 0).serial = f1.m.id.serial ∨ f1.m.fab.recs.contains (rc 0) = true) ∧
    (rc 5).serial ≠ f1.m.id.serial ∧
    f1.m.fab.recs.contains (rc 5) = false ∧
    f1.m.fab.disc ≠ 1 ∧
    f1_r1.m.alive = true ∧
    f1_r1.m.md.comm = true ∧
    f1_r1.m.fab.disc ≠ 1 ∧
    f1_r1.m.host.ops.length < 8 ∧
    Ready (Instr.fabricDiscover h) f1_r1 ∧
    f1_r2.m.alive = true ∧
    f1_r2.m.md.reads = true ∧
    4095 < 4096 ∧
    Ready (Instr.topologyRead h 1) f1_r2 ∧
    f1_r3.m.alive = true ∧
    f1_r3.m.md.reads = true ∧
    4096 ≤ 4096 ∧
    Ready (Instr.topologyRead h 4096) f1_r3 ∧
    f2.m.alive = true ∧
    f2.m.fab.ports.length = 2 ∧
    (f2.m.fport 1).up = true ∧
    f2.m.runs 4 = true ∧
    (7 < 1 ∨ 1500 < 1501 ∨ 255 < (fr 3 8 7 3).hops) ∧
    7 ≤ 7 ∧
    1500 ≤ 1500 ∧
    (fr 3 8 7 3).hops ≤ 255 ∧
    f2.m.fab.addr = some (fr 3 8 7 3).dest ∧
    bufFits ((f2.m.fport 1).buf ++ [(7, 1500)]) = true ∧
    (f2.m.fport 2).up = true ∧
    (f2.m.fport 1).ver.isSome = true ∧
    (f2.m.fport 2).ver.isSome = true ∧
    0 < (fr 16 8 65535 0).hops ∧
    (fr 16 8 65535 0).hops ≤ 255 ∧
    (fr 16 8 65535 0).type ≠ 1 ∧
    f2.m.fab.addr ≠ some (fr 16 8 65535 0).dest ∧
    (f2.m.fab.addr ≠ some (fr 16 8 65535 0).origin ∨ (fr 16 8 65535 0).noAddr = true) ∧
    f3.m.alive = true ∧
    f3.m.fab.disc = 1 ∧
    f3_r1.m.alive = true ∧
    f3_r1.m.md.comm = true ∧
    f3_r1.m.fab.disc = 1 ∧
    Ready (Instr.fabricDiscover h) f3_r1 := by
  refine ⟨?_, ?_, ?_, ?_, ?_, ?_, ?_, ?_, ?_, ?_, ?_, ?_, ?_, ?_, ?_, (ready_of ?_), ?_, ?_, ?_, (ready_of
    ?_), ?_, ?_, ?_, (ready_of ?_), ?_, ?_, ?_, ?_, ?_, ?_, ?_, ?_, ?_, ?_, ?_, ?_, ?_, ?_, ?_, ?_, ?_, ?_,
    ?_, ?_, ?_, ?_, ?_, (ready_of ?_)⟩ <;> decide +kernel

theorem witness_Fabric_2 :
    f7.m.alive = true ∧
    f7.m.fab.ports.length = 2 ∧
    f7.m.runs 4 = false ∧
    f8_r1.m.alive = true ∧
    f8_r1.m.md.comm = true ∧
    f8_r1.m.fab.disc ≠ 1 ∧
    8 ≤ f8_r1.m.host.ops.length ∧
    Ready (Instr.fabricDiscover h) f8_r1 := by
  refine ⟨?_, ?_, ?_, ?_, ?_, ?_, ?_, (ready_of ?_)⟩ <;> decide +kernel

theorem witness_Points_1 :
    f1.m.alive = true ∧
    (1 = 1 ∨ 1 = 2 ∨ 1 = 3) ∧
    1 ≤ f1.m.fab.pubNext.length ∧
    f1.m.fab.addr = none ∧
    (0 = 0 ∨ 3 < 0) ∧
    (f1.m.runs (if isSafe (fr 3 8 7 3) = true then 2 else 4) = false ∨ (fr 3 8 7 3).type < 16 ∨ 18 < (fr 3 8 7 3).type) ∧
    (fr 16 8 65535 0).type = 15 + 1 ∧
    1 ≤ 1 ∧
    1 ≤ 3 ∧
    (fr 16 8 65535 0).noAddr = false ∧
    f1.m.fab.addr ≠ some (fr 16 8 65535 0).origin ∧
    f1.m.fab.seen.contains ((fr 16 8 65535 0).origin, (fr 16 8 65535 0).type, (fr 16 8 65535 0).seq) = false ∧
    isSafe (fr 16 8 65535 0) = false ∧
    f1.m.runs 4 = true ∧
    (fr 16 8 65535 1).type = 15 + 1 ∧
    (fr 16 8 65535 1).noAddr = false ∧
    f1.m.fab.addr ≠ some (fr 16 8 65535 1).origin ∧
    f1.m.fab.seen.contains ((fr 16 8 65535 1).origin, (fr 16 8 65535 1).type, (fr 16 8 65535 1).seq) = false ∧
    isSafe (fr 16 8 65535 1) = true ∧
    f1.m.runs 2 = true ∧
    f1.m.bcFault (fr 16 8 65535 1) (classPeriod 1 + f1.m.p P.safeAgeMargin 0 * 1000000) = some 1 ∧
    (sgn (fr 16 8 65535 3)).type = 15 + 1 ∧
    (sgn (fr 16 8 65535 3)).noAddr = false ∧
    f1.m.fab.addr ≠ some (sgn (fr 16 8 65535 3)).origin ∧
    f1.m.fab.seen.contains ((sgn (fr 16 8 65535 3)).origin, (sgn (fr 16 8 65535 3)).type, (sgn (fr 16 8 65535 3)).seq) = false ∧
    isSafe (sgn (fr 16 8 65535 3)) = true ∧
    f1.m.bcFault (sgn (fr 16 8 65535 3)) (classPeriod 1 + f1.m.p P.safeAgeMargin 0 * 1000000) = none ∧
    f1_r4.m.alive = true ∧
    f1_r4.m.md.comm = true ∧
    f1_r4.m.locked (Res.point 1) = false ∧
    isHostPoint 1 = false ∧
    Ready (Instr.pointWrite h 1 7) f1_r4 ∧
    f1_r5.m.alive = true ∧
    f1_r5.m.md.comm = true ∧
    f1_r5.m.locked (Res.point 384) = false ∧
    isHostPoint 384 = true ∧
    Ready (Instr.pointWrite h 384 7) f1_r5 ∧
    f1_r6.m.alive = true ∧
    f1_r6.m.md.reads = true ∧
    511 < 512 ∧
    bit 1 31 = false ∧
    Ready (Instr.pointRead h 1 1) f1_r6 ∧
    f1_r7.m.alive = true ∧
    f1_r7.m.md.reads = true ∧
    bit 2147483648 31 = true ∧
    (1 < 256 + 32 * f1_r7.m.portals.length ∨ 384 ≤ 1) ∧
    Ready (Instr.pointRead h 1 2147483648) f1_r7 := by
  refine ⟨?_, ?_, ?_, ?_, ?_, ?_, ?_, ?_, ?_, ?_, ?_, ?_, ?_, ?_, ?_, ?_, ?_, ?_, ?_, ?_, ?_, ?_, ?_, ?_, ?_,
    ?_, ?_, ?_, ?_, ?_, ?_, (ready_of ?_), ?_, ?_, ?_, ?_, (ready_of ?_), ?_, ?_, ?_, ?_, (ready_of ?_), ?_,
    ?_, ?_, ?_, (ready_of ?_)⟩ <;> decide +kernel

theorem witness_Points_2 :
    f1_r8.m.alive = true ∧
    f1_r8.m.md.reads = true ∧
    (512 ≤ 512 ∨ bit 1 31 = true ∧ 256 + 32 * f1_r8.m.portals.length ≤ 512 ∧ 512 < 384) ∧
    Ready (Instr.pointRead h 512 1) f1_r8 ∧
    f1_r9.m.alive = true ∧
    f1_r9.m.md.comm = true ∧
    (0 = 0 ∨ 2 < 0) ∧
    Ready (Instr.fabricCommand h 1 0) f1_r9 ∧
    f1_r10.m.alive = true ∧
    f1_r10.m.md.comm = true ∧
    (1 = 1 ∨ 1 = 2) ∧
    512 ≤ 512 ∧
    512 ≠ 65535 ∧
    Ready (Instr.fabricCommand h 512 1) f1_r10 ∧
    f1_r11.m.alive = true ∧
    f1_r11.m.md.comm = true ∧
    (1 = 65535 ∨ 511 < 512) ∧
    (f1_r11.m.fab.addr = none ∨ 511 < 512 ∧ f1_r11.m.fab.addr ≠ some 1 ∧ f1_r11.m.route 1 = none) ∧
    Ready (Instr.fabricCommand h 1 1) f1_r11 ∧
    ((fr 16 8 65535 0).type ≠ 3 ∨ isSafe (fr 16 8 65535 0) = false ∨ (fr 16 8 65535 0).noAddr = true ∨ f1.m.fab.addr = some (fr 16 8 65535 0).origin ∨ f1.m.fab.seen.contains ((fr 16 8 65535 0).origin, (fr 16 8 65535 0).type, (fr 16 8 65535 0).seq) = true) ∧
    (fr 3 8 7 3).type = 3 ∧
    isSafe (fr 3 8 7 3) = true ∧
    (fr 3 8 7 3).noAddr = false ∧
    f1.m.fab.addr ≠ some (fr 3 8 7 3).origin ∧
    f1.m.fab.seen.contains ((fr 3 8 7 3).origin, (fr 3 8 7 3).type, (fr 3 8 7 3).seq) = false ∧
    f1.m.bcFault (fr 3 8 7 3) (f1.m.p P.safeAgeMargin 0 * 1000000) = some 1 ∧
    (sgn (fr 3 8 7 3)).type = 3 ∧
    isSafe (sgn (fr 3 8 7 3)) = true ∧
    (sgn (fr 3 8 7 3)).noAddr = false ∧
    f1.m.fab.addr ≠ some (sgn (fr 3 8 7 3)).origin ∧
    f1.m.fab.seen.contains ((sgn (fr 3 8 7 3)).origin, (sgn (fr 3 8 7 3)).type, (sgn (fr 3 8 7 3)).seq) = false ∧
    f1.m.bcFault (sgn (fr 3 8 7 3)) (f1.m.p P.safeAgeMargin 0 * 1000000) = none ∧
    f2.m.alive = true ∧
    1 ≤ f2.m.fab.pubNext.length ∧
    f2.m.fab.addr.isSome = true ∧
    f2_r1.m.alive = true ∧
    f2_r1.m.md.comm = true ∧
    f2_r1.m.fab.addr.isSome = true ∧
    (65535 = 65535 ∨ 65535 < 512 ∧ (f2_r1.m.fab.addr = some 65535 ∨ (f2_r1.m.route 65535).isSome = true)) ∧
    Ready (Instr.fabricCommand h 65535 1) f2_r1 ∧
    f4.m.alive = true ∧
    f4.m.runs 2 = true ∧
    f4.m.fab.addr ≠ some (sgn (fr 3 8 7 3)).origin ∧
    f4.m.fab.seen.contains ((sgn (fr 3 8 7 3)).origin, (sgn (fr 3 8 7 3)).type, (sgn (fr 3 8 7 3)).seq) = false ∧
    f4.m.bcFault (sgn (fr 3 8 7 3)) (f4.m.p P.safeAgeMargin 0 * 1000000) = none ∧
    f4.m.md = Mode.dormant ∧
    f4.m.mode.wake = none := by
  refine ⟨?_, ?_, ?_, (ready_of ?_), ?_, ?_, ?_, (ready_of ?_), ?_, ?_, ?_, ?_, ?_, (ready_of ?_), ?_, ?_, ?_,
    ?_, (ready_of ?_), ?_, ?_, ?_, ?_, ?_, ?_, ?_, ?_, ?_, ?_, ?_, ?_, ?_, ?_, ?_, ?_, ?_, ?_, ?_, ?_,
    (ready_of ?_), ?_, ?_, ?_, ?_, ?_, ?_, ?_⟩ <;> decide +kernel

theorem witness_Points_3 :
    f6.m.alive = true ∧
    16 ≤ (fr 16 8 65535 0).type ∧
    (fr 16 8 65535 0).type ≤ 18 ∧
    f6.m.runs (if isSafe (fr 16 8 65535 0) = true then 2 else 4) = true ∧
    (f6.m.fab.seen.contains ((fr 16 8 65535 0).origin, (fr 16 8 65535 0).type, (fr 16 8 65535 0).seq) = true ∨ (fr 16 8 65535 0).noAddr = true ∨ f6.m.fab.addr = some (fr 16 8 65535 0).origin) ∧
    f7.m.alive = true ∧
    f7.m.runs 2 = false := by
  decide +kernel

theorem witness_Sessions_1 :
    f1_r12.m.alive = true ∧
    0 < 64 ∧
    0 < f1_r12.m.fab.sess.length ∧
    f1_r12.m.md.comm = true ∧
    f1_r12.m.fab.addr = none ∧
    Ready (Instr.sessionOpen h 0) f1_r12 ∧
    f1_r12.m.route 0 = none ∧
    f1_r13.m.alive = true ∧
    0 < f1_r13.m.fab.sess.length ∧
    f1_r13.m.md.comm = true ∧
    64 ≤ 64 ∧
    Ready (Instr.sessionSend h 64 [1]) f1_r13 ∧
    f1_r14.m.alive = true ∧
    0 < f1_r14.m.fab.sess.length ∧
    f1_r14.m.md.comm = true ∧
    Ready (Instr.sessionClose h 64) f1_r14 ∧
    f1_r15.m.alive = true ∧
    0 < f1_r15.m.fab.sess.length ∧
    f1_r15.m.md.comm = true ∧
    f1_r15.m.sessUp 0 = false ∧
    Ready (Instr.sessionSend h 0 [1]) f1_r15 ∧
    f1_r16.m.alive = true ∧
    0 < f1_r16.m.fab.sess.length ∧
    f1_r16.m.md.comm = true ∧
    (f1_r16.m.session 0).used = false ∧
    Ready (Instr.sessionClose h 0) f1_r16 ∧
    f1_r17.m.alive = true ∧
    0 < f1_r17.m.fab.sess.length ∧
    f1_r17.m.md.reads = true ∧
    Ready (Instr.sessionRecv h 64 0) f1_r17 ∧
    f1_r18.m.alive = true ∧
    0 < f1_r18.m.fab.sess.length ∧
    f1_r18.m.md.reads = true ∧
    f1_r18.m.sessUp 0 = false ∧
    Ready (Instr.sessionRecv h 0 0) f1_r18 ∧
    f1.m.alive = true ∧
    0 < f1.m.fab.sess.length ∧
    f1.m.runs 4 = true ∧
    (List.find? (fun j => !(f1.m.session j).used) (upto 64) = some 0) ∧
    0 ≠ 1 ∧
    ((f1.m.session 0).used = false ∨ (f1.m.session 0).peer ≠ 0) ∧
    ((f1.m.session 0).used = false ∨ (f1.m.session 0).opening = none ∧ List.find? (fun y => y.seq == 0) (f1.m.session 0).tx = none) ∧
    (f1.m.session 0).tx = [] := by
  refine ⟨?_, ?_, ?_, ?_, ?_, (ready_of ?_), ?_, ?_, ?_, ?_, ?_, (ready_of ?_), ?_, ?_, ?_, (ready_of ?_), ?_,
    ?_, ?_, ?_, (ready_of ?_), ?_, ?_, ?_, ?_, (ready_of ?_), ?_, ?_, ?_, (ready_of ?_), ?_, ?_, ?_, ?_,
    (ready_of ?_), ?_, ?_, ?_, ?_, ?_, ?_, ?_, ?_⟩ <;> decide +kernel

theorem witness_Sessions_2 :
    f2_r2.m.alive = true ∧
    0 < f2_r2.m.fab.sess.length ∧
    f2_r2.m.md.comm = true ∧
    f2_r2.m.fab.addr.isSome = true ∧
    (f2_r2.m.route 8).isSome = true ∧
    f2_r2.m.fab.sess.length = 64 ∧
    (List.find? (fun j => !(f2_r2.m.session j).used) (upto 64) = some 0) ∧
    Ready (Instr.sessionOpen h 8) f2_r2 ∧
    g1_r1.m.alive = true ∧
    0 < g1_r1.m.fab.sess.length ∧
    g1_r1.m.md.comm = true ∧
    g1_r1.m.fab.addr.isSome = true ∧
    (g1_r1.m.route 8).isSome = true ∧
    (List.find? (fun j => !(g1_r1.m.session j).used) (upto 64) = none) ∧
    Ready (Instr.sessionOpen h 8) g1_r1 ∧
    g1_r2.m.alive = true ∧
    0 < g1_r2.m.fab.sess.length ∧
    g1_r2.m.md.comm = true ∧
    g1_r2.m.sessUp 0 = true ∧
    (([] : List Byte) = [] ∨ 4096 < ([] : List Byte).length) ∧
    Ready (Instr.sessionSend h 0 []) g1_r2 ∧
    g1_r3.m.alive = true ∧
    0 < g1_r3.m.fab.sess.length ∧
    g1_r3.m.md.comm = true ∧
    g1_r3.m.sessUp 0 = true ∧
    [1] ≠ [] ∧
    [1].length ≤ 4096 ∧
    (g1_r3.m.session 0).tx.length < 8 ∧
    (g1_r3.m.session 0).wait = [] ∧
    Ready (Instr.sessionSend h 0 [1]) g1_r3 ∧
    g1_r4.m.alive = true ∧
    0 < g1_r4.m.fab.sess.length ∧
    g1_r4.m.md.comm = true ∧
    (g1_r4.m.session 0).used = true ∧
    Ready (Instr.sessionClose h 0) g1_r4 ∧
    g1_r5.m.alive = true ∧
    0 < g1_r5.m.fab.sess.length ∧
    g1_r5.m.md.reads = true ∧
    g1_r5.m.sessUp 0 = true ∧
    4096 ≤ 4096 ∧
    (g1_r5.m.session 0).rx = [] ∧
    Ready (Instr.sessionRecv h 0 4096) g1_r5 ∧
    g1.m.alive = true ∧
    0 < g1.m.fab.sess.length ∧
    g1.m.runs 4 = true ∧
    (g1.m.session 0).used = true ∧
    (g1.m.session 0).rx.length < 16 ∧
    (g1.m.session 0).rxSeq < 8 := by
  refine ⟨?_, ?_, ?_, ?_, ?_, ?_, ?_, (ready_of ?_), ?_, ?_, ?_, ?_, ?_, ?_, (ready_of ?_), ?_, ?_, ?_, ?_,
    ?_, (ready_of ?_), ?_, ?_, ?_, ?_, ?_, ?_, ?_, ?_, (ready_of ?_), ?_, ?_, ?_, ?_, (ready_of ?_), ?_, ?_,
    ?_, ?_, ?_, ?_, (ready_of ?_), ?_, ?_, ?_, ?_, ?_, ?_⟩ <;> decide +kernel

theorem witness_Sessions_3 :
    (List.find? (fun j => !(g1.m.session j).used) (upto 64) = none) ∧
    g2_r1.m.alive = true ∧
    0 < g2_r1.m.fab.sess.length ∧
    g2_r1.m.md.reads = true ∧
    g2_r1.m.sessUp 0 = true ∧
    (g2_r1.m.session 0).rx ≠ [] ∧
    0 < 4096 ∧
    Ready (Instr.sessionRecv h 0 0) g2_r1 ∧
    g2_r2.m.alive = true ∧
    0 < g2_r2.m.fab.sess.length ∧
    g2_r2.m.md.reads = true ∧
    g2_r2.m.sessUp 0 = true ∧
    (g2_r2.m.session 0).rx = [[1], [2]] ∧
    Ready (Instr.sessionRecv h 0 4096) g2_r2 ∧
    g2.m.alive = true ∧
    0 < g2.m.fab.sess.length ∧
    g2.m.runs 4 = true ∧
    (g2.m.session 0).used = true ∧
    0 < (g2.m.session 0).rxSeq ∧
    (g2.m.session 0).opening = none ∧
    (List.find? (fun y => y.seq == 0) (g2.m.session 0).tx = some sm) ∧
    sm.hdr = some h ∧
    (g2.m.session 0).tx = [sm] ∧
    sm.retries < (g2.m.session 0).retryMax ∧
    g3_r1.m.alive = true ∧
    0 < g3_r1.m.fab.sess.length ∧
    g3_r1.m.md.comm = true ∧
    g3_r1.m.sessUp 0 = true ∧
    (8 ≤ (g3_r1.m.session 0).tx.length ∨ (g3_r1.m.session 0).wait ≠ []) ∧
    Ready (Instr.sessionSend h 0 [1]) g3_r1 ∧
    g3.m.alive = true ∧
    0 < g3.m.fab.sess.length ∧
    g3.m.runs 4 = true ∧
    (g3.m.session 0).tx = sm8 :: List.replicate 7 sm ∧
    (g3.m.session 0).retryMax ≤ sm8.retries ∧
    (g3.m.session 0).used = true ∧
    g4.m.alive = true ∧
    0 < g4.m.fab.sess.length ∧
    g4.m.runs 4 = true ∧
    (g4.m.session 0).used = true ∧
    (g4.m.session 0).opening = some h ∧
    g5.m.alive = true ∧
    0 < g5.m.fab.sess.length ∧
    g5.m.runs 4 = true ∧
    (g5.m.session 0).used = true ∧
    16 ≤ (g5.m.session 0).rx.length := by
  refine ⟨?_, ?_, ?_, ?_, ?_, ?_, ?_, (ready_of ?_), ?_, ?_, ?_, ?_, ?_, (ready_of ?_), ?_, ?_, ?_, ?_, ?_,
    ?_, ?_, ?_, ?_, ?_, ?_, ?_, ?_, ?_, ?_, (ready_of ?_), ?_, ?_, ?_, ?_, ?_, ?_, ?_, ?_, ?_, ?_, ?_, ?_, ?_,
    ?_, ?_, ?_⟩ <;> decide +kernel

theorem witness_Sessions_4 :
    g6.m.alive = true ∧
    0 < g6.m.fab.sess.length ∧
    g6.m.runs 4 = false := by
  decide +kernel

theorem witness_FabricTime :
    t1.m.alive = true ∧
    t1.m.time.profile ≠ 0 ∧
    t1.m.time.self = false ∧
    ↑(Int.natAbs 50) ≤ t1.m.p P.stepThreshold 0 * 1000 ∧
    t1.m.p P.stepThreshold 0 * 1000 < ↑(Int.natAbs 5000000) ∧
    t1.m.time.gm = some 5 ∧
    (none = if false = true then some 0 else none) ∧
    t1.m.time.sync ≠ SyncSt.holdover ∧
    (t1.m.time.profile = 0 ∨ 0 ≤ 1 ∧ t1.m.time.self = false) ∧
    (3 ≤ 1 → t1.m.time.self = true) ∧
    t3.m.alive = true ∧
    (t3.m.time.profile = 0 ∨ t3.m.time.self = true) ∧
    (t3.m.time.gm = none ∨ t3.m.time.self = true) ∧
    t3.m.time.sync = SyncSt.holdover ∧
    t4.m.alive = true ∧
    t4.m.time.profile = 0 := by
  decide +kernel

theorem witness_ServoKeepsTime :
    t1.m.alive = true ∧
    t1.m.time.profile ≠ 0 ∧
    t1.m.time.self = false ∧
    ↑(Int.natAbs 50) ≤ t1.m.p P.stepThreshold 0 * 1000 ∧
    0 ≤ t1.m.p P.rateLimit 0 ∧
    t1.m.p P.rateLimit 0 ≤ 1000000 ∧
    -4294967296 ≤ TimeSt.reset.rate ∧
    0 ≤ 0 ∧
    s6.m.sup.powered = false := by
  decide +kernel

end C12

namespace C13
open C05 C07

def k0 : TxnKey := ⟨7, 1, 9⟩
def ct (x : Ctx) (m : Mod) : Mod := m.onCtx 0 (fun _ => x)
def pwa : Action := .pointWrite 0x180 5
def stg : Ctx := { Ctx.reset with st := 1 }
def t1 : State := u (ct { stg with acts := [pwa] } (md .service m0))
def t2 : State := u (ct { stg with acts := [pwa], reusable := true, out := some ⟨0x40, 0, 0, 500⟩ } ((md .service m0).onFab (fun f => { f with addr := some 7 })))
def t3 : State := u (ct { stg with acts := List.replicate 64 (.sideRelease 1 true), fab := [⟨1, 1, 0⟩] } (md .service m0))
def t4 : State := u ((md .service m0).onTxn (fun t => { t with ctx := t.ctx.map (fun _ => stg) }))
def t6 : State := u (ct { Ctx.reset with st := 5 } (md .service m0))
def locked (m : Mod) : Mod := { m with
  time := { m.time with sync := .locked, trusted := true }
  fab := { m.fab with addr := some 7, epoch := 3, routes := [⟨8, 5, false, 1⟩] } }
def t13 : State := u (ct { Ctx.reset with st := 3, coord := true, key := some k0, votes := [(7, true, 0)] } (locked (md .service m0)))
def mvA : MoveArgs := ⟨1000, 0, 0, 0, 0, false, false⟩
def lk (x : Mode) : State := u (ct { Ctx.reset with st := 2, final := true, acts := [.move 0 mvA, .portalRequest 0 0, .sideRelease 1 true, .lsSet 2 1, pwa] } (md x m0))
def t16 : State := lk .service
def t17 : State := lk .activeClosed
def t19 : State := { t2 with m := { t2.m with time := { t2.m.time with trusted := false } } }
def fa1 : FabAct := ⟨1,1,0⟩
def fa0 : FabAct := ⟨0,1,0⟩
def t1_r1 : State := fetched h (descTxnStageAction 0 pwa false) t1
def t1_r2 : State := fetched h (descTxnStageAction 0 pwa true) t1
def t1_r3 : State := fetched h (descTxnStageAction 0 (Action.other 4) true) t1
def t1_r4 : State := fetched h (descTxnFabricAction 0 fa1) t1
def t1_r5 : State := fetched h (descTxnFabricAction 0 fa0) t1
def t1_r6 : State := fetched h (descTxnCommit 0 false (some 100000)) t1
def t1_r7 : State := fetched h (descTxnCommit 0 false (some 0)) t1
def t1_r8 : State := fetched h (descTxnCommit 0 false none) t1
def t1_r9 : State := fetched h (descTxnCommit 0 true none) t1
def t1_r10 : State := fetched h (descTxnAbort 0) t1
def t1_r11 : State := fetched h (descTxnClose 0) t1
def t1_r12 : State := fetched h (descTxnResult 0) t1
def t1_r13 : State := fetched h (descTxnStatus 0) t1
def t1_r14 : State := fetched h (descTxnOpen true) t1
def t1_r15 : State := fetched h (descTxnFabricAction 1 fa1) t1
def t1_r16 : State := fetched h (descTxnCommit 1 true none) t1
def t1_r17 : State := fetched h (descTxnCommit 1 false none) t1
def t1_r18 : State := fetched h (descTxnAbort 1) t1
def t1_r19 : State := fetched h (descTxnClose 1) t1
def t1_r20 : State := fetched h (descTxnFabricAction 256 fa1) t1
def t1_r21 : State := fetched h (descTxnCommit 256 true none) t1
def t1_r22 : State := fetched h (descTxnAbort 256) t1
def t1_r23 : State := fetched h (descTxnClose 256) t1
def t1_r24 : State := fetched h (descTxnResult 256) t1
def t1_r25 : State := fetched h (descTxnStatus 256) t1
def t2_r1 : State := fetched h (descTxnCommit 0 true none) t2
def t2_r2 : State := fetched h (descTxnCommit 0 true none) t2
def t2_r3 : State := fetched h (descTxnCommit 0 true (some 0)) t2
def t2_r4 : State := fetched h (descTxnCommit 0 true none) t2
def t2_r5 : State := fetched h (descTxnResult 0) t2
def t3_r1 : State := fetched h (descTxnStageAction 0 pwa false) t3
def t3_r2 : State := fetched h (descTxnCommit 0 false none) t3
def t4_r1 : State := fetched h (descTxnOpen true) t4
def t4_r2 : State := fetched h (descTxnCommit 0 true none) t4
def t6_r1 : State := fetched h (descTxnAbort 0) t6
def t13_r1 : State := fetched h (descTxnAbort 0) t13
def t16_r1 : State := fetched h (descStop 0) t16
def t16_r2 : State := fetched h (descAxisFaultClear 0) t16
def t16_r3 : State := fetched h (descPhaseTest 0) t16
def t16_r4 : State := fetched h (descJog 0 true true 0) t16
def t16_r5 : State := fetched h (descHome 0 true) t16
def t16_r6 : State := fetched h (descPortalReset 0) t16
def t16_r7 : State := fetched h (descLsSet 2 0) t16
def t16_r8 : State := fetched h (descLsClear 2) t16
def t16_r9 : State := fetched h (descPointWrite 384 100000) t16
def t17_r1 : State := fetched h (descMove 0 mvA) t17
def t17_r2 : State := fetched h (descSetMotionLimits 0 { speed := 5, accel := 0, decel := 0, jerk := 0 }) t17
def t17_r3 : State := fetched h (descPortalRequest 0 0) t17
def t17_r4 : State := fetched h (descSideRelease 1 false) t17
def t19_r1 : State := fetched h (descTxnCommit 0 true none) t19

theorem witness_TxnCommands_1 :
    t1_r1.m.alive = true ∧
    0 < 256 ∧
    t1_r1.m.txn.ctx.length = 256 ∧
    t1_r1.m.md.comm = true ∧
    (∀ (w : Nat), pwa ≠ Action.other w) ∧
    (t1_r1.m.ctx 0).st = 1 ∧
    (t1_r1.m.ctx 0).acts.length < 64 ∧
    Ready (Instr.txnStageAction h 0 pwa false) t1_r1 ∧
    t1_r2.m.alive = true ∧
    t1_r2.m.txn.ctx.length = 256 ∧
    t1_r2.m.md.comm = true ∧
    (t1_r2.m.ctx 0).st = 1 ∧
    Ready (Instr.txnStageAction h 0 pwa true) t1_r2 ∧
    t1_r3.m.alive = true ∧
    t1_r3.m.txn.ctx.length = 256 ∧
    t1_r3.m.md.comm = true ∧
    ((t1_r3.m.ctx 0).st ≠ 1 ∨ ∃ w, Action.other 4 = Action.other w) ∧
    Ready (Instr.txnStageAction h 0 (Action.other 4) true) t1_r3 ∧
    t1_r4.m.alive = true ∧
    t1_r4.m.txn.ctx.length = 256 ∧
    t1_r4.m.md.comm = true ∧
    (t1_r4.m.ctx 0).st = 1 ∧
    1 ≤ fa1.kind ∧
    fa1.kind ≤ 3 ∧
    (t1_r4.m.ctx 0).fab.length < 8 ∧
    Ready (Instr.txnFabricAction h 0 fa1) t1_r4 ∧
    t1_r5.m.alive = true ∧
    t1_r5.m.txn.ctx.length = 256 ∧
    t1_r5.m.md.comm = true ∧
    (t1_r5.m.ctx 0).st = 1 ∧
    (fa0.kind = 0 ∨ 3 < fa0.kind ∨ 8 ≤ (t1_r5.m.ctx 0).fab.length) ∧
    Ready (Instr.txnFabricAction h 0 fa0) t1_r5 ∧
    t1_r6.m.alive = true ∧
    t1_r6.m.txn.ctx.length = 256 ∧
    t1_r6.m.md.comm = true ∧
    (t1_r6.m.ctx 0).st = 1 ∧
    (t1_r6.m.ctx 0).fab = [] ∧
    (t1_r6.m.ctx 0).acts ≠ [] ∧
    t1_r6.m.now + 100000 ≤ 100000 ∧
    100000 ≤ t1_r6.m.now + t1_r6.m.p P.txnMaxLead 0 * 1000000000 ∧
    ((t1_r6.m.ctx 0).acts.any Action.isGrant = false ∨ t1_r6.m.inSample 100000 = false) ∧
    Ready (Instr.txnCommit h 0 false (some 100000) []) t1_r6 := by
  refine ⟨?_, ?_, ?_, ?_, (by simp [pwa]), ?_, ?_, (ready_of ?_), ?_, ?_, ?_, ?_, (ready_of ?_), ?_, ?_, ?_,
    (Or.inr ⟨4, rfl⟩), (ready_of ?_), ?_, ?_, ?_, ?_, ?_, ?_, ?_, (ready_of ?_), ?_, ?_, ?_, ?_, ?_, (ready_of
    ?_), ?_, ?_, ?_, ?_, ?_, ?_, ?_, ?_, ?_, (ready_of ?_)⟩ <;> decide +kernel

theorem witness_TxnCommands_2 :
    t1_r7.m.alive = true ∧
    t1_r7.m.txn.ctx.length = 256 ∧
    t1_r7.m.md.comm = true ∧
    (t1_r7.m.ctx 0).st = 1 ∧
    (t1_r7.m.ctx 0).fab = [] ∧
    (t1_r7.m.ctx 0).acts ≠ [] ∧
    (0 < t1_r7.m.now + 100000 ∨ t1_r7.m.now + t1_r7.m.p P.txnMaxLead 0 * 1000000000 < 0 ∨ (t1_r7.m.ctx 0).acts.any Action.isGrant = true ∧ t1_r7.m.inSample 0 = true) ∧
    Ready (Instr.txnCommit h 0 false (some 0) []) t1_r7 ∧
    t1_r8.m.alive = true ∧
    t1_r8.m.txn.ctx.length = 256 ∧
    t1_r8.m.md.comm = true ∧
    (t1_r8.m.ctx 0).st = 1 ∧
    (t1_r8.m.ctx 0).fab = [] ∧
    (t1_r8.m.ctx 0).acts ≠ [] ∧
    (if (t1_r8.m.ctx 0).acts.any Action.isGrant = true then t1_r8.m.afterSample (ceilUs (t1_r8.m.now + 100000)) else ceilUs (t1_r8.m.now + 100000)) = 100000 ∧
    Ready (Instr.txnCommit h 0 false none []) t1_r8 ∧
    t1_r9.m.alive = true ∧
    t1_r9.m.txn.ctx.length = 256 ∧
    t1_r9.m.md.comm = true ∧
    (t1_r9.m.ctx 0).st = 1 ∧
    ((t1_r9.m.ctx 0).acts ≠ [] ∨ (t1_r9.m.ctx 0).fab ≠ []) ∧
    t1_r9.m.fab.addr = none ∧
    Ready (Instr.txnCommit h 0 true none []) t1_r9 ∧
    t1_r10.m.alive = true ∧
    t1_r10.m.txn.ctx.length = 256 ∧
    t1_r10.m.md.comm = true ∧
    ((t1_r10.m.ctx 0).st = 1 ∨ (t1_r10.m.ctx 0).st = 2 ∧ (t1_r10.m.ctx 0).final = false ∧ t1_r10.m.now < (t1_r10.m.ctx 0).c - 50000) ∧
    Ready (Instr.txnAbort h 0) t1_r10 ∧
    t1_r11.m.alive = true ∧
    t1_r11.m.txn.ctx.length = 256 ∧
    t1_r11.m.md.comm = true ∧
    ((t1_r11.m.ctx 0).st = 1 ∨ (t1_r11.m.ctx 0).st = 7) ∧
    Ready (Instr.txnClose h 0) t1_r11 ∧
    t1_r12.m.alive = true ∧
    t1_r12.m.txn.ctx.length = 256 ∧
    t1_r12.m.md.reads = true ∧
    ((t1_r12.m.ctx 0).out = none ∨ (t1_r12.m.ctx 0).st ≠ 7 ∧ ((t1_r12.m.ctx 0).st ≠ 1 ∨ (t1_r12.m.ctx 0).reusable = false)) ∧
    Ready (Instr.txnResult h 0) t1_r12 ∧
    t1_r13.m.alive = true ∧
    t1_r13.m.txn.ctx.length = 256 ∧
    t1_r13.m.md.reads = true ∧
    Ready (Instr.txnStatus h 0) t1_r13 ∧
    t1_r14.m.alive = true ∧
    1 < 256 ∧
    t1_r14.m.txn.ctx.length = 256 ∧
    t1_r14.m.md.comm = true ∧
    (List.find? (fun k => decide ((t1_r14.m.ctx k).st = 0)) (upto 256) = some 1) ∧
    Ready (Instr.txnOpen h true) t1_r14 := by
  refine ⟨?_, ?_, ?_, ?_, ?_, ?_, ?_, (ready_of ?_), ?_, ?_, ?_, ?_, ?_, ?_, ?_, (ready_of ?_), ?_, ?_, ?_,
    ?_, ?_, ?_, (ready_of ?_), ?_, ?_, ?_, ?_, (ready_of ?_), ?_, ?_, ?_, ?_, (ready_of ?_), ?_, ?_, ?_, ?_,
    (ready_of ?_), ?_, ?_, ?_, (ready_of ?_), ?_, ?_, ?_, ?_, ?_, (ready_of ?_)⟩ <;> decide +kernel

theorem witness_TxnCommands_3 :
    t1_r15.m.alive = true ∧
    t1_r15.m.txn.ctx.length = 256 ∧
    t1_r15.m.md.comm = true ∧
    (t1_r15.m.ctx 1).st ≠ 1 ∧
    Ready (Instr.txnFabricAction h 1 fa1) t1_r15 ∧
    t1_r16.m.alive = true ∧
    t1_r16.m.txn.ctx.length = 256 ∧
    t1_r16.m.md.comm = true ∧
    (t1_r16.m.ctx 1).st ≠ 1 ∧
    Ready (Instr.txnCommit h 1 true none []) t1_r16 ∧
    t1_r17.m.alive = true ∧
    t1_r17.m.txn.ctx.length = 256 ∧
    t1_r17.m.md.comm = true ∧
    (t1_r17.m.ctx 1).st ≠ 1 ∧
    Ready (Instr.txnCommit h 1 false none []) t1_r17 ∧
    t1_r18.m.alive = true ∧
    t1_r18.m.txn.ctx.length = 256 ∧
    t1_r18.m.md.comm = true ∧
    ((t1_r18.m.ctx 1).st = 0 ∨ (t1_r18.m.ctx 1).st = 4 ∨ (t1_r18.m.ctx 1).st = 6) ∧
    Ready (Instr.txnAbort h 1) t1_r18 ∧
    t1_r19.m.alive = true ∧
    t1_r19.m.txn.ctx.length = 256 ∧
    t1_r19.m.md.comm = true ∧
    (t1_r19.m.ctx 1).st ≠ 1 ∧
    (t1_r19.m.ctx 1).st ≠ 7 ∧
    Ready (Instr.txnClose h 1) t1_r19 ∧
    t1_r20.m.alive = true ∧
    256 ≤ 256 ∧
    t1_r20.m.md.comm = true ∧
    Ready (Instr.txnFabricAction h 256 fa1) t1_r20 ∧
    t1_r21.m.alive = true ∧
    t1_r21.m.md.comm = true ∧
    Ready (Instr.txnCommit h 256 true none []) t1_r21 ∧
    t1_r22.m.alive = true ∧
    t1_r22.m.md.comm = true ∧
    Ready (Instr.txnAbort h 256) t1_r22 ∧
    t1_r23.m.alive = true ∧
    t1_r23.m.md.comm = true ∧
    Ready (Instr.txnClose h 256) t1_r23 ∧
    t1_r24.m.alive = true ∧
    t1_r24.m.md.reads = true ∧
    Ready (Instr.txnResult h 256) t1_r24 ∧
    t1_r25.m.alive = true ∧
    t1_r25.m.md.reads = true ∧
    Ready (Instr.txnStatus h 256) t1_r25 := by
  refine ⟨?_, ?_, ?_, ?_, (ready_of ?_), ?_, ?_, ?_, ?_, (ready_of ?_), ?_, ?_, ?_, ?_, (ready_of ?_), ?_, ?_,
    ?_, ?_, (ready_of ?_), ?_, ?_, ?_, ?_, ?_, (ready_of ?_), ?_, ?_, ?_, (ready_of ?_), ?_, ?_, (ready_of
    ?_), ?_, ?_, (ready_of ?_), ?_, ?_, (ready_of ?_), ?_, ?_, (ready_of ?_), ?_, ?_, (ready_of ?_)⟩ <;>
    decide +kernel

theorem witness_TxnCommands_4 :
    t2_r1.m.alive = true ∧
    t2_r1.m.txn.ctx.length = 256 ∧
    t2_r1.m.md.comm = true ∧
    (t2_r1.m.ctx 0).st = 1 ∧
    ((t2_r1.m.ctx 0).acts ≠ [] ∨ (t2_r1.m.ctx 0).fab ≠ []) ∧
    t2_r1.m.fab.addr = some 7 ∧
    ¬7 ∈ [] ∧
    Ready (Instr.txnCommit h 0 true none []) t2_r1 ∧
    t2_r2.m.alive = true ∧
    t2_r2.m.txn.ctx.length = 256 ∧
    t2_r2.m.md.comm = true ∧
    (t2_r2.m.ctx 0).st = 1 ∧
    ((t2_r2.m.ctx 0).acts ≠ [] ∨ (t2_r2.m.ctx 0).fab ≠ []) ∧
    t2_r2.m.fab.addr = some 7 ∧
    7 ∈ [7] ∧
    (([7].all fun a => decide (a = 7) || (t2_r2.m.route a).isSome) = true) ∧
    none.getD (t2_r2.m.now + t2_r2.m.p P.txnFabricLead 0 * 1000000) = 20000000 ∧
    Ready (Instr.txnCommit h 0 true none [7]) t2_r2 ∧
    t2_r2.m.trusted = true ∧
    t2_r2.m.now + t2_r2.m.p P.txnFabricLead 0 * 1000000 ≤ 20000000 ∧
    20000000 ≤ t2_r2.m.now + t2_r2.m.p P.txnMaxLead 0 * 1000000000 ∧
    ((match t2_r2.m.voteFault 20000000 (t2_r2.m.ctx 0).fab true with | some r => some r | none => Option.map (fun x => 7) ((t2_r2.m.restBy (rawAt t2_r2.m.time 20000000)).actsFault (rawAt t2_r2.m.time 20000000) none 0 (t2_r2.m.ctx 0).acts)) = none) ∧
    t2_r3.m.alive = true ∧
    t2_r3.m.txn.ctx.length = 256 ∧
    t2_r3.m.md.comm = true ∧
    (t2_r3.m.ctx 0).st = 1 ∧
    ((t2_r3.m.ctx 0).acts ≠ [] ∨ (t2_r3.m.ctx 0).fab ≠ []) ∧
    t2_r3.m.fab.addr = some 7 ∧
    (([7].all fun a => decide (a = 7) || (t2_r3.m.route a).isSome) = true) ∧
    (some 0).getD (t2_r3.m.now + t2_r3.m.p P.txnFabricLead 0 * 1000000) = 0 ∧
    Ready (Instr.txnCommit h 0 true (some 0) [7]) t2_r3 ∧
    t2_r3.m.trusted = true ∧
    (0 < t2_r3.m.now + t2_r3.m.p P.txnFabricLead 0 * 1000000 ∨ t2_r3.m.now + t2_r3.m.p P.txnMaxLead 0 * 1000000000 < 0) ∧
    t2_r4.m.alive = true ∧
    t2_r4.m.txn.ctx.length = 256 ∧
    t2_r4.m.md.comm = true ∧
    (t2_r4.m.ctx 0).st = 1 ∧
    ((t2_r4.m.ctx 0).acts ≠ [] ∨ (t2_r4.m.ctx 0).fab ≠ []) ∧
    t2_r4.m.fab.addr = some 7 ∧
    7 ∈ [7, 8] ∧
    (([7, 8].all fun a => decide (a = 7) || (t2_r4.m.route a).isSome) = false) ∧
    Ready (Instr.txnCommit h 0 true none [7, 8]) t2_r4 ∧
    t2_r5.m.alive = true ∧
    t2_r5.m.txn.ctx.length = 256 ∧
    t2_r5.m.md.reads = true ∧
    (t2_r5.m.ctx 0).out = some { status := 64, detail := 0, result := 0, late := 500 } ∧
    ((t2_r5.m.ctx 0).st = 7 ∨ (t2_r5.m.ctx 0).st = 1 ∧ (t2_r5.m.ctx 0).reusable = true) ∧
    Ready (Instr.txnResult h 0) t2_r5 := by
  refine ⟨?_, ?_, ?_, ?_, ?_, ?_, ?_, (ready_of ?_), ?_, ?_, ?_, ?_, ?_, ?_, ?_, ?_, ?_, (ready_of ?_), ?_,
    ?_, ?_, ?_, ?_, ?_, ?_, ?_, ?_, ?_, ?_, ?_, (ready_of ?_), ?_, ?_, ?_, ?_, ?_, ?_, ?_, ?_, ?_, ?_,
    (ready_of ?_), ?_, ?_, ?_, ?_, ?_, (ready_of ?_)⟩ <;> decide +kernel

theorem witness_TxnCommands_5 :
    t3_r1.m.alive = true ∧
    t3_r1.m.txn.ctx.length = 256 ∧
    t3_r1.m.md.comm = true ∧
    (t3_r1.m.ctx 0).st = 1 ∧
    64 ≤ (t3_r1.m.ctx 0).acts.length ∧
    Ready (Instr.txnStageAction h 0 pwa false) t3_r1 ∧
    t3_r2.m.alive = true ∧
    t3_r2.m.txn.ctx.length = 256 ∧
    t3_r2.m.md.comm = true ∧
    (t3_r2.m.ctx 0).st = 1 ∧
    (t3_r2.m.ctx 0).fab ≠ [] ∧
    Ready (Instr.txnCommit h 0 false none []) t3_r2 ∧
    t4_r1.m.alive = true ∧
    t4_r1.m.txn.ctx.length = 256 ∧
    t4_r1.m.md.comm = true ∧
    (∀ (k : Nat), k < 256 → (t4_r1.m.ctx k).st ≠ 0) ∧
    Ready (Instr.txnOpen h true) t4_r1 ∧
    t4_r2.m.alive = true ∧
    t4_r2.m.txn.ctx.length = 256 ∧
    t4_r2.m.md.comm = true ∧
    (t4_r2.m.ctx 0).st = 1 ∧
    (t4_r2.m.ctx 0).fab = [] ∧
    (t4_r2.m.ctx 0).acts = [] ∧
    Ready (Instr.txnCommit h 0 true none []) t4_r2 ∧
    t6_r1.m.alive = true ∧
    t6_r1.m.txn.ctx.length = 256 ∧
    t6_r1.m.md.comm = true ∧
    ((t6_r1.m.ctx 0).st = 5 ∨ (t6_r1.m.ctx 0).st = 7 ∨ (t6_r1.m.ctx 0).st = 3 ∧ ((t6_r1.m.ctx 0).coord = false ∨ (t6_r1.m.ctx 0).ackBy.isSome = true) ∨ (t6_r1.m.ctx 0).st = 2 ∧ ((t6_r1.m.ctx 0).final = true ∨ (t6_r1.m.ctx 0).c - 50000 ≤ t6_r1.m.now)) ∧
    Ready (Instr.txnAbort h 0) t6_r1 ∧
    t13_r1.m.alive = true ∧
    t13_r1.m.txn.ctx.length = 256 ∧
    t13_r1.m.md.comm = true ∧
    (t13_r1.m.ctx 0).st = 3 ∧
    (t13_r1.m.ctx 0).coord = true ∧
    (t13_r1.m.ctx 0).ackBy = none ∧
    (t13_r1.m.ctx 0).key = some { coord := 7, epoch := 1, serial := 9 } ∧
    Ready (Instr.txnAbort h 0) t13_r1 ∧
    t16_r1.m.alive = true ∧
    t16_r1.m.axes.contains 0 = true ∧
    t16_r1.m.locked (Res.axis 0) = true ∧
    t16_r1.m.md.faultClear = true ∧
    Ready (Instr.stop h 0) t16_r1 ∧
    t16_r2.m.alive = true ∧
    t16_r2.m.axes.contains 0 = true ∧
    t16_r2.m.locked (Res.axis 0) = true ∧
    t16_r2.m.md.faultClear = true ∧
    Ready (Instr.axisFaultClear h 0 true) t16_r2 := by
  refine ⟨?_, ?_, ?_, ?_, ?_, (ready_of ?_), ?_, ?_, ?_, ?_, ?_, (ready_of ?_), ?_, ?_, ?_, ?_, (ready_of ?_),
    ?_, ?_, ?_, ?_, ?_, ?_, (ready_of ?_), ?_, ?_, ?_, ?_, (ready_of ?_), ?_, ?_, ?_, ?_, ?_, ?_, ?_,
    (ready_of ?_), ?_, ?_, ?_, ?_, (ready_of ?_), ?_, ?_, ?_, ?_, (ready_of ?_)⟩ <;> decide +kernel

theorem witness_TxnCommands_6 :
    t16_r3.m.alive = true ∧
    t16_r3.m.axes.contains 0 = true ∧
    t16_r3.m.locked (Res.axis 0) = true ∧
    t16_r3.m.md.maint = true ∧
    Ready (Instr.phaseTest h 0) t16_r3 ∧
    t16_r4.m.alive = true ∧
    t16_r4.m.axes.contains 0 = true ∧
    t16_r4.m.locked (Res.axis 0) = true ∧
    t16_r4.m.md.maint = true ∧
    Ready (Instr.jog h 0 true true 0) t16_r4 ∧
    t16_r5.m.alive = true ∧
    t16_r5.m.md.maint = true ∧
    (if true = true then t16_r5.m.portals.contains 0 else t16_r5.m.axes.contains 0) = true ∧
    (((t16_r5.m.homeAxes 0 true).any fun i => t16_r5.m.locked (Res.axis i)) = true) ∧
    Ready (Instr.home h 0 true) t16_r5 ∧
    t16_r6.m.alive = true ∧
    t16_r6.m.portals.contains 0 = true ∧
    t16_r6.m.locked (Res.portal 0) = true ∧
    (t16_r6.m.md.faultClear = true ∨ t16_r6.m.md = Mode.egress) ∧
    Ready (Instr.portalReset h 0) t16_r6 ∧
    t16_r7.m.alive = true ∧
    t16_r7.m.md.faultClear = true ∧
    t16_r7.m.locked (Res.ls 2) = true ∧
    Ready (Instr.lsSet h 2 0) t16_r7 ∧
    t16_r8.m.alive = true ∧
    t16_r8.m.md.faultClear = true ∧
    t16_r8.m.locked (Res.ls 2) = true ∧
    Ready (Instr.lsClear h 2) t16_r8 ∧
    t16_r9.m.alive = true ∧
    t16_r9.m.md.comm = true ∧
    t16_r9.m.locked (Res.point 384) = true ∧
    Ready (Instr.pointWrite h 384 100000) t16_r9 ∧
    t17_r1.m.alive = true ∧
    t17_r1.m.axes.contains 0 = true ∧
    t17_r1.m.locked (Res.axis 0) = true ∧
    t17_r1.m.md.active = true ∧
    Ready (Instr.move h 0 mvA) t17_r1 ∧
    t17_r2.m.alive = true ∧
    t17_r2.m.axes.contains 0 = true ∧
    t17_r2.m.locked (Res.axis 0) = true ∧
    t17_r2.m.md.active = true ∧
    Ready (Instr.setMotionLimits h 0 { speed := 5, accel := 0, decel := 0, jerk := 0 }) t17_r2 ∧
    t17_r3.m.alive = true ∧
    t17_r3.m.portals.contains 0 = true ∧
    t17_r3.m.locked (Res.portal 0) = true ∧
    t17_r3.m.md.active = true ∧
    Ready (Instr.portalRequest h 0 0) t17_r3 := by
  refine ⟨?_, ?_, ?_, ?_, (ready_of ?_), ?_, ?_, ?_, ?_, (ready_of ?_), ?_, ?_, ?_, ?_, (ready_of ?_), ?_, ?_,
    ?_, ?_, (ready_of ?_), ?_, ?_, ?_, (ready_of ?_), ?_, ?_, ?_, (ready_of ?_), ?_, ?_, ?_, (ready_of ?_),
    ?_, ?_, ?_, ?_, (ready_of ?_), ?_, ?_, ?_, ?_, (ready_of ?_), ?_, ?_, ?_, ?_, (ready_of ?_)⟩ <;> decide
    +kernel

theorem witness_TxnCommands_7 :
    t17_r4.m.alive = true ∧
    t17_r4.m.md.active = true ∧
    (((maskSides 1).any fun x => t17_r4.m.locked (Res.side x)) = true) ∧
    Ready (Instr.sideRelease h 1 false) t17_r4 ∧
    t19_r1.m.alive = true ∧
    t19_r1.m.txn.ctx.length = 256 ∧
    t19_r1.m.md.comm = true ∧
    (t19_r1.m.ctx 0).st = 1 ∧
    ((t19_r1.m.ctx 0).acts ≠ [] ∨ (t19_r1.m.ctx 0).fab ≠ []) ∧
    t19_r1.m.fab.addr = some 7 ∧
    (([7].all fun a => decide (a = 7) || (t19_r1.m.route a).isSome) = true) ∧
    none.getD (t19_r1.m.now + t19_r1.m.p P.txnFabricLead 0 * 1000000) = 20000000 ∧
    Ready (Instr.txnCommit h 0 true none [7]) t19_r1 ∧
    t19_r1.m.trusted = false := by
  refine ⟨?_, ?_, ?_, (ready_of ?_), ?_, ?_, ?_, ?_, ?_, ?_, ?_, ?_, (ready_of ?_), ?_⟩ <;> decide +kernel

end C13

namespace C13b
open C05 C07 C13

def n0 : Mod := md .service m0
/-- PENDING at 1 s with a host point to write -/
def pend : Ctx := { Ctx.reset with st := 2, c := 1000000000, acts := [pwa], order := 1 }
def y1 : State := u (ct pend n0)
def y2 : State := u (ct { pend with acts := [.pointWrite 5 1], reusable := true } n0)
def y3 : State := u (ct { pend with final := true } n0)
def y4 : State := u (ct { pend with st := 5, final := true, lateAt := some 300000000 } n0)
def y5 : State := u (ct { Ctx.reset with st := 4, c := 1000, v := 500000, key := some k0, addr := 7, parts := [7] } (locked n0))
def y6 : State := u (ct { Ctx.reset with st := 6, c := 1000, q := 1000000, key := some k0, addr := 7, parts := [7], fab := [⟨2, 0x180, 5⟩] } (locked n0))
def y7 : State := u (ct { Ctx.reset with st := 7, c := 1000, q := 1000000, key := some k0 } (locked n0))
def crd : Ctx := { Ctx.reset with st := 3, c := 300000000, v := 250000000, q := 1000000, coord := true, key := some ⟨7, 3, 0⟩, addr := 7, parts := [7, 8], votes := [(7, true, 0)] }
def y8 : State := u (ct crd (locked n0))
def y9 : State := u (ct crd (par P.twinRole 0 1 (locked n0)))
def y10 : State := u (ct { crd with ackBy := some 20000 } (locked n0))
def y11 : State := u (ct { crd with st := 5, decision := some true } (locked n0))
def y12 : State := u (locked n0)
def y13 : State := u ({ locked n0 with time := { (locked n0).time with trusted := true } }.onTxn (fun t => { t with noVotes := [(⟨5,3,1⟩, 2)] }))
def y14 : State := u (ct { Ctx.reset with st := 4, c := 300000000, v := 250000000, q := 1000000, key := some k0, addr := 7, parts := [7], fab := [⟨2, 0x180, 5⟩] } (locked n0))
def y15 : State := u (ct { crd with parts := [7, 8, 9] } (locked n0))
/-- a SAFE frame that passes the black channel of `locked` -/
def fm (type : Nat) : Frame :=
  let f : Frame := { version := 1, type := type, origin := 8, noAddr := false, dest := 0xFFFF, hops := 3, flags := 3, seq := 1, payload := [], epoch := 3, safeSeq := 1, tsNs := 0, tsSec := 0, safeCrc := 0 }
  { f with safeCrc := safeCrc (safeBytes f 0) }
def y16 : State := u (ct { pend with final := true, acts := [.sideRelease 1 true] } n0)
def y17 : State := u (let m := par P.zeroSpeedPair 0 3 (par P.releaseLPair 0 4 (md .activeClosed m0)); ct { pend with final := true, acts := [.sideRelease 1 true] } { m with saf := { m.saf with pairs := m.saf.pairs.map (fun q => { q with reed := 1, bore := 1 }) } })
def pf (m : Mod) : Mod := { m with tw := { m.tw with pairFormed := true, peerSerial := 1 } }
def y19 : State := u (pf (locked (md .shadow m0)))
def y23 : State := { y12 with m := { y12.m with gov := { y12.m.gov with suspended := upd y12.m.gov.suspended 1 (fun _ => true) } } }
def y24 : State := u (ct { crd with votes := [(7, true, 0), (8, true, 0)] } (locked n0))
def y27 : State := u (ct { crd with ackBy := some 0 } (locked n0))
def y28 : State := u (ct { crd with c := 0, decision := some true, st := 5 } (locked n0))

theorem witness_TxnProtocol_1 :
    y1.m.alive = true ∧
    0 < 256 ∧
    y1.m.txn.ctx.length = 256 ∧
    ((y1.m.ctx 0).st = 2 ∨ (y1.m.ctx 0).st = 5) ∧
    (y1.m.ctx 0).final = false ∧
    (((upto 256).all fun k => decide (k = 0) || (y1.m.ctx k).final || (y1.m.ctx k).st != 2 && (y1.m.ctx k).st != 5 || decide ((y1.m.ctx k).c ≠ (y1.m.ctx 0).c) || decide ((y1.m.ctx 0).order < (y1.m.ctx k).order)) = true) ∧
    (y1.m.ctx 0).st = 2 ∧
    ((y1.m.advance (rawAt y1.m.time ((y1.m.ctx 0).c - 50000))).simFinals 0 (y1.m.ctx 0).c (rawAt y1.m.time (y1.m.ctx 0).c)).actsFault (rawAt y1.m.time (y1.m.ctx 0).c) (y1.m.ctx 0).table 0 (y1.m.ctx 0).acts = none ∧
    ((y1.m.ctx 0).final = false ∨ (y1.m.ctx 0).lateAt = none) ∧
    (y1.m.ctx 0).st ≠ 6 ∧
    ((y1.m.ctx 0).st ≠ 7 ∨ (y1.m.ctx 0).key = none ∨ (y1.m.ctx 0).coord = true) ∧
    y1.m.runs 2 = true ∧
    txnTaken y1.m (fm 48) 49 = false ∧
    txnTaken y1.m (fm 48) 50 = false ∧
    txnTaken y1.m (fm 48) 51 = false ∧
    txnTaken y1.m (fm 48) 52 = false ∧
    txnTaken y1.m (fm 49) 48 = false ∧
    txnTaken y1.m (fm 48) 48 = true ∧
    (List.filter (fun a => decide (y1.m.fab.addr = some a) || y1.m.tw.pairFormed && decide (y1.m.peerAddr = some a)) [7] = []) ∧
    (([] : List Nat) = [] ∨ y1.m.md ≠ Mode.shadow ∧ (y1.m.ctxByKey k0 fun _ => true).isSome = true ∨ y1.m.md = Mode.shadow ∧ y1.m.tw.pairFormed = false) ∧
    txnTaken y1.m (fm 49) 49 = true ∧
    ((y1.m.ctxByKey k0 fun y => y.coord && decide (y.st = 3) && y.ackBy.isNone) = none) ∧
    txnTaken y1.m (fm 50) 50 = true ∧
    ((y1.m.ctxByKey k0 fun y => !y.coord && (decide (y.st = 4) || decide (y.st = 6))) = none) ∧
    txnTaken y1.m (fm 51) 51 = true ∧
    y1.m.heldDecision k0 = none ∧
    txnTaken y1.m (fm 52) 52 = true ∧
    ((y1.m.ctxByKey k0 fun y => !y.coord && decide (y.st = 6)) = none) ∧
    ((y1.m.ctx 0).st ≠ 3 ∨ (y1.m.ctx 0).coord = false ∨ (y1.m.ctx 0).ackBy.isSome = true) ∧
    (y1.m.ctx 0).ackBy = none ∧
    (y1.m.ctx 0).key = none ∧
    8 < 256 ∧
    ((y1.m.ctx 8).st ≠ 2 ∧ (y1.m.ctx 8).st ≠ 5 ∨ (y1.m.ctx 8).final = true) ∧
    (y1.m.ctx 8).st ≠ 2 ∧
    (y1.m.ctx 8).st ≠ 4 ∧
    (y1.m.ctx 8).st ≠ 5 ∧
    y2.m.alive = true ∧
    y2.m.txn.ctx.length = 256 ∧
    ((y2.m.ctx 0).st = 2 ∨ (y2.m.ctx 0).st = 5) ∧
    (y2.m.ctx 0).final = false ∧
    (((upto 256).all fun k => decide (k = 0) || (y2.m.ctx k).final || (y2.m.ctx k).st != 2 && (y2.m.ctx k).st != 5 || decide ((y2.m.ctx k).c ≠ (y2.m.ctx 0).c) || decide ((y2.m.ctx 0).order < (y2.m.ctx k).order)) = true) ∧
    (y2.m.ctx 0).st = 2 ∧
    ((y2.m.advance (rawAt y2.m.time ((y2.m.ctx 0).c - 50000))).simFinals 0 (y2.m.ctx 0).c (rawAt y2.m.time (y2.m.ctx 0).c)).actsFault (rawAt y2.m.time (y2.m.ctx 0).c) (y2.m.ctx 0).table 0 (y2.m.ctx 0).acts = some (0, 6146) := by
  refine ⟨?_, ?_, ?_, ?_, ?_, ?_, ?_, ?_, ?_, ?_, ?_, ?_, ?_, ?_, ?_, ?_, ?_, ?_, ?_, ?_, ?_, ?_, ?_, ?_, ?_,
    ?_, ?_, ?_, ?_, ?_, ?_, ?_, ?_, ?_, ?_, ?_, ?_, ?_, ?_, ?_, ?_, ?_, ?_⟩ <;> decide +kernel

theorem witness_TxnProtocol_2 :
    y3.m.alive = true ∧
    y3.m.txn.ctx.length = 256 ∧
    (y3.m.ctx 0).st = 2 ∧
    (y3.m.ctx 0).final = true ∧
    (y3.m.ctx 0).lateAt = none ∧
    (y3.m.ctx 0).skips = [] ∧
    (y3.m.ctx 0).fab = [] ∧
    y3.m.txn.held = [] ∧
    y3.m.txn.heldActs = [] ∧
    (((upto 256).all fun k => decide (k = 0) || !(y3.m.ctx k).final) = true) ∧
    (y3.m.ctx 0).acts = [Action.pointWrite 384 5] ∧
    isHostPoint 384 = true ∧
    384 - 384 < y3.m.fab.host.length ∧
    y4.m.alive = true ∧
    y4.m.txn.ctx.length = 256 ∧
    (y4.m.ctx 0).final = true ∧
    (y4.m.ctx 0).lateAt = some 300000000 ∧
    (y4.m.ctx 0).skips = [] ∧
    (y4.m.ctx 0).acts = [Action.pointWrite 384 5] ∧
    (y4.m.ctx 0).fab = [] ∧
    y4.m.txn.held = [] ∧
    y4.m.txn.heldActs = [] ∧
    384 - 384 < y4.m.fab.host.length ∧
    y5.m.alive = true ∧
    y5.m.txn.ctx.length = 256 ∧
    (y5.m.ctx 0).st = 4 ∧
    (y5.m.ctx 0).key = some k0 ∧
    y5.m.runs 2 = true ∧
    txnTaken y5.m (fm 48) 48 = true ∧
    (List.filter (fun a => decide (y5.m.fab.addr = some a) || y5.m.tw.pairFormed && decide (y5.m.peerAddr = some a)) [7] = [7]) ∧
    [7] ≠ [] ∧
    y5.m.md ≠ Mode.shadow ∧
    ((y5.m.ctxByKey { coord := 7, epoch := 3, serial := 0 } fun _ => true) = none) ∧
    ((y5.m.txn.noVotes.any fun y => decide (y.fst = { coord := 7, epoch := 3, serial := 0 })) = false) ∧
    (y5.m.voteFault 2000000 [{ kind := 1, w7 := 1 + 256, w8 := 0 }] ((upto 256).any fun i => decide ((y5.m.ctx i).st = 0)) = some 4) ∧
    txnTaken y5.m (fm 50) 50 = true ∧
    ((y5.m.ctxByKey k0 fun y => !y.coord && (decide (y.st = 4) || decide (y.st = 6))) = some 0) ∧
    (y5.m.ctx 0).c - 50000 < y5.m.now ∧
    (y5.m.ctx 0).coord = false ∧
    y5.m.now < (y5.m.ctx 0).v ∧
    y6.m.alive = true ∧
    y6.m.txn.ctx.length = 256 ∧
    (y6.m.ctx 0).st = 6 ∧
    y6.m.runs 2 = true ∧
    txnTaken y6.m (fm 52) 52 = true ∧
    ((y6.m.ctxByKey k0 fun y => !y.coord && decide (y.st = 6)) = some 0) ∧
    (y6.m.ctx 0).c - 50000 < y6.m.now := by
  refine ⟨?_, ?_, ?_, ?_, ?_, ?_, ?_, ?_, ?_, ?_, ?_, ?_, ?_, ?_, ?_, ?_, ?_, ?_, ?_, ?_, ?_, ?_, ?_, ?_, ?_,
    ?_, ?_, ?_, ?_, ?_, ?_, ?_, ?_, ?_, ?_, ?_, ?_, ?_, ?_, ?_, ?_, ?_, ?_, ?_, ?_, ?_, ?_⟩ <;> decide +kernel

theorem witness_TxnProtocol_3 :
    (y6.m.ctx 0).key = some k0 ∧
    (y6.m.ctx 0).coord = false ∧
    y7.m.alive = true ∧
    y7.m.txn.ctx.length = 256 ∧
    (y7.m.ctx 0).st = 7 ∧
    (y7.m.ctx 0).key.isSome = true ∧
    (y7.m.ctx 0).coord = false ∧
    (y7.m.ctx 0).key = some k0 ∧
    (y7.m.ctx 0).st ≠ 6 ∧
    ((y7.m.ctx 0).st ≠ 4 ∨ (y7.m.ctx 0).v ≤ y7.m.now) ∧
    y8.m.alive = true ∧
    y8.m.txn.ctx.length = 256 ∧
    y8.m.runs 2 = true ∧
    txnTaken y8.m (fm 49) 49 = true ∧
    ((y8.m.ctxByKey { coord := 7, epoch := 3, serial := 0 } fun y => y.coord && decide (y.st = 3) && y.ackBy.isNone) = some 0) ∧
    (¬0 ∈ (y8.m.ctx 0).parts ∨ ((y8.m.ctx 0).votes.any fun z => z.fst == 0) = true ∨ (y8.m.ctx 0).v ≤ y8.m.now) ∧
    (((y8.m.ctx 0).votes.all fun z => z.snd.fst) = true) ∧
    8 ∈ (y8.m.ctx 0).parts ∧
    (((y8.m.ctx 0).votes.any fun z => z.fst == 8) = false) ∧
    y8.m.now < (y8.m.ctx 0).v ∧
    (∀ (a : Nat), a ∈ (y8.m.ctx 0).parts → a = 8 ∨ ((y8.m.ctx 0).votes.any fun z => z.fst == a) = true) ∧
    y8.m.twinConf = false ∧
    (y8.m.ctx 0).key = some { coord := 7, epoch := 3, serial := 0 } ∧
    (y8.m.ctx 0).st = 3 ∧
    (y8.m.ctx 0).coord = true ∧
    (y8.m.ctx 0).ackBy = none ∧
    ((List.filter (fun a => !(y8.m.ctx 0).votes.any fun v => v.fst == a) (y8.m.ctx 0).parts).min? = some 8) ∧
    (y8.m.ctx 0).decision = none ∧
    y9.m.alive = true ∧
    y9.m.txn.ctx.length = 256 ∧
    y9.m.runs 2 = true ∧
    txnTaken y9.m (fm 49) 49 = true ∧
    ((y9.m.ctxByKey { coord := 7, epoch := 3, serial := 0 } fun y => y.coord && decide (y.st = 3) && y.ackBy.isNone) = some 0) ∧
    (((y9.m.ctx 0).votes.all fun z => z.snd.fst) = true) ∧
    8 ∈ (y9.m.ctx 0).parts ∧
    (((y9.m.ctx 0).votes.any fun z => z.fst == 8) = false) ∧
    y9.m.now < (y9.m.ctx 0).v ∧
    (∀ (a : Nat), a ∈ (y9.m.ctx 0).parts → a = 8 ∨ ((y9.m.ctx 0).votes.any fun z => z.fst == a) = true) ∧
    y9.m.twinConf = true ∧
    y10.m.alive = true ∧
    y10.m.txn.ctx.length = 256 ∧
    (y10.m.ctx 0).key = some { coord := 7, epoch := 3, serial := 0 } ∧
    (y10.m.ctx 0).ackBy = some 20000 ∧
    y10.m.raw < 20000 ∧
    (y10.m.ctx 0).coord = true ∧
    (y10.m.ctx 0).decision = none ∧
    ((y10.m.ctx 0).st ≠ 3 ∨ (y10.m.ctx 0).ackBy.isSome = true) := by
  refine ⟨?_, ?_, ?_, ?_, ?_, ?_, ?_, ?_, ?_, ?_, ?_, ?_, ?_, ?_, ?_, ?_, ?_, ?_, ?_, ?_, ?_, ?_, ?_, ?_, ?_,
    ?_, ?_, ?_, ?_, ?_, ?_, ?_, ?_, ?_, ?_, ?_, ?_, ?_, ?_, ?_, ?_, ?_, ?_, ?_, ?_, ?_, ?_⟩ <;> decide +kernel

theorem witness_TxnProtocol_4 :
    y11.m.alive = true ∧
    y11.m.txn.ctx.length = 256 ∧
    ((y11.m.ctx 0).st = 2 ∨ (y11.m.ctx 0).st = 5) ∧
    (y11.m.ctx 0).final = false ∧
    (((upto 256).all fun k => decide (k = 0) || (y11.m.ctx k).final || (y11.m.ctx k).st != 2 && (y11.m.ctx k).st != 5 || decide ((y11.m.ctx k).c ≠ (y11.m.ctx 0).c) || decide ((y11.m.ctx 0).order < (y11.m.ctx k).order)) = true) ∧
    (y11.m.ctx 0).st = 5 ∧
    y11.m.runs 2 = true ∧
    txnTaken y11.m (fm 51) 51 = true ∧
    y11.m.heldDecision { coord := 7, epoch := 3, serial := 0 } = some true ∧
    (y11.m.ctx 0).key = some { coord := 7, epoch := 3, serial := 0 } ∧
    (y11.m.ctx 0).coord = true ∧
    (y11.m.ctx 0).decision = some true ∧
    y11.m.now < (y11.m.ctx 0).c ∧
    y12.m.alive = true ∧
    y12.m.txn.ctx.length = 256 ∧
    y12.m.runs 2 = true ∧
    txnTaken y12.m (fm 48) 48 = true ∧
    (List.filter (fun a => decide (y12.m.fab.addr = some a) || y12.m.tw.pairFormed && decide (y12.m.peerAddr = some a)) [7] = [7]) ∧
    y12.m.md ≠ Mode.shadow ∧
    ((y12.m.ctxByKey k0 fun _ => true) = none) ∧
    ((y12.m.txn.noVotes.any fun y => decide (y.fst = k0)) = false) ∧
    (List.find? (fun i => decide ((y12.m.ctx i).st = 0)) (upto 256) = some 0) ∧
    y12.m.voteFault 2000000 [{ kind := 2, w7 := 384, w8 := 5 }] true = none ∧
    y13.m.alive = true ∧
    y13.m.txn.ctx.length = 256 ∧
    y13.m.runs 2 = true ∧
    txnTaken y13.m (fm 48) 48 = true ∧
    (List.filter (fun a => decide (y13.m.fab.addr = some a) || y13.m.tw.pairFormed && decide (y13.m.peerAddr = some a)) [7] = [7]) ∧
    y13.m.md ≠ Mode.shadow ∧
    ((y13.m.ctxByKey { coord := 5, epoch := 3, serial := 1 } fun _ => true) = none) ∧
    (List.find? (fun y => decide (y.fst = { coord := 5, epoch := 3, serial := 1 })) y13.m.txn.noVotes = some ({ coord := 5, epoch := 3, serial := 1 }, 2)) ∧
    y14.m.alive = true ∧
    y14.m.txn.ctx.length = 256 ∧
    y14.m.runs 2 = true ∧
    txnTaken y14.m (fm 50) 50 = true ∧
    ((y14.m.ctxByKey k0 fun y => !y.coord && (decide (y.st = 4) || decide (y.st = 6))) = some 0) ∧
    y14.m.now ≤ (y14.m.ctx 0).c - 50000 ∧
    y15.m.alive = true ∧
    y15.m.txn.ctx.length = 256 ∧
    y15.m.runs 2 = true ∧
    txnTaken y15.m (fm 49) 49 = true ∧
    ((y15.m.ctxByKey { coord := 7, epoch := 3, serial := 0 } fun y => y.coord && decide (y.st = 3) && y.ackBy.isNone) = some 0) ∧
    (((y15.m.ctx 0).votes.all fun z => z.snd.fst) = true) ∧
    8 ∈ (y15.m.ctx 0).parts ∧
    (((y15.m.ctx 0).votes.any fun z => z.fst == 8) = false) ∧
    y15.m.now < (y15.m.ctx 0).v ∧
    (∃ a, a ∈ (y15.m.ctx 0).parts ∧ a ≠ 8 ∧ ((y15.m.ctx 0).votes.any fun z => z.fst == a) = false) := by
  refine ⟨?_, ?_, ?_, ?_, ?_, ?_, ?_, ?_, ?_, ?_, ?_, ?_, ?_, ?_, ?_, ?_, ?_, ?_, ?_, ?_, ?_, ?_, ?_, ?_, ?_,
    ?_, ?_, ?_, ?_, ?_, ?_, ?_, ?_, ?_, ?_, ?_, ?_, ?_, ?_, ?_, ?_, ?_, ?_, ?_, ?_, ?_, ?_⟩ <;> decide +kernel

theorem witness_TxnProtocol_5 :
    y16.m.alive = true ∧
    y16.m.txn.ctx.length = 256 ∧
    (y16.m.ctx 0).st = 2 ∧
    (y16.m.ctx 0).final = true ∧
    (y16.m.ctx 0).lateAt = none ∧
    (y16.m.ctx 0).skips = [] ∧
    (y16.m.ctx 0).fab = [] ∧
    y16.m.txn.held = [] ∧
    y16.m.txn.heldActs = [] ∧
    (((upto 256).all fun k => decide (k = 0) || !(y16.m.ctx k).final) = true) ∧
    (y16.m.ctx 0).acts = [Action.sideRelease (2 ^ sideNum Side.L) true] ∧
    (y16.m.ctx 0).key = none ∧
    (y16.m.advance (rawAt y16.m.time (y16.m.ctx 0).c)).grantOk Side.L = false ∧
    y17.m.alive = true ∧
    y17.m.txn.ctx.length = 256 ∧
    (y17.m.ctx 0).st = 2 ∧
    (y17.m.ctx 0).final = true ∧
    (y17.m.ctx 0).lateAt = none ∧
    (y17.m.ctx 0).skips = [] ∧
    (y17.m.ctx 0).fab = [] ∧
    y17.m.txn.held = [] ∧
    y17.m.txn.heldActs = [] ∧
    (((upto 256).all fun k => decide (k = 0) || !(y17.m.ctx k).final) = true) ∧
    (y17.m.ctx 0).acts = [Action.sideRelease (2 ^ sideNum Side.L) true] ∧
    (y17.m.ctx 0).key = none ∧
    (y17.m.advance (rawAt y17.m.time (y17.m.ctx 0).c)).grantOk Side.L = true ∧
    y19.m.alive = true ∧
    y19.m.txn.ctx.length = 256 ∧
    y19.m.runs 2 = true ∧
    txnTaken y19.m (fm 48) 48 = true ∧
    (List.filter (fun a => decide (y19.m.fab.addr = some a) || y19.m.tw.pairFormed && decide (y19.m.peerAddr = some a)) [7] = [7]) ∧
    y19.m.md = Mode.shadow ∧
    y19.m.tw.pairFormed = true ∧
    y23.m.alive = true ∧
    y23.m.txn.ctx.length = 256 ∧
    y23.m.runs 2 = false ∧
    y24.m.alive = true ∧
    y24.m.txn.ctx.length = 256 ∧
    (y24.m.ctx 0).key = some { coord := 7, epoch := 3, serial := 0 } ∧
    (y24.m.ctx 0).st = 3 ∧
    (y24.m.ctx 0).coord = true ∧
    (y24.m.ctx 0).ackBy = none ∧
    (((y24.m.ctx 0).parts.all fun a => (y24.m.ctx 0).votes.any fun v => v.fst == a) = true) ∧
    y27.m.alive = true ∧
    y27.m.txn.ctx.length = 256 ∧
    (y27.m.ctx 0).key = some { coord := 7, epoch := 3, serial := 0 } ∧
    (y27.m.ctx 0).ackBy = some 0 ∧
    0 ≤ y27.m.raw := by
  refine ⟨?_, ?_, ?_, ?_, ?_, ?_, ?_, ?_, ?_, ?_, ?_, ?_, ?_, ?_, ?_, ?_, ?_, ?_, ?_, ?_, ?_, ?_, ?_, ?_, ?_,
    ?_, ?_, ?_, ?_, ?_, ?_, ?_, ?_, ?_, ?_, ?_, ?_, ?_, ?_, ?_, ?_, ?_, ?_, ?_, ?_, ?_, ?_, ?_⟩ <;> decide
    +kernel

theorem witness_TxnProtocol_6 :
    y28.m.alive = true ∧
    y28.m.txn.ctx.length = 256 ∧
    (y28.m.ctx 0).key = some { coord := 7, epoch := 3, serial := 0 } ∧
    (y28.m.ctx 0).coord = true ∧
    (y28.m.ctx 0).decision = some true ∧
    (y28.m.ctx 0).c ≤ y28.m.now := by
  refine ⟨?_, ?_, ?_, ?_, ?_, ?_⟩ <;> decide +kernel

end C13b

namespace C14
open C05 C07

/-- one twin of a configured pair, both lanes up -/
def twm (x : Mode) (f : TwinSt → TwinSt) : Mod :=
  let m := (md x (par P.twinPeerSerial 0 5 (par P.twinRole 0 1 m0))).onTw (fun t => { t with
    linkUp := true, pairFormed := true, heart := true, lanes := [(true, 0), (true, 0)], peerMode := 6, peerHealth := 2 ^ 31 + 32767, peerSerial := 5 })
  m.onTw f
def mirAx (b : Bool) : MirAxis := ⟨100, 0, 0, 0, 3, 0, 0, 0, 0, b, none, 0, 0, none⟩
def mirF (b ok : Bool) : MirFrame := ⟨ok, 1000, 4, 7, [mirAx b], [⟨1, 0, false, 2, 3, 0, 0, 0, 0, [none, some 0], [], [4], []⟩], (true, false), [false], [], [1, 2], [some (1, 500), none], (true, false), [⟨3, 2, false, [.lsSet 2 1], [9], [], 5000, 0, 0, false, none, 0, [], [], none, true, 2, none⟩], [false]⟩
def hel (s : State) (maj : Nat) : PeerHello := ⟨5, 2, s.m.serialLo, none, s.m.pairCheck s.par, maj, 2, none, 6⟩
def w1 : State := u m0
def w2 : State := u (twm .service id)
def w4 : State := u (twm .shadow (fun t => { t with orphan := true, mir := some (mirF true true) }))
def w5 : State := u (twm .shadow (fun t => { t with mir := some (mirF true true), mirAt := 100, lastHeart := 100 }))
def w9 : State := u ((twm .service (fun t => { t with pairFormed := false })).setNeg 3 (some (1,2)))

theorem witness_TwinLink :
    w1.m.alive = true ∧
    negotiate (ownVer 3) { major := (hel w2 1).major, minor := (hel w2 1).minor, prev := (hel w2 1).prevMinor } = some (1, 2) ∧
    (w1.m.twinConf = false ∨ w1.m.beats = false) ∧
    (2 ≤ 0 ∨ w1.m.tw.linkUp = false) ∧
    0 < w1.m.tw.lanes.length ∧
    (w1.m.tw.lanes.getD 0 (false, 0)).fst = false ∧
    w1.m.tw.heart = false ∧
    ((mirF true true).crcOk = false ∨ w1.m.tw.pairFormed = false ∨ w1.m.md ≠ Mode.shadow) ∧
    (w1.m.md ≠ Mode.shadow ∨ w1.m.tw.heart = false ∨ w1.m.tw.late = true ∨ w1.m.tw.mir = none) ∧
    (w1.m.md ≠ Mode.shadow ∨ w1.m.tw.orphan = true) ∧
    (w1.m.runs 8 = false ∨ w1.m.md ≠ Mode.shadow ∨ w1.m.tw.pairFormed = false ∨ w1.m.axes.contains 0 = false) ∧
    w2.m.alive = true ∧
    0 < 2 ∧
    w2.m.tw.linkUp = true ∧
    0 < w2.m.tw.lanes.length ∧
    (w2.m.tw.lanes.getD 0 (false, 0)).fst = true ∧
    w2.m.tw.heart = true ∧
    w4.m.alive = true ∧
    (mirF true true).crcOk = true ∧
    w4.m.tw.pairFormed = true ∧
    w4.m.md = Mode.shadow ∧
    w4.m.tw.heart = true ∧
    w4.m.tw.late = false ∧
    w4.m.tw.mir.isSome = true ∧
    w4.m.runs 8 = true ∧
    w4.m.axes.contains 0 = true ∧
    0 < w4.m.ob.ax.length ∧
    w5.m.alive = true ∧
    0 < w5.m.io.ls.length ∧
    w5.m.md = Mode.shadow ∧
    w5.m.tw.orphan = false ∧
    w9.m.alive = true ∧
    w9.m.twinConf = true ∧
    w9.m.beats = true := by
  refine ⟨?_, ?_, ?_, ?_, ?_, ?_, ?_, ?_, ?_, ?_, ?_, ?_, ?_, ?_, ?_, ?_, ?_, ?_, ?_, ?_, ?_, ?_, ?_, ?_, ?_,
    ?_, ?_, ?_, ?_, ?_, ?_, ?_, ?_, ?_⟩ <;> decide +kernel

end C14

namespace C14b
open C05 C07 C14

def peerUp (m : Mod) : Mod := m.onFab (fun f => { f with
  addr := some 7, routes := [⟨8, 5, false, 1⟩], image := [⟨8, 0x013, 1, ((twm .shadow id).advance ((twm .shadow id).pn P.twinOrphanTimeout 0 * 200000)).now - 1, some (((twm .shadow id).advance 100).now - 1), 1, true⟩] })
def axz (f : Axis → Axis) (m : Mod) : Mod := { m with ax := m.ax.map f }
def x1 : State := u (twm .shadow (fun t => { t with mir := some (mirF true true), checkAt := some 4000, lastHeart := 100, orphan := true }))
def x2 : State := u (twm .shadow (fun t => { t with mir := some (mirF true true), checkAt := some 4000, lastHeart := 100 }))
def x3 : State := u (axz (fun a => { a with iso := .opening }) (twm .activeClosed (fun t => { t with checkAt := some 4000, mir := some (mirF true true), resume := [0, 1], closeBy := some 5000 })))
def x4 : State := u (twm .activeClosed id)
def x5 : State := u (peerUp (twm .shadow (fun t => { t with noTorque := true })))
def x6 : State := u (twm .shadow (fun t => { t with noTorque := true }))
def x7 : State := u (twm .shadow (fun t => { t with orphan := true }))
def x8 : State := u (axz (fun a => { a with torque := true, iso := .closed }) (twm .activeClosed (fun t => { t with handover := some (70000, 4, true) })))
def x9 : State := u (twm .degraded (fun t => { t with handover := some (70000, 1, true) }))
def x10 : State := u (par P.twinReturnDelay 0 10 (twm .shadow (fun t => { t with healthySince := some 5, mir := some { mirF false true with timed := [] } })))
def x12 : State := u (par P.twinRole 0 2 (twm .activeClosed id))
def x13 : State := u (peerUp { twm .starting (fun t => { t with waitUntil := some 100 }) with start := { m0.start with step := 13 } })
def x14 : State := u { twm .starting (fun t => { t with waitUntil := some 100 }) with start := { m0.start with step := 13 } }
def x18 : State := u (twm .activeClosed (fun t => { t with handover := some (70000, 1, false) }))
def x20 : State := u (par P.twinRole 0 2 (twm .service id))
def lnk (m : Mod) : Mod := { m with tw := { m.tw with linkUp := false } }
def x21 : State := u (lnk x13.m)
def x22 : State := u (lnk x14.m)

theorem witness_TwinSwitchOver_1 :
    x1.m.alive = true ∧
    x1.m.tw.checkAt = some 4000 ∧
    (List.filter (fun (x : Nat × Nat × Nat) => x1.m.mirTorque.contains x.fst && decide (10 < x.snd.snd)) [] = []) ∧
    x1.m.md = Mode.shadow ∧
    (List.filter (fun (x : Nat × Nat × Nat) => x1.m.mirTorque.contains x.fst && decide (10 < x.snd.snd)) [(0, 1, 11)] = [(0, 1, 11)]) ∧
    [(0, 1, 11)] ≠ [] ∧
    x1.m.tw.noTorque = false ∧
    x1.m.tw.orphan = true ∧
    x1.m.peerAlive = false ∧
    x1.m.mirTorque ≠ [] ∧
    x1.m.tw.pairFormed = true ∧
    x1.m.tw.handover = none ∧
    x1.m.primary = true ∧
    (x1.m.tw.healthySince = none ∨ x1.m.md ≠ Mode.shadow ∨ x1.m.pn P.twinReturnDelay 0 = 0 ∨ x1.m.tw.returnInhibit = true ∨ x1.m.bothLanes = false ∨ x1.m.mirMode < 7 ∨ 9 < x1.m.mirMode ∨ x1.m.mirQuiet = false ∨ x1.m.txnOpen = true) ∧
    (x1.m.allPassed = false ∨ (x1.m.ligUp && x1.m.tw.pairFormed) = true ∨ x1.m.tw.waitUntil = none) ∧
    x2.m.alive = true ∧
    x2.m.md = Mode.shadow ∧
    x2.m.tw.noTorque = false ∧
    (x2.m.tw.orphan = false ∨ x2.m.peerAlive = true) ∧
    x3.m.alive = true ∧
    x3.m.tw.checkAt = some 4000 ∧
    (List.filter (fun (x : Nat × Nat × Nat) => x3.m.mirTorque.contains x.fst && decide (10 < x.snd.snd)) [] = []) ∧
    x3.m.md ≠ Mode.shadow ∧
    (List.filter (fun (x : Nat × Nat × Nat) => x3.m.mirTorque.contains x.fst && decide (10 < x.snd.snd)) [(0, 1, 11)] = [(0, 1, 11)]) ∧
    (x3.m.md ≠ Mode.shadow ∨ x3.m.tw.pairFormed = false) ∧
    x3.m.tw.closeBy = some 5000 ∧
    x4.m.alive = true ∧
    x4.m.tw.checkAt = none ∧
    x4.m.md ≠ Mode.shadow ∧
    x4.m.tw.closeBy = none ∧
    x5.m.alive = true ∧
    x5.m.md = Mode.shadow ∧
    x5.m.tw.noTorque = true ∧
    (x5.m.advance (x5.m.tw.lastHeart + x5.m.pn P.twinOrphanTimeout 0 * 200000)).peerAlive = true ∧
    x6.m.alive = true ∧
    x6.m.md = Mode.shadow ∧
    x6.m.tw.noTorque = true ∧
    (x6.m.advance (x6.m.tw.lastHeart + x6.m.pn P.twinOrphanTimeout 0 * 200000)).peerAlive = false ∧
    x7.m.alive = true ∧
    x7.m.md = Mode.shadow ∧
    x7.m.tw.noTorque = false ∧
    x7.m.tw.orphan = true ∧
    x7.m.peerAlive = false ∧
    x7.m.mirTorque = [] ∧
    x8.m.alive = true ∧
    x8.m.tw.handover = some (70000, 4, true) ∧
    2 < 4 := by
  refine ⟨?_, ?_, ?_, ?_, ?_, ?_, ?_, ?_, ?_, ?_, ?_, ?_, ?_, ?_, ?_, ?_, ?_, ?_, ?_, ?_, ?_, ?_, ?_, ?_, ?_,
    ?_, ?_, ?_, ?_, ?_, ?_, ?_, ?_, ?_, ?_, ?_, ?_, ?_, ?_, ?_, ?_, ?_, ?_, ?_, ?_, ?_, ?_⟩ <;> decide +kernel

theorem witness_TwinSwitchOver_2 :
    x9.m.alive = true ∧
    x9.m.tw.handover = some (70000, 1, true) ∧
    1 ≤ 2 ∧
    x10.m.alive = true ∧
    x10.m.primary = true ∧
    x10.m.tw.healthySince = some 5 ∧
    x10.m.md = Mode.shadow ∧
    x10.m.pn P.twinReturnDelay 0 ≠ 0 ∧
    x10.m.tw.returnInhibit = false ∧
    x10.m.bothLanes = true ∧
    7 ≤ x10.m.mirMode ∧
    x10.m.mirMode ≤ 9 ∧
    x10.m.mirQuiet = true ∧
    x10.m.txnOpen = false ∧
    x12.m.alive = true ∧
    x12.m.primary = false ∧
    x12.m.canRelinquish = true ∧
    x12.m.bothLanes = true ∧
    x12.m.quiet = true ∧
    x12.m.txnOpen = false ∧
    ((x12.m.io.ls.all fun c => c.timed.isNone) = true) ∧
    x18.m.alive = true ∧
    x18.m.tw.handover = some (70000, 1, false) ∧
    x20.m.alive = true ∧
    x20.m.primary = false ∧
    (x20.m.canRelinquish = false ∨ x20.m.bothLanes = false ∨ x20.m.quiet = false ∨ x20.m.txnOpen = true ∨ (x20.m.io.ls.all fun c => c.timed.isNone) = false) ∧
    x21.m.alive = true ∧
    x21.m.allPassed = true ∧
    (x21.m.ligUp && x21.m.tw.pairFormed) = false ∧
    x21.m.tw.waitUntil = some 100 ∧
    (x21.m.advance 100).peerAlive = true ∧
    x22.m.alive = true ∧
    x22.m.allPassed = true ∧
    (x22.m.ligUp && x22.m.tw.pairFormed) = false ∧
    x22.m.tw.waitUntil = some 100 ∧
    (x22.m.advance 100).peerAlive = false := by
  refine ⟨?_, ?_, ?_, ?_, ?_, ?_, ?_, ?_, ?_, ?_, ?_, ?_, ?_, ?_, ?_, ?_, ?_, ?_, ?_, ?_, ?_, ?_, ?_, ?_, ?_,
    ?_, ?_, ?_, ?_, ?_, ?_, ?_, ?_, ?_, ?_, ?_⟩ <;> decide +kernel

end C14b

namespace C15
open C05 C07

def rcx (x : Mode) (f : RecSt → RecSt) : State := u ((md x m0).onRec f)
def rec1 : JRec := ⟨0, 1, 0, 0, 0, .bytes []⟩
def rec2 : JRec := ⟨0, 2, 0, 0, 0, .bytes []⟩
def ev1 : Ev := ⟨0x3001, 0, 0, 0, [], 1⟩
def v1 : State := rcx .service (fun r => { r with staged := [rec2, rec1] })
def v2 : State := rcx .service (fun r => { r with memFault := true, toTwin := [rec1, rec2] })
def v3 : State := rcx .service (fun r => { r with blk := [ev1] })
def v4 : State := rcx .activeClosed (fun r => { r with blk := [ev1], dropped := 2, inc := { r.inc with st := .recording, copying := true, pre := [.ev ev1], preLen := 32 } })
def v5 : State := rcx .activeClosed (fun r => { r with inc := { r.inc with st := .recording, post := List.replicate 915456 (.ev ev1) } })
def v6 : State := rcx .service (fun r => { r with inc := { r.inc with st := .full, no := 4 } })
def v7 : State := u ((md .service m0).onTw (fun t => { t with pairFormed := true }))
def v8 : State := u (par P.incidentTriggers 0 7 (md .activeClosed m0))
def hangx (k : Nat) (s : State) : State := { s with m := { s.m with gov := { s.m.gov with suspended := upd s.m.gov.suspended (k-1) (fun _ => true) } } }
def v10 : State := hangx 8 (hangx 6 v2)
def v14 : State := { v1 with m := ({ v1.m with host := { v1.m.host with ops := List.replicate 8 ⟨some h, .discover, 0, 0, none, none, false, 0, 0⟩ } }).onTw (fun t => { t with pairFormed := true }) }
def v1_r1 : State := fetched h (descRecorderStatus) v1
def v1_r2 : State := fetched h (descJournalRead 0 0 0) v1
def v1_r3 : State := fetched h (descJournalRead 0 0 256) v1
def v1_r4 : State := fetched h (descJournalRead 0 1 256) v1
def v1_r5 : State := fetched h (descJournalRead 2 0 0) v1
def v1_r6 : State := fetched h (descIncidentRead 0 0 0) v1
def v1_r7 : State := fetched h (descIncidentRead 0 1 0) v1
def v1_r8 : State := fetched h (descCountersRead 0) v1
def v1_r9 : State := fetched h (descCountersRead 1200) v1
def v1_r10 : State := fetched h (descSentinelRead 0) v1
def v1_r11 : State := fetched h (descSentinelRead 4096) v1
def v1_r12 : State := fetched h (descIncidentTrigger) v1
def v1_r13 : State := fetched h (descIncidentRearm 0) v1
def v1_r14 : State := fetched h (descSentinelClear) v1
def v2_r1 : State := fetched h (descJournalRead 0 0 256) v2
def v2_r2 : State := fetched h (descIncidentRead 0 0 0) v2
def v2_r3 : State := fetched h (descSentinelClear) v2
def v4_r1 : State := fetched h (descIncidentTrigger) v4
def v4_r2 : State := fetched h (descIncidentRearm 0) v4
def v6_r1 : State := fetched h (descIncidentRearm 0) v6
def v6_r2 : State := fetched h (descIncidentRearm 4) v6
def v8_r1 : State := fetched h (descIncidentTrigger) v8
def v14_r1 : State := fetched h (descJournalRead 0 0 256) v14

theorem units_replicate (e : Ev) (n a : Nat) :
    (List.replicate n (IEnt.ev e)).foldl (fun n e => n + e.units) a = a + n := by
  induction n generalizing a with
  | zero => simp
  | succ n ih => rw [List.replicate_succ, List.foldl_cons, ih]; simp only [IEnt.units]; omega

theorem post_full : postUnits < unitsOf v5.m.recd.inc.post + unitsOf v5.m.recd.inc.stage + 9 := by
  have hp : v5.m.recd.inc.post = List.replicate 915456 (.ev ev1) := rfl
  rw [hp, unitsOf, units_replicate, postUnits]
  omega

theorem witness_Recorder_1 :
    v1.m.alive = true ∧
    v1.m.recd.memFault = false ∧
    v1.m.runs 6 = true ∧
    takeStaged true v1.m.recd.staged = some ({ seq := 0, type := 1, source := 0, flags := 0, raw := 0, body := JBody.bytes [] }, [{ seq := 0, type := 2, source := 0, flags := 0, raw := 0, body := JBody.bytes [] }]) ∧
    writeFault 3 [] = none ∧
    writeFault 3 [false, false] = some 0 ∧
    (v1.m.recd.blk = [] ∨ v1.m.runs 6 = false) ∧
    (v1.m.runs 6 = false ∨ v1.m.recd.inc.copying = false) ∧
    (v1.m.recd.inc.st ≠ IncSt.recording ∨ unitsOf v1.m.recd.inc.post + unitsOf v1.m.recd.inc.stage + 9 ≤ postUnits) ∧
    v1.m.recd.life ≠ [] ∧
    (v1.m.tw.pairFormed = false ∨ v1.m.recd.memFault = true) ∧
    v1_r1.m.alive = true ∧
    v1_r1.m.md.reads = true ∧
    Ready (Instr.recorderStatus h) v1_r1 ∧
    v1_r2.m.alive = true ∧
    v1_r2.m.md.reads = true ∧
    Ready (Instr.journalRead h 0 0 0) v1_r2 ∧
    0 < 2 ∧
    (0 = 0 ∨ 0 % 256 ≠ 0) ∧
    v1_r3.m.alive = true ∧
    v1_r3.m.md.reads = true ∧
    Ready (Instr.journalRead h 0 0 256) v1_r3 ∧
    256 ≠ 0 ∧
    256 % 256 = 0 ∧
    v1_r3.m.recd.memFault = false ∧
    0 ≤ (v1_r3.m.recd.ring (decide (0 = 0))).head ∧
    v1_r3.m.host.ops.length < 8 ∧
    v1_r4.m.alive = true ∧
    v1_r4.m.md.reads = true ∧
    Ready (Instr.journalRead h 0 1 256) v1_r4 ∧
    v1_r4.m.recd.memFault = false ∧
    (v1_r4.m.recd.ring (decide (0 = 0))).head < 1 ∧
    v1_r5.m.alive = true ∧
    v1_r5.m.md.reads = true ∧
    Ready (Instr.journalRead h 2 0 0) v1_r5 ∧
    2 ≤ 2 ∧
    v1_r6.m.alive = true ∧
    v1_r6.m.md.reads = true ∧
    Ready (Instr.incidentRead h 0 0 0) v1_r6 ∧
    0 < 3 ∧
    0 % 32 = 0 ∧
    v1_r6.m.recd.memFault = false ∧
    v1_r7.m.alive = true ∧
    v1_r7.m.md.reads = true ∧
    Ready (Instr.incidentRead h 0 1 0) v1_r7 ∧
    (3 ≤ 0 ∨ 1 % 32 ≠ 0) := by
  refine ⟨?_, ?_, ?_, ?_, ?_, ?_, ?_, ?_, ?_, ?_, ?_, ?_, ?_, (ready_of ?_), ?_, ?_, (ready_of ?_), ?_, ?_,
    ?_, ?_, (ready_of ?_), ?_, ?_, ?_, ?_, ?_, ?_, ?_, (ready_of ?_), ?_, ?_, ?_, ?_, (ready_of ?_), ?_, ?_,
    ?_, (ready_of ?_), ?_, ?_, ?_, ?_, ?_, (ready_of ?_), ?_⟩ <;> decide +kernel

theorem witness_Recorder_2 :
    v1_r8.m.alive = true ∧
    v1_r8.m.md.reads = true ∧
    1199 < 1200 ∧
    Ready (Instr.countersRead h 0) v1_r8 ∧
    v1_r9.m.alive = true ∧
    v1_r9.m.md.reads = true ∧
    1200 ≤ 1200 ∧
    Ready (Instr.countersRead h 1200) v1_r9 ∧
    v1_r10.m.alive = true ∧
    v1_r10.m.md.reads = true ∧
    4095 < 4096 ∧
    Ready (Instr.sentinelRead h 0) v1_r10 ∧
    v1_r11.m.alive = true ∧
    v1_r11.m.md.reads = true ∧
    4096 ≤ 4096 ∧
    Ready (Instr.sentinelRead h 4096) v1_r11 ∧
    v1_r12.m.alive = true ∧
    v1_r12.m.md.comm = true ∧
    Ready (Instr.incidentTrigger h) v1_r12 ∧
    (v1_r12.m.pn P.incidentTriggers 0).testBit 3 = true ∧
    v1_r12.m.recd.inc.st = IncSt.armed ∧
    v1_r13.m.alive = true ∧
    v1_r13.m.md.comm = true ∧
    (v1_r13.m.recd.inc.st = IncSt.armed ∨ v1_r13.m.recd.inc.st = IncSt.off) ∧
    Ready (Instr.incidentRearm h 0) v1_r13 ∧
    v1_r14.m.alive = true ∧
    v1_r14.m.md.comm = true ∧
    v1_r14.m.md = Mode.service ∧
    v1_r14.m.recd.memFault = false ∧
    Ready (Instr.sentinelClear h) v1_r14 ∧
    v2.m.alive = true ∧
    v2.m.recd.memFault = true ∧
    v2.m.runs 8 = true ∧
    v2_r1.m.alive = true ∧
    v2_r1.m.md.reads = true ∧
    Ready (Instr.journalRead h 0 0 256) v2_r1 ∧
    v2_r1.m.recd.memFault = true ∧
    v2_r2.m.alive = true ∧
    v2_r2.m.md.reads = true ∧
    Ready (Instr.incidentRead h 0 0 0) v2_r2 ∧
    v2_r2.m.recd.memFault = true ∧
    v2_r3.m.alive = true ∧
    v2_r3.m.md.comm = true ∧
    (v2_r3.m.md ≠ Mode.service ∨ v2_r3.m.recd.memFault = true) ∧
    Ready (Instr.sentinelClear h) v2_r3 := by
  refine ⟨?_, ?_, ?_, (ready_of ?_), ?_, ?_, ?_, (ready_of ?_), ?_, ?_, ?_, (ready_of ?_), ?_, ?_, ?_,
    (ready_of ?_), ?_, ?_, (ready_of ?_), ?_, ?_, ?_, ?_, ?_, (ready_of ?_), ?_, ?_, ?_, ?_, (ready_of ?_),
    ?_, ?_, ?_, ?_, ?_, (ready_of ?_), ?_, ?_, ?_, (ready_of ?_), ?_, ?_, ?_, ?_, (ready_of ?_)⟩ <;> decide
    +kernel

theorem witness_Recorder_3 :
    v3.m.alive = true ∧
    v3.m.recd.memFault = false ∧
    v3.m.runs 6 = true ∧
    takeStaged true v3.m.recd.staged = none ∧
    v3.m.recd.blk ≠ [] ∧
    v4.m.alive = true ∧
    v4.m.runs 6 = true ∧
    v4.m.recd.inc.copying = true ∧
    v4_r1.m.alive = true ∧
    v4_r1.m.md.comm = true ∧
    Ready (Instr.incidentTrigger h) v4_r1 ∧
    (v4_r1.m.pn P.incidentTriggers 0).testBit 3 = true ∧
    (v4_r1.m.recd.inc.st = IncSt.recording ∨ v4_r1.m.recd.inc.st = IncSt.full) ∧
    v4_r2.m.alive = true ∧
    v4_r2.m.md.comm = true ∧
    v4_r2.m.recd.inc.st = IncSt.recording ∧
    Ready (Instr.incidentRearm h 0) v4_r2 ∧
    v5.m.alive = true ∧
    v5.m.recd.inc.st = IncSt.recording ∧
    postUnits < unitsOf v5.m.recd.inc.post + unitsOf v5.m.recd.inc.stage + 9 ∧
    v6_r1.m.alive = true ∧
    v6_r1.m.md.comm = true ∧
    v6_r1.m.recd.inc.st = IncSt.full ∧
    0 ≠ v6_r1.m.recd.inc.no ∧
    Ready (Instr.incidentRearm h 0) v6_r1 ∧
    v6_r2.m.alive = true ∧
    v6_r2.m.md.comm = true ∧
    v6_r2.m.recd.inc.st = IncSt.full ∧
    4 = v6_r2.m.recd.inc.no ∧
    Ready (Instr.incidentRearm h 4) v6_r2 ∧
    v7.m.alive = true ∧
    v7.m.tw.pairFormed = true ∧
    v7.m.recd.memFault = false ∧
    fitBytes 256 [3] = (3 : Byte) :: List.replicate 255 0 ∧
    v8_r1.m.alive = true ∧
    v8_r1.m.md.comm = true ∧
    ((v8_r1.m.pn P.incidentTriggers 0).testBit 3 = false ∨ v8_r1.m.recd.inc.st = IncSt.off) ∧
    Ready (Instr.incidentTrigger h) v8_r1 ∧
    v10.m.alive = true ∧
    (if v10.m.recd.memFault = true then v10.m.runs 8 else v10.m.runs 6) = false ∧
    v10.m.runs 6 = false ∧
    v14_r1.m.alive = true ∧
    v14_r1.m.md.reads = true ∧
    Ready (Instr.journalRead h 0 0 256) v14_r1 ∧
    v14_r1.m.recd.memFault = false ∧
    0 ≤ (v14_r1.m.recd.ring (decide (0 = 0))).head ∧
    8 ≤ v14_r1.m.host.ops.length := by
  refine ⟨?_, ?_, ?_, ?_, ?_, ?_, ?_, ?_, ?_, ?_, (ready_of ?_), ?_, ?_, ?_, ?_, ?_, (ready_of ?_), ?_, ?_,
    post_full, ?_, ?_, ?_, ?_, (ready_of ?_), ?_, ?_, ?_, ?_, (ready_of ?_), ?_, ?_, ?_, ?_, ?_, ?_, ?_,
    (ready_of ?_), ?_, ?_, ?_, ?_, ?_, (ready_of ?_), ?_, ?_, ?_⟩ <;> decide +kernel

end C15

namespace C16
open C05 C07

def sv (x : Mode) (f : SecSt → SecSt) : Mod :=
  ((md x m0).onSec (fun z => { z with svcLink := true, conn := true, ver := some (3, 1), roles := some 15 })).onSec f
def v1 : State := u (md .service m0)
def v2 : State := u (sv .service (fun z => { z with lockUntil := some 77, debugUntil := some 99 }))
def v3 : State := u (sv .service id)
def v4 : State := u (sv .service (fun z => { z with roles := none }))
def v5 : State := u (sv .commission (fun z => { z with roles := some 1 }))
def v6 : State := u { sv .commission id with nv := { m0.nv with computed := some 9 } }
def v7 : State := u { par P.zeroSpeedPair 0 3 (sv .commission id) with nv := { m0.nv with computed := some 9 } }
def v7b : State := { v7 with par := (upto 4).foldl (fun l i => PStore.set l P.portalEnable i 0) [] }
def v8 : State := u (sv .starting id)
def v9 : State := u (sv .activeClosed (fun z => { z with roles := some 8 }))
def crt : Cert := ⟨2, 0, 2 ^ 33 + 5, 0, 7, 0, 0, [], []⟩
def opz (n : Nat) (k : LongKind) (m : Mod) : Mod := { m with host := { m.host with ops := List.replicate n ⟨none, k, 0, 0, none, none, false, 0, 0⟩ } }
def v10 : State := u (opz 8 .discover (sv .service id))
def v11 : State := u (opz 1 (.auth crt 0 true []) (sv .service (fun z => { z with consecFails := 4 })))
def ops (k : LongKind) (m : Mod) : Mod := { m with host := { m.host with ops := [⟨none, k, 0, 0, none, none, false, 0, 0⟩] } }
def ih : ImgHdr := ⟨0x494C564F, 2,0,0xD516,3,0,100,0,5,0,8,3,1,0,0,[],[]⟩
def ih0 : ImgHdr := { ih with magic := 0 }
def fw (x : Mode) (f : UpdSt → UpdSt) : Mod := { sv x id with fw := f m0.fw }
def w1 : State := u (fw .service id)
def w2 : State := u (fw .service (fun z => { z with stage := 2, source := 1, target := some 1, offset := 1024, fileLen := 1024 + 8 + 29792 }))
def w3 : State := u (fw .service (fun z => { z with stage := 2, source := 1, target := some 1, offset := 30816, fileLen := 30824 }))
def w4 : State := u (fw .service (fun z => { z with stage := 3, source := 1, target := some 1 }))
def bv (b : Bool) : Boot := { Boot.reset with trial := b, previous := some 1, slots := [⟨2, some ih, []⟩, ⟨2, some ih, []⟩, ⟨2, none, []⟩] }
def w5 : State := { u (fw .service (fun z => { z with stage := 5, source := 1, target := some 1 })) with boot := bv false }
def w6 : State := { u (fw .activeReleased (fun z => { z with stage := 5, source := 1, target := some 1 })) with boot := bv false }
def w7 : State := { u (fw .service (fun z => { z with stage := 6, source := 1, trial := true, windowEnd := some 500 })) with boot := bv true }
def w9 : State := u ((fw .service id).onTw (fun t => { t with pairFormed := true }))
def w10 : State := { u ((fw .service (fun z => { z with stage := 2, source := 2 })).onTw (fun t => { t with pairFormed := true })) with boot := bv true }
def tp (m : Mod) : Mod := m.onTw (fun t => { t with pairFormed := true, heart := true, peerHealth := 2^31+32767, peerMode := 6 })
def w14 : State := u (fw .service (fun z => { z with stage := 3, source := 1, target := some 1 }) |> opz 8 .discover)
def w15 : State := u { fw .service id with sec := { (fw .service id).sec with roles := some 1 } }
def w17 : State := u { fw .starting (fun z => { z with source := 1 }) with sec := (fw .service id).sec }
def w21 : State := u (tp (fw .shadow (fun z => { z with stage := 2, source := 2, target := some 1, offset := 1024, fileLen := 30824 })))
def w22 : State := u (tp (fw .shadow (fun z => { z with stage := 3, source := 2, target := some 1 })))
def w23 : State := { u (tp (fw .shadow (fun z => { z with stage := 5, source := 2, target := some 1 }))) with boot := bv false }
def w24 : State := u (opz 1 .updateVerify (fw .service (fun z => { z with stage := 4, source := 1, target := some 1 })))
def w25 : State := { w24 with boot := { bv false with slots := [⟨2, some ih, []⟩, ⟨2, none, []⟩, ⟨2, none, []⟩] } }
def w31 : State := u (md .service m0)
def v1_r1 : State := fetched h (descAttest [3] 0) v1
def v1_r2 : State := fetched h (descAttest [3] 50368) v1
def v1_r3 : State := fetched h (descCertRead 0) v1
def v1_r4 : State := fetched h (descCertRead 50368) v1
def v10_r1 : State := fetched h (descAttest [3] 50368) v10

theorem witness_ServicePort_1 :
    v1.m.alive = true ∧
    v1.m.sec.conn = false ∧
    negotiate (ownVer 4) { major := 0, minor := 0, prev := none } = none ∧
    v1.m.sec.lockUntil = none ∧
    v1.m.sec.debugUntil = none ∧
    v1.m.svcUp = false ∧
    v1_r1.m.alive = true ∧
    v1_r1.m.md.reads = true ∧
    Ready (Instr.attest (Src.ring h) [3] 0) v1_r1 ∧
    50367 < 50368 ∧
    v1_r2.m.alive = true ∧
    v1_r2.m.md.reads = true ∧
    Ready (Instr.attest (Src.ring h) [3] 50368) v1_r2 ∧
    50368 ≤ 50368 ∧
    v1_r2.m.host.ops.length < 8 ∧
    v1_r3.m.alive = true ∧
    v1_r3.m.md.reads = true ∧
    30047 < 30048 ∧
    Ready (Instr.certRead (Src.ring h) 0) v1_r3 ∧
    v1_r4.m.alive = true ∧
    v1_r4.m.md.reads = true ∧
    30048 ≤ 30048 ∧
    Ready (Instr.certRead (Src.ring h) 50368) v1_r4 ∧
    v2.m.alive = true ∧
    v2.m.sec.conn = true ∧
    v2.m.sec.lockUntil = some 77 ∧
    v2.m.sec.debugUntil = some 99 ∧
    v2.m.svcUp = true ∧
    v2.m.md.reads = true ∧
    v2.m.raw < 77 ∧
    v2.m.sec.roles = some 15 ∧
    Nat.testBit 15 1 = true ∧
    v2.m.md ≠ Mode.commission ∧
    Nat.testBit 15 3 = true ∧
    v2.m.md.debug = true ∧
    Nat.testBit 15 0 = true ∧
    v2.m.host.ops.length < 8 ∧
    v3.m.alive = true ∧
    v3.m.svcUp = true ∧
    v3.m.md.reads = true ∧
    v3.m.lockEnd.sec.lockUntil = none ∧
    v3.m.host.ops.length < 8 ∧
    v3.m.sec.roles = some 15 ∧
    v3.m.sec.debugUntil = none ∧
    v4.m.alive = true ∧
    v4.m.svcUp = true ∧
    v4.m.md.reads = true ∧
    v4.m.sec.roles = none := by
  refine ⟨?_, ?_, ?_, ?_, ?_, ?_, ?_, ?_, (ready_of ?_), ?_, ?_, ?_, (ready_of ?_), ?_, ?_, ?_, ?_, ?_,
    (ready_of ?_), ?_, ?_, ?_, (ready_of ?_), ?_, ?_, ?_, ?_, ?_, ?_, ?_, ?_, ?_, ?_, ?_, ?_, ?_, ?_, ?_, ?_,
    ?_, ?_, ?_, ?_, ?_, ?_, ?_, ?_, ?_⟩ <;> decide +kernel

theorem witness_ServicePort_2 :
    v5.m.alive = true ∧
    v5.m.svcUp = true ∧
    v5.m.md.reads = true ∧
    v5.m.sec.roles = some 1 ∧
    Nat.testBit 1 1 = false ∧
    Nat.testBit 1 3 = false ∧
    v6.m.alive = true ∧
    v6.m.svcUp = true ∧
    v6.m.md.reads = true ∧
    v6.m.sec.roles = some 15 ∧
    v6.m.md = Mode.commission ∧
    v6.m.nv.computed = some 9 ∧
    v6.m.serviceFault v6.par = some 8964 ∧
    v6.m.nv.computed ≠ some 8 ∧
    v6.m.md.debug = false ∧
    v7b.m.alive = true ∧
    v7b.m.svcUp = true ∧
    v7b.m.md.reads = true ∧
    v7b.m.sec.roles = some 15 ∧
    v7b.m.md = Mode.commission ∧
    v7b.m.nv.computed = some 9 ∧
    v7b.m.serviceFault v7b.par = none ∧
    v8.m.alive = true ∧
    v8.m.svcUp = true ∧
    v8.m.md.reads = false ∧
    v9.m.alive = true ∧
    v9.m.svcUp = true ∧
    v9.m.md.reads = true ∧
    v9.m.sec.roles = some 8 ∧
    Nat.testBit 8 0 = false ∧
    v10.m.alive = true ∧
    v10.m.svcUp = true ∧
    v10.m.md.reads = true ∧
    v10.m.lockEnd.sec.lockUntil = none ∧
    8 ≤ v10.m.host.ops.length ∧
    v10_r1.m.alive = true ∧
    v10_r1.m.md.reads = true ∧
    Ready (Instr.attest (Src.ring h) [3] 50368) v10_r1 ∧
    8 ≤ v10_r1.m.host.ops.length ∧
    v11.m.alive = true ∧
    v11.m.host.ops[0]? = some { hdr := none, kind := LongKind.auth { certType := 2, issuer := 0, subject := 8589934597, operator := 0, roles := 7, notBefore := 0, notAfter := 0, publicKey := [], signature := [] } 0 true [], steps := 0, est := 0, cancel := none, lastProg := none, skipped := false, moved := 0, turn := 0 } ∧
    v11.m.turnSlot = some 0 ∧
    v11.m.runs 7 = true ∧
    ({ hdr := none, kind := LongKind.auth { certType := 2, issuer := 0, subject := 8589934597, operator := 0, roles := 7, notBefore := 0, notAfter := 0, publicKey := [], signature := [] } 0 true [], steps := 0, est := 0, cancel := none, lastProg := none, skipped := false, moved := 0, turn := 0 } : LongOp).kind = LongKind.auth crt 0 true [] ∧
    ({ last := true, ok := true, value := 0, count := 0, bytes := [] } : LongEnd).last = true := by
  refine ⟨?_, ?_, ?_, ?_, ?_, ?_, ?_, ?_, ?_, ?_, ?_, ?_, ?_, ?_, ?_, ?_, ?_, ?_, ?_, ?_, ?_, ?_, ?_, ?_, ?_,
    ?_, ?_, ?_, ?_, ?_, ?_, ?_, ?_, ?_, ?_, ?_, ?_, (ready_of ?_), ?_, ?_, ?_, ?_, ?_, ?_, ?_⟩ <;> decide
    +kernel

theorem witness_FirmwareUpdate_1 :
    w1.m.alive = true ∧
    w1.m.svcUp = true ∧
    w1.m.md.reads = true ∧
    w1.m.sec.roles = some 15 ∧
    Nat.testBit 15 2 = true ∧
    w1.m.fw.source ≠ 2 ∧
    (w1.m.fw.stage = 0 ∨ w1.m.fw.stage = 7) ∧
    w1.m.hdrFault w1.boot ih = none ∧
    w1.boot.target < w1.boot.slots.length ∧
    w1.m.hdrFault w1.boot ih0 = some 7169 ∧
    w1.m.fw.stage ≠ 2 ∧
    w1.m.fw.stage ≠ 3 ∧
    w1.m.actTarget w1.boot = none ∧
    (w1.m.fw.trial = false ∨ w1.boot.trial = false ∨ w1.m.fw.fallbackDue = true ∨ Option.all (fun u => decide (u ≤ w1.m.raw)) w1.m.fw.windowEnd = true ∨ (w1.boot.slot w1.boot.current).hdr = none) ∧
    (w1.m.fw.stage = 0 ∨ w1.m.fw.stage = 6) ∧
    (w1.m.fw.windowEnd = none ∨ w1.m.fw.trial = false ∨ w1.boot.trial = false) ∧
    (w1.m.fw.stage = 0 ∨ w1.m.fw.stage = 6 ∨ w1.m.fw.trial = true) ∧
    (w1.m.tw.pairFormed = false ∨ w1.m.md.reads = false) ∧
    w2.m.alive = true ∧
    w2.m.svcUp = true ∧
    w2.m.md.reads = true ∧
    w2.m.sec.roles = some 15 ∧
    w2.m.fw.source ≠ 2 ∧
    w2.m.fw.stage ≠ 0 ∧
    w2.m.fw.stage ≠ 7 ∧
    w2.m.fw.stage = 2 ∧
    w2.m.fw.target = some 1 ∧
    1 < w2.boot.slots.length ∧
    (0 ≠ w2.m.fw.offset ∧ 7176 = 7176 ∨ 0 = w2.m.fw.offset ∧ ([3] = [] ∨ 65536 < [3].length) ∧ 7176 = 4099 ∨ 0 = w2.m.fw.offset ∧ [3] ≠ [] ∧ [3].length ≤ 65536 ∧ w2.m.fw.fileLen < 0 + [3].length ∧ 7176 = 7173) ∧
    1024 = w2.m.fw.offset ∧
    [3] ≠ [] ∧
    [3].length ≤ 65536 ∧
    1024 + [3].length < w2.m.fw.fileLen ∧
    1024 + [3].length ≤ w2.m.fw.fileLen ∧
    w2.m.fw.stage ≠ 6 ∧
    w2.m.fw.trial = false ∧
    w3.m.alive = true ∧
    w3.m.svcUp = true ∧
    w3.m.md.reads = true ∧
    w3.m.sec.roles = some 15 ∧
    w3.m.fw.source ≠ 2 ∧
    w3.m.fw.stage = 2 ∧
    w3.m.fw.target = some 1 ∧
    1 < w3.boot.slots.length ∧
    30816 = w3.m.fw.offset ∧
    [1, 2, 3, 4, 5, 6, 7, 8] ≠ [] ∧
    [1, 2, 3, 4, 5, 6, 7, 8].length ≤ 65536 ∧
    30816 + [1, 2, 3, 4, 5, 6, 7, 8].length = w3.m.fw.fileLen := by
  refine ⟨?_, ?_, ?_, ?_, ?_, ?_, ?_, ?_, ?_, ?_, ?_, ?_, ?_, ?_, ?_, ?_, ?_, ?_, ?_, ?_, ?_, ?_, ?_, ?_, ?_,
    ?_, ?_, ?_, ?_, ?_, ?_, ?_, ?_, ?_, ?_, ?_, ?_, ?_, ?_, ?_, ?_, ?_, ?_, ?_, ?_, ?_, ?_, ?_⟩ <;> decide
    +kernel

theorem witness_FirmwareUpdate_2 :
    w4.m.alive = true ∧
    w4.m.svcUp = true ∧
    w4.m.md.reads = true ∧
    w4.m.sec.roles = some 15 ∧
    w4.m.fw.source ≠ 2 ∧
    w4.m.fw.stage = 3 ∧
    w4.m.host.ops.length < 8 ∧
    w5.m.alive = true ∧
    w5.m.svcUp = true ∧
    w5.m.md.reads = true ∧
    w5.m.sec.roles = some 15 ∧
    w5.m.fw.source ≠ 2 ∧
    w5.m.actTarget w5.boot = some 1 ∧
    w5.m.actReady = 0 ∧
    w6.m.alive = true ∧
    w6.m.svcUp = true ∧
    w6.m.md.reads = true ∧
    w6.m.sec.roles = some 15 ∧
    w6.m.fw.source ≠ 2 ∧
    w6.m.actTarget w6.boot = some 1 ∧
    w6.m.actReady = 1 ∧
    1 ≠ 0 ∧
    w7.m.alive = true ∧
    w7.m.svcUp = true ∧
    w7.m.md.reads = true ∧
    w7.m.sec.roles = some 15 ∧
    w7.m.fw.source ≠ 2 ∧
    w7.m.fw.trial = true ∧
    w7.boot.trial = true ∧
    w7.m.fw.windowEnd = some 500 ∧
    w7.m.raw < 500 ∧
    w7.m.fw.fallbackDue = false ∧
    (w7.boot.slot w7.boot.current).hdr = some ih ∧
    w7.boot.previous = some 1 ∧
    1 < w7.boot.slots.length ∧
    w9.m.alive = true ∧
    w9.m.md.reads = true ∧
    w9.m.tw.pairFormed = true ∧
    (decide (w9.m.fw.stage = 0) || decide (w9.m.fw.source = 1) && decide (w9.m.fw.stage ≠ 6) && (decide (w9.m.mapped 0 < w9.m.fw.acceptedAt) || decide (w9.m.mapped 0 = w9.m.fw.acceptedAt) && !w9.m.primary)) = true ∧
    w9.m.hdrFault w9.boot ih = none ∧
    w9.boot.target < w9.boot.slots.length ∧
    w9.m.hdrFault w9.boot ih0 = some 7169 ∧
    w10.m.alive = true ∧
    w10.m.svcUp = true ∧
    w10.m.md.reads = true ∧
    w10.m.sec.roles = some 15 ∧
    w10.m.fw.source = 2 := by
  refine ⟨?_, ?_, ?_, ?_, ?_, ?_, ?_, ?_, ?_, ?_, ?_, ?_, ?_, ?_, ?_, ?_, ?_, ?_, ?_, ?_, ?_, ?_, ?_, ?_, ?_,
    ?_, ?_, ?_, ?_, ?_, ?_, ?_, ?_, ?_, ?_, ?_, ?_, ?_, ?_, ?_, ?_, ?_, ?_, ?_, ?_, ?_, ?_⟩ <;> decide +kernel

theorem witness_FirmwareUpdate_3 :
    w10.m.tw.pairFormed = true ∧
    (decide (w10.m.fw.stage = 0) || decide (w10.m.fw.source = 1) && decide (w10.m.fw.stage ≠ 6) && (decide (w10.m.mapped 0 < w10.m.fw.acceptedAt) || decide (w10.m.mapped 0 = w10.m.fw.acceptedAt) && !w10.m.primary)) = false ∧
    w14.m.alive = true ∧
    w14.m.svcUp = true ∧
    w14.m.md.reads = true ∧
    w14.m.sec.roles = some 15 ∧
    w14.m.fw.source ≠ 2 ∧
    w14.m.fw.stage = 3 ∧
    8 ≤ w14.m.host.ops.length ∧
    w15.m.alive = true ∧
    w15.m.svcUp = true ∧
    w15.m.md.reads = true ∧
    w15.m.fw.source ≠ 2 ∧
    w15.m.grantFault (some 2) = some 15362 ∧
    w17.m.alive = true ∧
    w17.m.svcUp = true ∧
    w17.m.md.reads = false ∧
    w17.m.fw.source ≠ 2 ∧
    w21.m.alive = true ∧
    w21.m.fw.source = 2 ∧
    w21.m.tw.pairFormed = true ∧
    w21.m.md.reads = true ∧
    w21.m.fw.target = some 1 ∧
    1 < w21.boot.slots.length ∧
    w21.m.fw.stage = 2 ∧
    1024 = w21.m.fw.offset ∧
    1024 + [3].length < w21.m.fw.fileLen ∧
    w21.m.fw.stage ≠ 0 ∧
    w21.m.fw.stage ≠ 6 ∧
    w22.m.alive = true ∧
    w22.m.fw.source = 2 ∧
    w22.m.tw.pairFormed = true ∧
    w22.m.md.reads = true ∧
    w22.m.fw.target = some 1 ∧
    1 < w22.boot.slots.length ∧
    w22.m.fw.stage = 3 ∧
    w22.m.host.ops.length < 8 ∧
    w23.m.alive = true ∧
    w23.m.fw.source = 2 ∧
    w23.m.tw.pairFormed = true ∧
    w23.m.md.reads = true ∧
    w23.m.fw.target = some 1 ∧
    1 < w23.boot.slots.length ∧
    w23.m.actTarget w23.boot = some 1 ∧
    w23.m.actReady = 0 ∧
    w23.m.md = Mode.shadow ∧
    w23.m.tw.handover = none := by
  refine ⟨?_, ?_, ?_, ?_, ?_, ?_, ?_, ?_, ?_, ?_, ?_, ?_, ?_, ?_, ?_, ?_, ?_, ?_, ?_, ?_, ?_, ?_, ?_, ?_, ?_,
    ?_, ?_, ?_, ?_, ?_, ?_, ?_, ?_, ?_, ?_, ?_, ?_, ?_, ?_, ?_, ?_, ?_, ?_, ?_, ?_, ?_, ?_⟩ <;> decide +kernel

theorem witness_FirmwareUpdate_4 :
    w24.m.alive = true ∧
    w24.m.host.ops[0]? = some { hdr := none, kind := LongKind.updateVerify, steps := 0, est := 0, cancel := none, lastProg := none, skipped := false, moved := 0, turn := 0 } ∧
    w24.m.turnSlot = some 0 ∧
    w24.m.runs 7 = true ∧
    ({ hdr := none, kind := LongKind.updateVerify, steps := 0, est := 0, cancel := none, lastProg := none, skipped := false, moved := 0, turn := 0 } : LongOp).kind = LongKind.updateVerify ∧
    ({ last := true, ok := true, value := 0, count := 0, bytes := [] } : LongEnd).last = true ∧
    w24.m.fw.target = some 1 ∧
    1 < w24.boot.slots.length ∧
    w24.boot.slotGood 1 = false ∧
    w25.m.alive = true ∧
    w25.m.host.ops[0]? = some { hdr := none, kind := LongKind.updateVerify, steps := 0, est := 0, cancel := none, lastProg := none, skipped := false, moved := 0, turn := 0 } ∧
    w25.m.turnSlot = some 0 ∧
    w25.m.runs 7 = true ∧
    w25.m.fw.target = some 1 ∧
    1 < w25.boot.slots.length ∧
    w25.boot.slotGood 1 = true ∧
    w31.m.alive = true ∧
    w31.m.svcUp = false ∧
    (w31.m.fw.source ≠ 2 ∨ w31.m.tw.pairFormed = false) := by
  refine ⟨?_, ?_, ?_, ?_, ?_, ?_, ?_, ?_, ?_, ?_, ?_, ?_, ?_, ?_, ?_, ?_, ?_, ?_, ?_⟩ <;> decide +kernel

end C16
/-! ### Witnesses written by hand -/

theorem witness_IdleStep : State.reset.pending = [] := rfl

theorem witness_ParamStoreCanonical : State.reset.par.wf = true ∧
    step State.reset = .next { State.reset with m := { State.reset.m with raw := 1 } } := ⟨by decide, rfl⟩

/-- the reset state with the keys 0 and 3 revoked -/
def revokedTwo : State := { State.reset with boot := { State.reset.boot with revoked := 0b1001 } }

theorem witness_BootRecordForward :
    step revokedTwo = .next { revokedTwo with m := { revokedTwo.m with raw := 1 } } ∧
    revokedTwo.boot.revoked.getLsbD 0 = true ∧ revokedTwo.boot.revoked.getLsbD 3 = true := ⟨rfl, by decide, by decide⟩

theorem witness_StoresFrame : (∃ t, exec .clearSramCe State.reset = .next t) ∧
    writesPar .clearSramCe = false ∧ writesBoot .clearSramCe = false := ⟨⟨_, rfl⟩, rfl, rfl⟩

/-! ### Ill-formed terms -/

theorem test_wf_ring : (Instr.nop { h with ring := 32 }).wf = false ∧ (Instr.nop { h with ring := 31 }).wf = true := by decide
theorem test_wf_index : (Instr.nop { h with idx := 65536 }).wf = false ∧ (Instr.nop { h with tag := 65536 }).wf = false := by decide
theorem test_wf_source : (Instr.attest (.ring { h with ring := 32 }) [] 0).wf = false ∧ (Instr.attest .svc [] 0).wf = true := by decide
theorem test_wf_transfer : (Instr.hostDmaError 0 (.bufRead 65536)).wf = false
    ∧ (Instr.hostDmaError 0 (.bufWrite 65536)).wf = false ∧ (Instr.hostDmaError 0 (.bufRead 65535)).wf = true := by decide
theorem test_wf_axis : (Instr.axisStall 16).wf = false ∧ (Instr.axisStall 15).wf = true := by decide
theorem test_wf_phase : (Instr.phaseOpen 0 3).wf = false ∧ (Instr.phaseOpen 0 0).wf = false ∧ (Instr.isolatorFault 0 4).wf = false := by decide
theorem test_wf_portal : (Instr.portalTimerExpiry 4 0).wf = false ∧ (Instr.portalTimerExpiry 0 4).wf = false := by decide
theorem test_wf_class : (Instr.classBudgetExhausted 0 true 0).wf = false ∧ (Instr.classBudgetExhausted 9 true 0).wf = false
    ∧ (Instr.publicationSend 4).wf = false := by decide
theorem test_wf_port : (Instr.fabricLinkUp 0).wf = false ∧ (Instr.fabricLinkUp 3).wf = false := by decide
theorem test_wf_word : (Instr.powerFail 4294967296).wf = false ∧ (Instr.powerFail 4294967295).wf = true := by decide
theorem test_wf_signed : (Instr.baseplateTempSample 2147483648).wf = false
    ∧ (Instr.baseplateTempSample (-2147483648)).wf = true := by decide
theorem test_wf_param : (Instr.paramWrite h 65536 0 0 0).wf = false
    ∧ (Instr.paramWrite h 0 0 0 18446744073709551616).wf = false := by decide
theorem test_wf_register : (Instr.registerWrite 0 0 3).wf = false ∧ (Instr.registerWrite 65536 0 4).wf = false := by decide
theorem test_wf_move : (Instr.move h 0 ⟨2147483648, 0, 0, 0, 0, false, false⟩).wf = false
    ∧ (Instr.move h 0 ⟨0, 4294967296, 0, 0, 0, false, false⟩).wf = false := by decide
theorem test_wf_limits : (Instr.setMotionLimits h 0 ⟨0, 0, 0, 4294967296⟩).wf = false := by decide
theorem test_wf_can : (Instr.canTx h 0 0 ⟨true, false, false, 536870912, false, false, 0, false, []⟩).wf = false
    ∧ (Instr.canTx h 0 0 ⟨true, false, false, 0, false, false, 16, false, []⟩).wf = false
    ∧ (Instr.canTx h 0 0 ⟨true, true, false, 0, false, false, 15, false, List.replicate 65 0⟩).wf = false := by decide
theorem test_wf_canFrame : (Instr.canRxFrame 2 ⟨true, false, false, false, false, 0, 0, []⟩).wf = false
    ∧ (Instr.canRxFrame 0 ⟨true, false, false, false, false, 536870912, 0, []⟩).wf = false := by decide
theorem test_wf_frame : (Instr.publicationRx ⟨1, 256, 0, false, 0, 0, 0, 0, [], 0, 0, 0, 0, 0⟩).wf = false
    ∧ (Instr.publicationRx ⟨1, 0, 0, false, 0, 0, 0, 65536, [], 0, 0, 0, 0, 0⟩).wf = false := by decide
theorem test_wf_action : (Instr.txnStageAction h 0 (.pointWrite 0 2147483648) true).wf = false
    ∧ (Instr.txnStageAction h 0 (.other 65536) true).wf = false := by decide
theorem test_wf_tick : (Instr.profileTick ⟨List.replicate 17 [], [], [], 0, 0⟩).wf = false
    ∧ (Instr.profileTick ⟨[], List.replicate 17 0, [], 0, 0⟩).wf = false
    ∧ (Instr.profileTick ⟨[], [], List.replicate 65 0, 0, 0⟩).wf = false := by decide
theorem test_wf_exchange : (Instr.safetyExchange ⟨[], [], [], []⟩ C09.ev0).wf = false ∧ (Instr.safetyExchange C09.ev0 C09.ev0).wf = true := by
  decide
theorem test_wf_samples : (Instr.inputSample (List.replicate 63 true)).wf = false
    ∧ (Instr.inputSample (List.replicate 64 true)).wf = true := by decide

/-! ### Worked examples of the spec -/

/-- Chapter 4, the driver reads 0x0000 and 0x0020. -/
theorem test_ident : State.reset.bar0 0x0000 = 0xD5160A03 ∧ State.reset.bar0 0x0020 = 0x02030400 := by decide +kernel

def outOf (o : Host.Outcome State Fault Refusal) : State := match o with
  | .next t => t
  | _ => State.reset

/-- Chapter 4, HOST_VER_REQ 0x0000_0201 makes 0x0024 read 0x8000_0201. -/
theorem test_negotiate : (outOf (exec (.hostVerReq 0x0201) C04.e2)).bar0 0x0024 = 0x80000201 := by decide +kernel

/-- Chapter 4, PARAM_READ of DORMANT_SAMPLE_PERIOD gives 100 ms. -/
theorem test_paramRead : (outOf (exec (.paramRead { h with ring := 1 } 1 0x0130 0)
    (fetched { h with ring := 1 } (descParamRead 1 0x0130 0) C04.e4))).m.host.cpls.map (fun c => (c.status, c.res))
    = [(0, 0x64)] := by decide +kernel

/-- R5: a target of 650,000 um on the default scale is 554,667 microsteps. -/
theorem test_toSteps : toSteps 0x04B00000 650000 = 554667 := by decide

/-- R53: a 72 V battery at 50.4 V and 105 degC: 776.16 W peak and 420 W continuous. -/
theorem test_power : kOf 1050 = 7000 ∧
    { State.reset.m with sup := { State.reset.m.sup with vbus := 504, kT := 7000 } }.pPeak = 776160 ∧
    { State.reset.m with sup := { State.reset.m.sup with vbus := 504, kT := 7000 } }.pCont = 420000 := by decide +kernel

/-- R273: 38.0 N and 2.5 N take a sample of 45.0 N to 38.4 N and 2.8 N; 8.0 N takes 20.0 N to 8.5 N. -/
theorem test_learn : (learnBin 380 25 450 1 4 none).1 = 384 ∧ (learnBin 380 25 450 1 4 none).2.1 = 28
    ∧ (learnBin 80 100 200 1 4 none).1 = 85 := by decide

/-- R310: 50 ms of disagreement faults on sample 201. -/
theorem test_pairLimit : State.reset.m.pn P.discrepancyTime 0 = 50 ∧ State.reset.m.pairLimit 0 = 201 := by decide +kernel

/-- R378: 1.0 mm2 wire at 3,000 mA trips at (1.1 * 3.0)^2 = 10.89 A^2. -/
theorem test_fuse : (par P.lsWireClass 5 2 (par P.lsNominal 5 3000 State.reset.m)).lsRated 5 = 3000 ∧
    (par P.lsWireClass 5 2 (par P.lsNominal 5 3000 State.reset.m)).lsLevel 5 = 10890000 * 65536 * 100 := by decide +kernel

/-- R399: the reset values of NBTP and DBTP pass the rules. -/
theorem test_canTiming : CanPort.reset.timingFault = none ∧ CanPort.reset.nbtp = 0x1E3E0F00 ∧ CanPort.reset.dbtp = 0x00800611 := by decide

/-- R443: T at R_RAW = 6,000,000,000,000 with RATE_ADJ +12,885. -/
theorem test_fabricTime : fabAt { TimeSt.reset with offset := 1719969999910000000, rate := 12885 } 6000000000000
    = 1720000000000000685 := by decide

/-- R444: the servo sets RATE_ADJ to +12,800 and the time at that tick stays. -/
theorem test_rateStep : fabAt { TimeSt.reset with offset := 1719969999910593718, rate := 12800 } 6000000000000
    = 1720000000000000685 := by decide

/-- Chapter 4, the descriptor at slot 0 of ring 0: its words, and no others, spell PARAM_READ of DORMANT_SAMPLE_PERIOD. -/
theorem test_spells :
    (descParamRead 1 0x0130 0).spells ⟨0, 0, 1, true, false⟩ ([0x01010001, 0x80000000, 0, 0, 0, 0x01300000] ++ List.replicate 10 0) = true
    ∧ (descParamRead 1 0x0130 0).spells ⟨0, 0, 1, true, false⟩ ([0x01020001, 0x80000000, 0, 0, 0, 0x01300000] ++ List.replicate 10 0) = false
    ∧ descFault ([0x01010001, 0x80000000, 0, 0, 0, 0x01300000] ++ List.replicate 10 0) = none := by
  decide +kernel

/-- Chapter 4, the first words of its completion; R132: the completion with index 256 of a ring of 256 has PHASE 0. -/
theorem test_cplWords :
    (Cpl.words ⟨0, 0, 1, true, 0, 0x64, 0, 0, 0, [], true, true, 0, true⟩).take 4 = [0x00000001, 0x80000000, 0x00000064, 0]
    ∧ phaseOf 0 256 = true ∧ phaseOf 256 256 = false := by
  decide +kernel

/-- R265: at the electrical angle 0 the torque current is the current of phase B. -/
theorem test_torqueCurrent : torqueCurrent 1000 700 0 = 700 * 1073741824 := by decide +kernel

end Sys2Proof.Tests
end

section
/-! SUPPORT. The free-running counter R_RAW under the shared operations: none of them moves it, so within a command it
moves only where the command advances to an instant (`Mod.advance`). -/
namespace Sys2Proof.Machine

open Sys2Proof.Safety

/-! ### Choices and folds -/

theorem Mod.raw_ite {r : Nat} {c : Prop} [Decidable c] {a b : Mod} (ha : a.raw = r) (hb : b.raw = r) :
    (if c then a else b).raw = r := by
  split <;> assumption

theorem Mod.raw_foldl {r : Nat} {α : Type} {l : List α} {f : Mod → α → Mod} {m : Mod}
    (h : ∀ m a, (f m a).raw = m.raw) (hm : m.raw = r) : (l.foldl f m).raw = r := by
  induction l generalizing m with
  | nil => exact hm
  | cons a l ih => exact ih ((h m a).trans hm)

/-- For a stage `a` of a longer command, named by `extract_lets`: comparing `a` with its value `b` before their R_RAW
keeps the kernel from evaluating both. -/
theorem Mod.raw_of_eq {r : Nat} {a b : Mod} (h : b.raw = r) (e : a = b) : a.raw = r := e ▸ h

/-! ### Events and completions (by `Logged`) -/

theorem raw_of_logged {a b : Mod} (h : Logged a b) : b.raw = a.raw := h.keeps Mod.raw (fun _ _ _ _ => rfl)

@[simp] theorem Mod.raise_raw (m : Mod) (code src : Nat) (pay : List Int) :
    (m.raise code src pay).raw = m.raw := raw_of_logged (Logged.raise m code src pay)
@[simp] theorem Mod.complete_raw (m : Mod) (h : Hdr) (r : Reply) :
    (m.complete h r).raw = m.raw := raw_of_logged (Logged.complete m h r)
@[simp] theorem Mod.completeTo_raw (m : Mod) (h : Option Hdr) (r : Reply) :
    (m.completeTo h r).raw = m.raw := raw_of_logged (Logged.completeTo m h r)
@[simp] theorem Mod.markCycles_raw (m : Mod) (flag : Nat) (learn : Option Nat) :
    (m.markCycles flag learn).raw = m.raw := raw_of_logged (Logged.markCycles m flag learn)
@[simp] theorem healthIrq_raw (o m : Mod) : (healthIrq o m).raw = m.raw := raw_of_logged (Logged.healthIrq o m)

/-! ### Drives and safety functions (by their frames) -/

theorem raw_of_drive {a b : Mod} (h : Only driveBlks a b) : b.raw = a.raw := h .raw (by decide)

theorem raw_of_saf {a b : Mod} (h : Only safBlks a b) : b.raw = a.raw := h .raw (by decide)

@[simp] theorem Mod.onCyc_raw (m : Mod) (p : Nat) (f : CycAcc → CycAcc) :
    (m.onCyc p f).raw = m.raw := raw_of_drive (Only.onCyc m p f)
@[simp] theorem Mod.markRole_raw (m : Mod) (i k : Nat) (n : Option Nat) :
    (m.markRole i k n).raw = m.raw := raw_of_drive (Only.markRole m i k n)
@[simp] theorem Mod.markLearn_raw (m : Mod) (i n : Nat) :
    (m.markLearn i n).raw = m.raw := raw_of_drive (Only.markLearn m i n)
@[simp] theorem Mod.moveEnd_raw (m : Mod) (i tag reason : Nat) :
    (m.moveEnd i tag reason).raw = m.raw := raw_of_drive (Only.moveEnd m i tag reason)
@[simp] theorem Mod.life_raw (m : Mod) (k n : Nat) : (m.life k n).raw = m.raw := raw_of_drive (Only.life m k n)
@[simp] theorem Mod.dropTorque_raw (m : Mod) (i : Nat) :
    (m.dropTorque i).raw = m.raw := raw_of_drive (Only.dropTorque m i)
@[simp] theorem Mod.latch_raw (m : Mod) (i c : Nat) : (m.latch i c).raw = m.raw := raw_of_drive (Only.latch m i c)
@[simp] theorem Mod.demand_raw (m : Mod) (g c : Nat) : (m.demand g c).raw = m.raw := raw_of_saf (Only.demand m g c)
@[simp] theorem Mod.openLoopOf_raw (m : Mod) (s : Side) (c : Nat) :
    (m.openLoopOf s c).raw = m.raw := raw_of_saf (Only.openLoopOf m s c)
@[simp] theorem Mod.trig_raw (m : Mod) (t : Trig) : (m.trig t).raw = m.raw := raw_of_saf (Only.trig m t)
@[simp] theorem Mod.dropHold_raw (m : Mod) (s : Side) (c : Nat) :
    (m.dropHold s c).raw = m.raw := raw_of_saf (Only.dropHold m s c)
@[simp] theorem Mod.loopEval_raw (m : Mod) : m.loopEval.raw = m.raw := raw_of_saf (Only.loopEval m)

@[simp] theorem Mod.monitor_raw (m : Mod) (i : Nat) (safe : Bool) : (m.monitor i safe).raw = m.raw := rfl
@[simp] theorem Mod.openIso_raw (m : Mod) (i : Nat) : (m.openIso i).raw = m.raw := rfl
@[simp] theorem Mod.arrive_raw (m : Mod) (i : Nat) (x : Arr) : (m.arrive i x).raw = m.raw := rfl

@[simp] theorem Mod.halt_raw (m : Mod) (i : Nat) (why : StopWhy) (toEnc : Bool) :
    (m.halt i why toEnc).raw = m.raw := by
  unfold Mod.halt
  split
  case h_1 mv _ =>
    extract_lets m1 m2 mv' m3
    have h1 : m1.raw = m.raw := by unfold m1; split <;> rfl
    have h2 : m2.raw = m.raw := by unfold m2; split <;> simp [h1]
    have h3 : m3.raw = m.raw := h2
    exact Mod.raw_ite (Mod.raw_ite h3 (Mod.raw_ite (by simp [h3]) (by simp [h3]))) h1
  case h_2 => split <;> simp

@[simp] theorem Mod.safeStop_raw (m : Mod) (g cause sto : Nat) : (m.safeStop g cause sto).raw = m.raw := by
  unfold Mod.safeStop
  refine Mod.raw_ite (by simp) ?_
  exact Mod.raw_foldl (fun m k => by simp) (by simp)

/-! ### Parameters and load switches -/

@[simp] theorem Mod.takeDue_raw (m : Mod) (f : PDef → Nat → Bool) : (m.takeDue f).raw = m.raw := rfl

@[simp] theorem Mod.sendTwin_raw (m : Mod) (kind dest : Nat) (body : List Int) :
    (m.sendTwin kind dest body).raw = m.raw := by
  unfold Mod.sendTwin
  exact Mod.raw_ite (by simp) rfl

@[simp] theorem Mod.onLs_raw (m : Mod) (n : Nat) (f : Ls → Ls) : (m.onLs n f).raw = m.raw := rfl

@[simp] theorem Mod.lsTurnOn_raw (m : Mod) (n : Nat) (first : Bool) : (m.lsTurnOn n first).raw = m.raw := rfl

@[simp] theorem Mod.lsDrive_raw (m : Mod) (n : Nat) : (m.lsDrive n).raw = m.raw := by
  unfold Mod.lsDrive
  dsimp only
  exact Mod.raw_ite rfl (Mod.raw_ite (Mod.raw_ite rfl rfl) (Mod.raw_ite rfl rfl))

@[simp] theorem Mod.lsDriveAll_raw (m : Mod) : m.lsDriveAll.raw = m.raw :=
  Mod.raw_foldl Mod.lsDrive_raw rfl

@[simp] theorem Mod.lsFailsafeMode_raw (m : Mod) (on : Bool) : (m.lsFailsafeMode on).raw = m.raw := by
  unfold Mod.lsFailsafeMode
  exact Mod.raw_ite rfl (Mod.raw_ite (by simp) (by simp))

@[simp] theorem Mod.lsCommand_raw (m : Mod) (n st : Nat) : (m.lsCommand n st).raw = m.raw := by
  unfold Mod.lsCommand
  exact Mod.raw_ite (by simp) rfl

/-! ### The release of a side (R258, R259) -/

@[simp] theorem Mod.openOnRelease_raw (m : Mod) (s : Side) : (m.openOnRelease s).raw = m.raw := by
  unfold Mod.openOnRelease
  refine Mod.raw_foldl (fun m p => ?_) rfl
  exact Mod.raw_ite (by simp) (Mod.raw_ite (by simp) rfl)

@[simp] theorem Mod.evalSide_raw (m : Mod) (s : Side) : (m.evalSide s).raw = m.raw := by
  unfold Mod.evalSide
  dsimp only
  refine Mod.raw_ite ?_ (Mod.raw_ite ?_ (Mod.raw_ite ?_ ?_)) <;> simp <;>
    exact Mod.raw_ite rfl (by simp)

@[simp] theorem Mod.withdraw_raw (m : Mod) (s : Side) (cause : Nat) : (m.withdraw s cause).raw = m.raw := by
  unfold Mod.withdraw
  refine Mod.raw_ite ?_ rfl
  rw [Mod.evalSide_raw]
  exact Mod.raw_foldl (fun m p => by simp) (by simp)

end Sys2Proof.Machine
end

section
/-! SUPPORT. R_RAW under learning, the saves of profiles and the steps of a portal. -/
namespace Sys2Proof.Machine

/-! ### Learning and saves of profiles -/

@[simp] theorem Mod.learnLeaf_raw (m : Mod) (p r i : Nat) (c : CycAcc) : (m.learnLeaf p r i c).raw = m.raw := by
  unfold Mod.learnLeaf
  refine Mod.raw_ite (Mod.raw_ite ?_ ?_) rfl <;> simp <;> split <;> simp

@[simp] theorem Mod.learnCycle_raw (m : Mod) (x : Nat × CycAcc) : (m.learnCycle x).raw = m.raw :=
  Mod.raw_foldl (fun m r => by split <;> simp) rfl

@[simp] theorem Mod.learnWaiting_raw (m : Mod) : m.learnWaiting.raw = m.raw :=
  Mod.raw_ite (Mod.raw_foldl Mod.learnCycle_raw rfl) rfl

@[simp] theorem Mod.saveNow_raw (m : Mod) (src : Nat) : (m.saveNow src).raw = m.raw := by
  simp [Mod.saveNow, Mod.calSave]

@[simp] theorem Mod.saveFor_raw (m : Mod) (x : Nat × Option Hdr) : (m.saveFor x).raw = m.raw := by
  simp [Mod.saveFor]

@[simp] theorem Mod.saveWaiting_raw (m : Mod) : m.saveWaiting.raw = m.raw := Mod.raw_foldl Mod.saveFor_raw rfl

@[simp] theorem Mod.saveProfiles_raw (m : Mod) (src : Nat) : (m.saveProfiles src).raw = m.raw :=
  Mod.raw_ite (Mod.saveFor_raw m _) rfl

/-! ### Detection of obstacles -/

@[simp] theorem Mod.capAmp_raw (m : Mod) (i : Nat) (f : Int) : (m.capAmp i f).raw = m.raw := rfl

@[simp] theorem Mod.reactDecel_raw (m : Mod) (i : Nat) : (m.reactDecel i).raw = m.raw := by
  unfold Mod.reactDecel
  exact Mod.raw_ite rfl (Mod.raw_ite (by simp) rfl)

@[simp] theorem Mod.detect_raw (m : Mod) (i bit : Nat) (closing : Bool) (f : Int) :
    (m.detect i bit closing f).raw = m.raw := by
  unfold Mod.detect
  split
  case h_1 => rfl
  case h_2 => simp [apply_ite Mod.raw]

@[simp] theorem Mod.edgeDeclare_raw (m : Mod) (e : Nat) : (m.edgeDeclare e).raw = m.raw := by
  unfold Mod.edgeDeclare
  split <;> simp

@[simp] theorem Mod.edgesDeclare_raw (m : Mod) (i : Nat) : (m.edgesDeclare i).raw = m.raw :=
  Mod.raw_foldl (fun m e => Mod.raw_ite (m.edgeDeclare_raw e) rfl) rfl

@[simp] theorem Mod.edgeTests_raw (m : Mod) (p : Nat) : (m.edgeTests p).raw = m.raw := by
  refine Mod.raw_foldl (fun m e => ?_) rfl
  split
  · exact Mod.raw_ite (by simp) rfl
  · rfl

@[simp] theorem Mod.edgeFail_raw (m : Mod) (e cause : Nat) : (m.edgeFail e cause).raw = m.raw :=
  Mod.raw_ite rfl (by simp)

@[simp] theorem Mod.edgeEntry_raw (m : Mod) (p st : Nat) : (m.edgeEntry p st).raw = m.raw := by
  unfold Mod.edgeEntry
  extract_lets m1
  have h1 : m1.raw = m.raw := Mod.raw_ite (Mod.raw_foldl Mod.edgesDeclare_raw rfl) rfl
  exact Mod.raw_ite (by simp [h1]) h1

/-! ### Cycles and states of a portal -/

@[simp] theorem Mod.cancelTimers_raw (m : Mod) (p : Nat) : (m.cancelTimers p).raw = m.raw := rfl
@[simp] theorem Mod.setTimer_raw (m : Mod) (p t : Nat) (v : Tmr) : (m.setTimer p t v).raw = m.raw := rfl
@[simp] theorem Mod.cycBegin_raw (m : Mod) (p : Nat) : (m.cycBegin p).raw = m.raw := rfl
@[simp] theorem Mod.stageRec_raw (m : Mod) (r : JRec) : (m.stageRec r).raw = m.raw := rfl
@[simp] theorem Mod.lifeSaveOf_raw (m : Mod) (p : Nat) : (m.lifeSaveOf p).raw = m.raw := rfl

@[simp] theorem Mod.countsRestart_raw (m : Mod) (p : Nat) : (m.countsRestart p).raw = m.raw :=
  Mod.raw_foldl (fun m i => by simp) rfl

@[simp] theorem Mod.probeReset_raw (m : Mod) (p : Nat) : (m.probeReset p).raw = m.raw :=
  Mod.raw_foldl (fun m i => by simp) (by simp)

@[simp] theorem Mod.lifeFlush_raw (m : Mod) : m.lifeFlush.raw = m.raw :=
  Mod.raw_foldl (fun m i => by simp) (by simp)

@[simp] theorem Mod.cycEnd_raw (m : Mod) (p endState : Nat) (cut : Bool) : (m.cycEnd p endState cut).raw = m.raw := by
  unfold Mod.cycEnd
  split
  case h_1 => rfl
  case h_2 c _ =>
    extract_lets c good m1 flags m2 m3 m4 m5 m6 m7
    have h3 : m3.raw = m.raw := Mod.raw_foldl (fun m r => by split <;> simp) (by simp [m2, m1])
    have h5 : m5.raw = m.raw := by simp only [m5, m4, Mod.onPo_raw, Mod.lifeSaveOf_raw, Mod.lifeFlush_raw, h3]
    have h6 : m6.raw = m.raw := by
      refine Mod.raw_foldl (fun m e => ?_) h5
      split
      · exact Mod.raw_ite (Mod.raw_ite (by simp) rfl) rfl
      · rfl
    have h7 : m7.raw = m.raw := by simp only [m7, Mod.raise_raw, h6]
    clear_value m7
    refine Mod.raw_ite (Mod.raw_ite (by simp [h7]) h7) ?_
    split <;> simp [h7]

@[simp] theorem Mod.toState_raw (m : Mod) (p new row : Nat) (cause : Option Nat) :
    (m.toState p new row cause).raw = m.raw := by
  unfold Mod.toState
  refine Mod.raw_ite rfl ?_
  simp only [apply_ite Mod.raw, Mod.edgeEntry_raw, Mod.onPo_raw, Mod.demand_raw, Mod.cycEnd_raw, Mod.onCyc_raw,
    Mod.cycBegin_raw, ite_self]
  split <;> simp [apply_ite Mod.raw]

@[simp] theorem Mod.fromSensors_raw (m : Mod) (p : Nat) : (m.fromSensors p).raw = m.raw := by
  unfold Mod.fromSensors
  extract_lets new was m1 m2
  have h2 : m2.raw = m.raw := by simp [m2, m1]
  exact Mod.raw_ite (Mod.raw_ite (by simp [h2]) h2) rfl

@[simp] theorem Mod.press_raw (m : Mod) (p : Nat) (close : Bool) (source : Nat) (t : Int) :
    (m.press p close source t).raw = m.raw := by
  unfold Mod.press
  exact Mod.raw_ite rfl (Mod.raw_ite (by simp) (by simp))

end Sys2Proof.Machine
end

section
/-! SUPPORT. R_RAW under the resets of the control die and the changes of mode. -/
namespace Sys2Proof.Machine

/-! ### The resets' parts -/

@[simp] theorem Mod.degCount_raw (m : Mod) : m.degCount.raw = m.raw := rfl
@[simp] theorem Mod.cancelOps_raw (m : Mod) (d : Nat) (f : LongOp → Bool) : (m.cancelOps d f).raw = m.raw := rfl
@[simp] theorem Mod.onSess_raw (m : Mod) (k : Nat) (f : Sess → Sess) : (m.onSess k f).raw = m.raw := rfl
@[simp] theorem Mod.setNeg_raw (m : Mod) (p : Nat) (v : Option (Nat × Nat)) : (m.setNeg p v).raw = m.raw := rfl
@[simp] theorem Mod.onCtx_raw (m : Mod) (c : Nat) (f : Ctx → Ctx) : (m.onCtx c f).raw = m.raw := rfl
@[simp] theorem Mod.txnLost_raw (m : Mod) : m.txnLost.raw = m.raw := rfl

@[simp] theorem Mod.holdLoops_raw (m : Mod) : m.holdLoops.raw = m.raw := by
  unfold Mod.holdLoops
  simp [apply_ite Mod.raw]

@[simp] theorem Mod.closeSess_raw (m : Mod) (k cause : Nat) : (m.closeSess k cause).raw = m.raw := by
  unfold Mod.closeSess
  refine Mod.raw_ite ?_ rfl
  rw [Mod.raise_raw]
  exact Mod.raw_foldl (fun m h => by simp) rfl

@[simp] theorem Mod.closeAllSess_raw (m : Mod) (cause : Nat) : (m.closeAllSess cause).raw = m.raw :=
  Mod.raw_foldl (fun m k => m.closeSess_raw k cause) rfl

@[simp] theorem Mod.linkReset_raw (m : Mod) (cause : Nat) : (m.linkReset cause).raw = m.raw := by
  simp [Mod.linkReset]

@[simp] theorem Mod.regReset_raw (m : Mod) : m.regReset.raw = m.raw := by
  simp [Mod.regReset]

@[simp] theorem Mod.debugLock_raw (m : Mod) (cause : Nat) : (m.debugLock cause).raw = m.raw := by
  unfold Mod.debugLock
  split <;> simp

@[simp] theorem Mod.secReset_raw (m : Mod) : m.secReset.raw = m.raw := by
  simp [Mod.secReset]

@[simp] theorem Mod.ssiStops_raw (m : Mod) : m.ssiStops.raw = m.raw :=
  Mod.raw_foldl (fun _ _ => Mod.raw_ite (by simp) rfl) rfl

@[simp] theorem Mod.workReset_raw (m : Mod) : m.workReset.raw = m.raw := by
  simp [Mod.workReset]

@[simp] theorem Mod.canAbortAll_raw (m : Mod) (p reason : Nat) : (m.canAbortAll p reason).raw = m.raw :=
  Mod.raw_foldl (fun m x => by simp) rfl

@[simp] theorem Mod.canReset_raw (m : Mod) : m.canReset.raw = m.raw :=
  Mod.raw_foldl (fun m p => by simp) rfl

@[simp] theorem Mod.txnOut_raw (m : Mod) (c : Nat) (o : TxnOut) : (m.txnOut c o).raw = m.raw := by
  unfold Mod.txnOut
  rw [Mod.raise_raw]
  split <;> simp

@[simp] theorem Mod.tear_raw (m : Mod) (f : Nat → Bool) : (m.tear f).raw = m.raw :=
  Mod.raw_foldl (fun m c => Mod.raw_ite (by simp) rfl) rfl

@[simp] theorem Mod.txnReset_raw (m : Mod) : m.txnReset.raw = m.raw := by
  simp [Mod.txnReset]

/-! ### A reset of the control die (R92 to R95, R113) -/

@[simp] theorem Mod.dieReset_raw (m : Mod) (cause : ResetCause) : (m.dieReset cause).raw = m.raw := by
  unfold Mod.dieReset
  extract_lets fail m1 m2 m3 m4 m5 m6 m7 m8 m9 old m10 m11
  have h2 : m2.raw = m.raw := Mod.raw_of_eq (m1.holdLoops_raw.trans m.degCount_raw) rfl
  have h3 : m3.raw = m.raw := Mod.raw_of_eq (Mod.raw_foldl (fun m g => m.demand_raw g 5) h2) rfl
  have h4 : m4.raw = m.raw := Mod.raw_of_eq (Mod.raw_foldl Mod.dropTorque_raw h3) rfl
  have h6 : m6.raw = m.raw := by simp [m6, m5, h4]
  have h7 : m7.raw = m.raw := (Mod.onSaf_raw _ _).trans h6
  have h8 : m8.raw = m.raw := (Mod.onIo_raw _ _).trans h7
  have h9 : m9.raw = m.raw := Mod.raw_of_eq (m8.lsDriveAll_raw.trans h8) rfl
  have h10 : m10.raw = m.raw := (Mod.onMode_raw _ _).trans h9
  have h11 : m11.raw = m.raw := Mod.raw_of_eq (Mod.raw_ite h10 ((m10.raise_raw _ _ _).trans h10)) rfl
  exact (Mod.onStart_raw _ _).trans h11

/-! ### A change of mode (R79, R80) -/

@[simp] theorem Mod.canLate_raw (m : Mod) (p src : Nat) (late : Option Hdr) : (m.canLate p src late).raw = m.raw := by
  unfold Mod.canLate
  split <;> simp

@[simp] theorem Mod.canLost_raw (m : Mod) : m.canLost.raw = m.raw := by
  refine Mod.raw_foldl (fun m p => ?_) rfl
  rw [Mod.onCan_raw]
  split <;> simp

@[simp] theorem Mod.canonChanged_raw (m : Mod) : m.canonChanged.raw = m.raw := rfl
@[simp] theorem Mod.cfgSave_raw (m : Mod) : m.cfgSave.raw = m.raw := rfl

@[simp] theorem Mod.degReached_raw (m : Mod) : m.degReached.raw = m.raw :=
  Mod.raw_foldl (fun _ _ => Mod.raw_ite (by simp) rfl) (by simp)

@[simp] theorem Mod.setMode_raw (m : Mod) (new : Mode) (trig : Nat) : (m.setMode new trig).raw = m.raw := by
  unfold Mod.setMode
  extract_lets old m1 m2 m3 m4 m5 ob m6 m7 m8 m9 lock obs m10 m11 bore crc m12 m13 m14
  have h3 : m3.raw = m.raw := (Mod.raise_raw _ _ _ _).trans (Mod.raw_ite rfl rfl)
  have h4 : m4.raw = m.raw := Mod.raw_ite (by simp [h3]) h3
  have h5 : m5.raw = m.raw :=
    Mod.raw_ite (Mod.raw_foldl (fun _ _ => Mod.raw_ite (by simp) (by simp)) h4)
      (Mod.raw_ite (Mod.raw_foldl (fun _ _ => by simp) h4) h4)
  have h6 : m6.raw = m.raw := Mod.raw_ite h5 h5
  have h7 : m7.raw = m.raw := Mod.raw_ite (by simp [h6]) (Mod.raw_ite (by simp [h6]) (by simp [h6]))
  have h8 : m8.raw = m.raw := (Mod.lsFailsafeMode_raw _ _).trans h7
  have h9 : m9.raw = m.raw := Mod.raw_ite (by simp [h8]) h8
  have h10 : m10.raw = m.raw := Mod.raw_ite h9 ((Mod.debugLock_raw _ _).trans h9)
  have h11 : m11.raw = m.raw := Mod.raw_ite (by simp [h10]) h10
  have h12 : m12.raw = m.raw := Mod.raw_ite h11 h11
  have h13 : m13.raw = m.raw := Mod.raw_ite (by simp [h12]) h12
  have h14 : m14.raw = m.raw := Mod.raw_ite (by simp [h13]) h13
  exact Mod.raw_ite rfl (Mod.raw_ite (Mod.raw_foldl Mod.fromSensors_raw h14) h14)

end Sys2Proof.Machine
end

section
/-! SUPPORT. R_RAW under the commands that a released resource runs, and under hardware transactions. -/
namespace Sys2Proof.Machine

/-! ### Commands that waited for a resource (R465) -/

theorem Mod.cmdNow_raw (m : Mod) (h : Hdr) (accept : Mode → Bool) (body : Mod → Mod × Option Reply)
    (hb : (body m).1.raw = m.raw) : (m.cmdNow h accept body).raw = m.raw := by
  unfold Mod.cmdNow
  refine Mod.raw_ite (Mod.raw_ite ?_ (by simp)) rfl
  split
  case h_1 m' r e => rw [Mod.complete_raw, ← hb, e]
  case h_2 m' e => rw [← hb, e]

theorem onAxisCmd_raw (ax : Nat) (body : Mod → Mod × Option Reply) (m : Mod) (hb : (body m).1.raw = m.raw) :
    (onAxisCmd ax body m).1.raw = m.raw := by
  unfold onAxisCmd
  split
  · exact hb
  · rfl

theorem onPortalCmd_raw (p : Nat) (body : Mod → Mod × Option Reply) (m : Mod) (hb : (body m).1.raw = m.raw) :
    (onPortalCmd p body m).1.raw = m.raw := by
  unfold onPortalCmd
  split
  · exact hb
  · rfl

@[simp] theorem Mod.moveCmd_raw (m : Mod) (h : Hdr) (ax : Nat) (a : MoveArgs) : (m.moveCmd h ax a).1.raw = m.raw := by
  unfold Mod.moveCmd
  split <;> rfl

@[simp] theorem Mod.limitsCmd_raw (m : Mod) (h : Hdr) (ax : Nat) (l : LimitArgs) :
    (m.limitsCmd h ax l).1.raw = m.raw := by
  unfold Mod.limitsCmd
  split <;> rfl

@[simp] theorem Mod.stopCmd_raw (m : Mod) (h : Hdr) (ax : Nat) : (m.stopCmd h ax).1.raw = m.raw := rfl

@[simp] theorem Mod.startLong_raw (m : Mod) (h : Option Hdr) (k : LongKind) (est : Nat) :
    (m.startLong h k est).1.raw = m.raw := by
  unfold Mod.startLong
  split <;> rfl

@[simp] theorem Mod.loseRef_raw (m : Mod) (i cause : Nat) : (m.loseRef i cause).raw = m.raw := by
  unfold Mod.loseRef
  exact Mod.raw_ite (by simp) rfl

@[simp] theorem Mod.homeBegin_raw (m : Mod) (i : Nat) : (m.homeBegin i).raw = m.raw := by
  simp [Mod.homeBegin]

@[simp] theorem Mod.homeCmd_raw (m : Mod) (h : Hdr) (inst : Nat) (portal : Bool) :
    (m.homeCmd h inst portal).1.raw = m.raw := by
  have started := m.startLong_raw (some h) (.home inst portal) 0
  simp only [Mod.homeCmd, apply_ite Prod.fst, apply_ite Mod.raw]
  repeat' (refine ite_eq_left_iff.mpr fun _ => ?_)
  split
  case h_1 m' r e => rw [← started, e]
  case h_2 m' e =>
    rw [e] at started
    split <;> simpa using started

@[simp] theorem Mod.jogCmd_raw (m : Mod) (h : Hdr) (ax : Nat) (pos redirect : Bool) (speed : Nat) :
    (m.jogCmd h ax pos redirect speed).1.raw = m.raw := by
  unfold Mod.jogCmd
  simp only [apply_ite Prod.fst, apply_ite Mod.raw, Mod.onAx_raw]
  repeat' (refine ite_eq_left_iff.mpr fun _ => ?_)
  split
  · rfl
  · simp [apply_ite Prod.fst, apply_ite Mod.raw]

@[simp] theorem Mod.phaseTest_raw (m : Mod) (h : Hdr) (ax : Nat) : (m.phaseTest h ax).1.raw = m.raw := by
  unfold Mod.phaseTest
  split <;> rfl

@[simp] theorem Mod.clearOne_raw (m : Mod) (ax c : Nat) : (m.clearOne ax c).raw = m.raw := by
  unfold Mod.clearOne
  refine Mod.raw_ite (Mod.raw_foldl (fun m k => by simp) rfl) ?_
  rw [Mod.raise_raw]
  exact Mod.raw_ite rfl rfl

@[simp] theorem Mod.axisFaultClear_raw (m : Mod) (ax : Nat) (passes : Bool) :
    (m.axisFaultClear ax passes).1.raw = m.raw := by
  unfold Mod.axisFaultClear
  split
  · rfl
  · split
    · rfl
    · split
      · exact Mod.raw_foldl (fun m c => m.clearOne_raw ax c) rfl
      · rfl

@[simp] theorem Mod.portalReset_raw (m : Mod) (p : Nat) : (m.portalReset p).1.raw = m.raw := by
  simp [Mod.portalReset, apply_ite Prod.fst, apply_ite Mod.raw]

@[simp] theorem Mod.portalRequest_raw (m : Mod) (p close : Nat) : (m.portalRequest p close).1.raw = m.raw := by
  simp [Mod.portalRequest, apply_ite Prod.fst, apply_ite Mod.raw]

@[simp] theorem Mod.sideWithdraw_raw (m : Mod) (mask : Nat) (grant : Bool) :
    (m.sideWithdraw mask grant).1.raw = m.raw := by
  unfold Mod.sideWithdraw
  split
  · rfl
  · exact Mod.raw_foldl (fun m s => m.withdraw_raw s 3) rfl

@[simp] theorem Mod.lsSet_raw (m : Mod) (n st : Nat) : (m.lsSet n st).1.raw = m.raw := by
  simp [Mod.lsSet, apply_ite Prod.fst, apply_ite Mod.raw]

@[simp] theorem Mod.lsClear_raw (m : Mod) (n : Nat) : (m.lsClear n).1.raw = m.raw := by
  simp [Mod.lsClear, apply_ite Prod.fst, apply_ite Mod.raw]

@[simp] theorem Mod.pointWrite_raw (m : Mod) (pt : Nat) (v : Int) : (m.pointWrite pt v).1.raw = m.raw := by
  unfold Mod.pointWrite
  split <;> rfl

@[simp] theorem runHeld_raw (i : Instr) (m : Mod) : (runHeld i m).raw = m.raw := by
  unfold runHeld
  split
  case h_14 => rfl
  all_goals refine Mod.cmdNow_raw _ _ _ _ ?_
  case h_1 | h_2 | h_3 | h_5 | h_6 | h_7 => exact onAxisCmd_raw _ _ _ (by simp)
  case h_8 | h_9 => exact onPortalCmd_raw _ _ _ (by simp)
  all_goals simp

@[simp] theorem Mod.commitLocal_raw (m : Mod) (c : Nat) (at? : Option Int) (table : Option Nat) :
    (m.commitLocal c at? table).1.raw = m.raw := by
  unfold Mod.commitLocal
  simp only [apply_ite Prod.fst, apply_ite Mod.raw]
  repeat' (refine ite_eq_left_iff.mpr fun _ => ?_)
  split
  · simp [apply_ite Prod.fst, apply_ite Mod.raw]
  · rfl

@[simp] theorem Mod.doAct_raw (m : Mod) (p row a w : Nat) : (m.doAct p row a w).raw = m.raw := by
  unfold Mod.doAct
  refine Mod.raw_ite (Mod.raw_ite rfl ?_) (Mod.raw_ite (Mod.raw_ite rfl ?_) (Mod.raw_ite ?_ (Mod.raw_ite ?_
    (Mod.raw_ite ?_ (Mod.raw_ite ?_ (Mod.raw_ite ?_ rfl))))))
  · exact Mod.raw_foldl (fun m x => by split <;> rfl) rfl
  · exact Mod.raw_foldl (fun m x => rfl) rfl
  all_goals simp

@[simp] theorem Mod.freeHeld_raw (m : Mod) : m.freeHeld.raw = m.raw := by
  unfold Mod.freeHeld
  refine Mod.raw_foldl (fun m x => by simp) ?_
  rw [Mod.onTxn_raw]
  exact Mod.raw_foldl (fun m i => runHeld_raw i m) rfl

/-! ### Bundles (R481) -/

@[simp] theorem Mod.nextOrder_raw (m : Mod) : m.nextOrder.raw = m.raw := rfl

@[simp] theorem Mod.sendTrailer_raw (m : Mod) (link kind dest : Nat) (body : List Int) (trailer : List Nat) :
    (m.send link kind dest body trailer).raw = m.raw := rfl

@[simp] theorem Mod.sendFrame_raw (m : Mod) (type dest : Nat) (safe : Bool) (body : List Int) :
    (m.sendFrame type dest safe body).raw = m.raw := by
  simp [Mod.sendFrame]

@[simp] theorem Mod.sendDecision_raw (m : Mod) (k : TxnKey) (commit : Bool) :
    (m.sendDecision k commit).raw = m.raw := by
  simp [Mod.sendDecision]

@[simp] theorem Mod.sendQuery_raw (m : Mod) (c : Nat) : (m.sendQuery c).raw = m.raw := by
  unfold Mod.sendQuery
  dsimp only
  split <;> simp

@[simp] theorem Mod.sendTimed_raw (m : Mod) (c at_ : Nat) : (m.sendTimed c at_).raw = m.raw := by
  refine Mod.raw_foldl (fun m a => ?_) rfl
  split
  · exact Mod.raw_ite (by simp) rfl
  · rfl

@[simp] theorem Mod.ctxCheck_raw (m : Mod) (c at_ : Nat) : (m.ctxCheck c at_).raw = m.raw := by
  unfold Mod.ctxCheck
  refine Mod.raw_ite ?_ ?_
  · split <;> simp
  · rw [Mod.sendTimed_raw]
    exact Mod.raw_foldl (fun m y => by simp) rfl

@[simp] theorem Mod.ctxFail_raw (m : Mod) (c k st : Nat) : (m.ctxFail c k st).raw = m.raw := by
  unfold Mod.ctxFail
  rw [Mod.freeHeld_raw, Mod.txnOut_raw]
  exact Mod.raw_foldl (fun m a => by split <;> rfl) rfl

@[simp] theorem Mod.grant_raw (m : Mod) (s : Side) (c : Nat) (x : Ctx) (t late : Int) :
    (m.grant s c x t late).raw = m.raw := by
  unfold Mod.grant
  exact Mod.raw_ite (Mod.raw_ite (by simp) (by simp)) (by simp)

@[simp] theorem Mod.actApply_raw (m : Mod) (c : Nat) (x : Ctx) (tag craw : Nat) (late : Int) (a : Action) :
    (m.actApply c x tag craw late a).raw = m.raw := by
  cases a with
  | sideRelease mask g => exact Mod.raw_foldl (fun m s => Mod.raw_ite (by simp) (by simp)) rfl
  | _ => simp [Mod.actApply]

@[simp] theorem Mod.ctxApply_raw (m : Mod) (c : Nat) : (m.ctxApply c).raw = m.raw := by
  unfold Mod.ctxApply
  dsimp only
  split
  · simp
  · rw [Mod.freeHeld_raw, Mod.txnOut_raw]
    exact Mod.raw_foldl (fun m y => by simp) rfl

@[simp] theorem Mod.decidedCommit_raw (m : Mod) (c : Nat) : (m.decidedCommit c).raw = m.raw := by
  unfold Mod.decidedCommit
  dsimp only
  split <;> simp

@[simp] theorem Mod.decideAbort_raw (m : Mod) (c : Nat) (o : TxnOut) : (m.decideAbort c o).raw = m.raw := by
  unfold Mod.decideAbort
  dsimp only
  split <;> simp

@[simp] theorem Mod.ctxTakeover_raw (m : Mod) (c : Nat) : (m.ctxTakeover c).raw = m.raw := by
  unfold Mod.ctxTakeover
  extract_lets x m1 late written m2 m3
  have h1 : m1.raw = m.raw := m.raise_raw _ _ _
  have hlate (n : Mod) (h : n.raw = m.raw) : (late n).raw = m.raw := Mod.raw_ite (by simp [h]) (by simp [h])
  have h2 : m2.raw = m.raw := Mod.raw_of_eq (m1.decidedCommit_raw c |>.trans h1) rfl
  have h3 : m3.raw = m.raw := by unfold m3; split <;> simp [h1]
  refine Mod.raw_ite rfl (Mod.raw_ite (Mod.raw_ite ?_ h1) (Mod.raw_ite (Mod.raw_ite (hlate m1 h1) h1)
    (Mod.raw_ite (Mod.raw_ite (Mod.raw_ite (hlate m2 h2) h2) ?_)
      (Mod.raw_ite (Mod.raw_ite (hlate m3 h3) h3) (Mod.raw_ite ?_ h1)))))
  all_goals simp [h1]

@[simp] theorem Mod.txnTakeover_raw (m : Mod) : m.txnTakeover.raw = m.raw := Mod.raw_foldl Mod.ctxTakeover_raw rfl

end Sys2Proof.Machine
end

section
/-! SUPPORT. R_RAW under the updates, the takeover and the passes of a budget period boundary; the grid the boundaries
stand on. -/
namespace Sys2Proof.Machine

/-! ### Updates (R564, R566, R569) -/

@[simp] theorem Mod.relinquish_raw (m : Mod) (cause : Nat) : (m.relinquish cause).1.raw = m.raw := by
  simp [Mod.relinquish, apply_ite Prod.fst, apply_ite Mod.raw]

@[simp] theorem Mod.activate_raw (m : Mod) (b : Boot) (k : Nat) : (m.activate b k).2.raw = m.raw := by
  simp [Mod.activate]

@[simp] theorem Mod.actSelf_raw (m : Mod) (b : Boot) (k : Nat) : (m.actSelf b k).2.raw = m.raw := by
  unfold Mod.actSelf
  extract_lets m1 x
  have hx : x.1.raw = m.raw := by unfold x; split <;> simp [m1]
  split
  · rfl
  · split
    · exact hx
    · simp [m1]

@[simp] theorem Mod.actAfterTwin_raw (m : Mod) (b : Boot) : (m.actAfterTwin b).2.raw = m.raw := by
  unfold Mod.actAfterTwin
  dsimp only
  split <;> simp [apply_ite Prod.snd, apply_ite Mod.raw]

@[simp] theorem Mod.updEnd_raw (m : Mod) (cause : Nat) : (m.updEnd cause).raw = m.raw := by
  simp [Mod.updEnd]

@[simp] theorem Mod.fallBackTry_raw (m : Mod) (b : Boot) : (m.fallBackTry b).2.raw = m.raw := by
  simp [Mod.fallBackTry, apply_ite Prod.fst, apply_ite Prod.snd, apply_ite Mod.raw]

@[simp] theorem Mod.updBoundary_raw (m : Mod) (b : Boot) : (m.updBoundary b).2.raw = m.raw := by
  unfold Mod.updBoundary
  split <;> simp [apply_ite Prod.snd, apply_ite Mod.raw]

/-! ### The takeover and the split (R503, R504, R508) -/

@[simp] theorem Mod.closeOne_raw (m : Mod) (i : Nat) : (m.closeOne i).raw = m.raw := by
  unfold Mod.closeOne
  refine Mod.raw_ite rfl ?_
  split <;> simp

@[simp] theorem Mod.closeTaken_raw (m : Mod) : m.closeTaken.raw = m.raw := by
  unfold Mod.closeTaken
  rw [Mod.onTw_raw]
  exact Mod.raw_foldl Mod.closeOne_raw rfl

@[simp] theorem Mod.takeOver_raw (m : Mod) (cause : Nat) : (m.takeOver cause).raw = m.raw := by
  unfold Mod.takeOver
  rw [Mod.lsDriveAll_raw, Mod.txnTakeover_raw]
  refine Mod.raw_ite ?_ ?_
  all_goals
    simp only [Mod.closeTaken_raw, Mod.evalSide_raw, Mod.markCycles_raw]
    refine Mod.raw_foldl (fun m p => Mod.raw_ite (m.cycBegin_raw p) rfl) ?_
    simp [apply_ite Mod.raw]

@[simp] theorem Mod.splitCheck_raw (m : Mod) : m.splitCheck.raw = m.raw := by
  unfold Mod.splitCheck
  exact Mod.raw_ite (Mod.raw_ite (by simp) (by simp)) (Mod.raw_ite rfl (by simp))

/-! ### The mode's pass (R84) -/

@[simp] theorem Mod.toDegraded_raw (m : Mod) : m.toDegraded.raw = m.raw := by
  unfold Mod.toDegraded
  exact Mod.raw_ite rfl (Mod.raw_ite (m.relinquish_raw 1) (m.setMode_raw _ _))

@[simp] theorem Mod.takeRequest_raw (m : Mod) (par : PStore) : (m.takeRequest par).raw = m.raw := by
  unfold Mod.takeRequest
  split
  · rfl
  · dsimp only
    split <;> split <;> simp

@[simp] theorem Mod.modeStep_raw (m : Mod) (par : PStore) : (m.modeStep par).raw = m.raw := by
  unfold Mod.modeStep
  split
  · simp
  · refine Mod.raw_ite (by simp) (Mod.raw_ite (by simp) ?_)
    split
    · simp
    · split
      · simp
      · rfl
      · simp [apply_ite Mod.raw]

@[simp] theorem Mod.endRequests_raw (m : Mod) (f : Mode → Bool) (st : Nat) : (m.endRequests f st).raw = m.raw := by
  refine Mod.raw_foldl (fun m t => ?_) rfl
  split <;> simp

@[simp] theorem Mod.fabDormant_raw (m : Mod) (won : Bool) : (m.fabDormant won).raw = m.raw := by
  simp [Mod.fabDormant, apply_ite Mod.raw]

@[simp] theorem Mod.modeAfter_raw (m : Mod) (was : Mode) : (m.modeAfter was).raw = m.raw := by
  simp [Mod.modeAfter, apply_ite Mod.raw]

/-! ### The passes before the mode (R8, R29, R32, R85, R508) -/

@[simp] theorem Mod.evacWake_raw (m : Mod) : m.evacWake.raw = m.raw := by
  unfold Mod.evacWake
  exact Mod.raw_ite rfl rfl

@[simp] theorem Mod.evalEvac_raw (m : Mod) : m.evalEvac.raw = m.raw :=
  Mod.raw_foldl (fun m x => Mod.raw_ite rfl (by simp)) rfl

@[simp] theorem Mod.govBoundary_raw (m : Mod) (t : Nat) : (m.govBoundary t).raw = m.raw := by
  unfold Mod.govBoundary
  rw [Mod.onGov_raw]
  split
  · rfl
  · refine Mod.raw_ite rfl (Mod.raw_ite (by simp) ?_)
    dsimp only
    split
    · simp
    · exact Mod.raw_foldl (fun m r => by simp) (by simp)

/-- The period's start is the only part of a boundary that moves R_RAW. -/
@[simp] theorem Mod.periodStart_raw (m : Mod) : m.periodStart.raw = max m.raw m.boundaryAt := by
  simp [Mod.periodStart]

/-! ### The grid (R25) -/

theorem nextMul_mod (raw per : Nat) : nextMul raw per % per = 0 := Nat.mul_mod_left _ _

theorem lt_nextMul {per : Nat} (raw : Nat) (h : 0 < per) : raw < nextMul raw per := by
  rw [nextMul, Nat.mul_comm]
  exact Nat.lt_mul_div_succ raw h

theorem nextMul_le (raw per : Nat) : nextMul raw per ≤ raw + per := by
  have := Nat.div_mul_le_self raw per
  rw [nextMul, Nat.add_mul, Nat.one_mul]
  omega

theorem Mod.boundaryAt_mod (m : Mod) : m.boundaryAt % 50000 = 0 := by
  unfold Mod.boundaryAt
  split
  · next h => exact h.1
  · exact nextMul_mod _ _

theorem Mod.le_boundaryAt (m : Mod) : m.raw ≤ m.boundaryAt := by
  unfold Mod.boundaryAt
  split
  · exact Nat.le_refl _
  · exact Nat.le_of_lt (lt_nextMul m.raw (by decide : 0 < 50000))

theorem Mod.boundaryAt_le (m : Mod) : m.boundaryAt ≤ m.raw + 50000 := by
  unfold Mod.boundaryAt
  split
  · exact Nat.le_add_right _ _
  · exact nextMul_le _ _

/-- A boundary leaves R_RAW at its own instant. -/
theorem execBudgetPeriodBoundary_raw (s : State) (ha : s.m.alive = true) :
    ∃ t, execBudgetPeriodBoundary s = .next t ∧ t.m.raw = s.m.boundaryAt := by
  unfold execBudgetPeriodBoundary
  simp only [ha, if_true]
  refine ⟨_, rfl, ?_⟩
  rw [healthIrq_raw]
  have start : (s.m.periodStart.updBoundary s.boot).2.raw = s.m.boundaryAt := by simp [s.m.le_boundaryAt]
  exact Mod.raw_ite (by simpa using start) start

end Sys2Proof.Machine
end

section
/-! CLAIM. The budget period boundaries stand on the free-running counter (R25). -/
namespace Sys2Proof.Claims

open Sys2Proof.Machine

/-- Settles O11: nothing a boundary does but its start moves R_RAW, and the instant it starts at reads R_RAW and the
last boundary alone (a boundary that acts late acts at the next such instant, assumption 19). -/
theorem periodGrid : Obligations.PeriodGrid := by
  intro s ha
  exact ⟨execBudgetPeriodBoundary_raw s ha, s.m.boundaryAt_mod, s.m.le_boundaryAt, s.m.boundaryAt_le, fun _ => rfl⟩

end Sys2Proof.Claims
end

section
/-! SUPPORT. What a profile tick may change (R201): the relation `Ticked` that every operation of a tick keeps, and the
operations it shares with the commands. -/
namespace Sys2Proof.Machine

open Sys2Proof.Safety

/-- The blocks a tick acts on. The count R_RAW, the next boundary and the fabric time are not among them. -/
def tickBlks : List Blk :=
  [.sup, .mode, .start, .host, .live, .due, .ax, .po, .side, .ob, .saf, .recd, .io, .txn, .fab, .tw, .freeCtr]

/-- A tick may take `a` to `b` once R_RAW stands at its boundary. -/
def Ticked (a b : Mod) : Prop := Only tickBlks a b

namespace Ticked

variable {a b m : Mod}

/-! ### Sequence, choice, repetition -/

theorem refl (m : Mod) : Ticked m m := Only.refl _ _

theorem raw_eq (h : Ticked a b) : b.raw = a.raw := h .raw (by decide)

theorem tickAt_eq (h : Ticked a b) : b.tickAt = a.tickAt := h .tickAt (by decide)

theorem only {l : List Blk} (h : Ticked a m) (k : Only l m b) (hl : ∀ f ∈ l, f ∈ tickBlks) : Ticked a b :=
  h.trans (k.mono hl)

theorem logged (h : Ticked a m) (k : Logged m b) : Ticked a b := h.only k.only (by decide)

theorem drive (h : Ticked a m) (k : Only driveBlks m b) : Ticked a b := h.only k (by decide)

theorem safety (h : Ticked a m) (k : Only safBlks m b) : Ticked a b := h.only k (by decide)

/-- An update writes blocks of a tick alone when the rest of its result is the rest of the module before it. -/
theorem upd (h : Ticked a m)
    (e : b = { m with
      sup := b.sup, mode := b.mode, start := b.start, host := b.host, live := b.live, due := b.due, ax := b.ax,
      po := b.po, side := b.side, ob := b.ob, saf := b.saf, recd := b.recd, io := b.io, txn := b.txn, fab := b.fab,
      tw := b.tw, freeCtr := b.freeCtr }) : Ticked a b := by
  refine h.trans (fun f hf => ?_)
  rw [e]
  cases f
  case id | raw | tickAt | gov | clk | srst | nv | obs | time | can | sec | fw => rfl
  all_goals exact absurd (by decide) hf

theorem ite {x y : Mod} {c : Prop} [Decidable c] (hx : Ticked a x) (hy : Ticked a y) : Ticked a (if c then x else y) :=
  Only.ite hx hy

/-- A loop of a tick: what stays within a tick at every turn does so in all. -/
theorem foldl {α : Type} {l : List α} {f : Mod → α → Mod} (h : Ticked a m) (hf : ∀ n x, Ticked n (f n x)) :
    Ticked a (l.foldl f m) :=
  Only.trans h (Only.foldl l f hf m)

/-! ### Updates of one block -/

theorem saf {x : Machine.Safety} (h : Ticked a m) : Ticked a { m with saf := x } := h.upd rfl
theorem ob {x : ObSt} (h : Ticked a m) : Ticked a { m with ob := x } := h.upd rfl
theorem free {n : Nat} (h : Ticked a m) : Ticked a { m with freeCtr := n } := h.upd rfl
theorem onAx {i : Nat} {f : Axis → Axis} (h : Ticked a m) : Ticked a (m.onAx i f) := h.upd rfl
theorem onAxes {f : Nat → Axis → Axis} (h : Ticked a m) : Ticked a (m.onAxes f) := h.upd rfl
theorem onPo {p : Nat} {f : Portal → Portal} (h : Ticked a m) : Ticked a (m.onPo p f) := h.upd rfl
theorem onCyc {p : Nat} {f : CycAcc → CycAcc} (h : Ticked a m) : Ticked a (m.onCyc p f) := h.upd rfl
theorem onOb {i : Nat} {f : Obst → Obst} (h : Ticked a m) : Ticked a (m.onOb i f) := h.upd rfl
theorem onEdge {e : Nat} {f : Edge → Edge} (h : Ticked a m) : Ticked a (m.onEdge e f) := h.upd rfl
theorem onRec {f : RecSt → RecSt} (h : Ticked a m) : Ticked a (m.onRec f) := h.upd rfl
theorem onSaf {f : Machine.Safety → Machine.Safety} (h : Ticked a m) : Ticked a (m.onSaf f) := h.upd rfl
theorem onSafAx {i : Nat} {f : SafAx → SafAx} (h : Ticked a m) : Ticked a (m.onSafAx i f) := h.upd rfl
theorem onStart {f : StartSt → StartSt} (h : Ticked a m) : Ticked a (m.onStart f) := h.upd rfl
theorem onSup {f : Sup → Sup} (h : Ticked a m) : Ticked a (m.onSup f) := h.upd rfl
theorem onTxn {f : TxnSt → TxnSt} (h : Ticked a m) : Ticked a (m.onTxn f) := h.upd rfl
theorem onFab {f : FabSt → FabSt} (h : Ticked a m) : Ticked a (m.onFab f) := h.upd rfl
theorem onTw {f : TwinSt → TwinSt} (h : Ticked a m) : Ticked a (m.onTw f) := h.upd rfl
theorem onLs {n : Nat} {f : Ls → Ls} (h : Ticked a m) : Ticked a (m.onLs n f) := h.upd rfl
theorem takeDue {f : PDef → Nat → Bool} (h : Ticked a m) : Ticked a (m.takeDue f) := h.upd rfl
theorem addOp {x : Option Hdr} {k : LongKind} {e : Nat} (h : Ticked a m) : Ticked a (m.addOp x k e) := h.upd rfl
theorem dropOps {f : LongOp → Bool} (h : Ticked a m) : Ticked a (m.dropOps f) := h.upd rfl
theorem setLearn {l : List Learn} (h : Ticked a m) : Ticked a (m.setLearn l) := h.upd rfl

/-! ### Events and completions -/

theorem raise {code src : Nat} {pay : List Int} (h : Ticked a m) : Ticked a (m.raise code src pay) :=
  h.logged (Logged.raise m code src pay)

theorem raiseT {t : Int} {code src : Nat} {pay : List Int} (h : Ticked a m) : Ticked a (m.raiseT t code src pay) :=
  h.logged (Logged.raiseT m t code src pay)

theorem complete {x : Hdr} {r : Reply} (h : Ticked a m) : Ticked a (m.complete x r) := h.logged (Logged.complete m x r)

theorem completeTo {x : Option Hdr} {r : Reply} (h : Ticked a m) : Ticked a (m.completeTo x r) :=
  h.logged (Logged.completeTo m x r)

theorem answer {src : MSrc} {r : Reply} (h : Ticked a m) : Ticked a (m.answer src r) := by
  cases src
  case ring => exact h.complete
  all_goals exact h

theorem sendTwin {k d : Nat} {x : List Int} (h : Ticked a m) : Ticked a (m.sendTwin k d x) := .ite (h.upd rfl) h

theorem lsCommand {n st : Nat} (h : Ticked a m) : Ticked a (m.lsCommand n st) := .ite h.onLs.sendTwin h.onLs

/-! ### Drives and safety functions -/

theorem life {k n : Nat} (h : Ticked a m) : Ticked a (m.life k n) := h.onRec
theorem markRole {i k : Nat} {n : Option Nat} (h : Ticked a m) : Ticked a (m.markRole i k n) :=
  h.drive (Only.markRole m i k n)
theorem markLearn {i n : Nat} (h : Ticked a m) : Ticked a (m.markLearn i n) := h.drive (Only.markLearn m i n)
theorem moveEndAt {i tag reason t : Nat} (h : Ticked a m) : Ticked a (m.moveEndAt i tag reason t) := h.raiseT
theorem moveEnd {i tag reason : Nat} (h : Ticked a m) : Ticked a (m.moveEnd i tag reason) := h.moveEndAt
theorem dropTorque {i : Nat} (h : Ticked a m) : Ticked a (m.dropTorque i) := h.drive (Only.dropTorque m i)
theorem latch {i c : Nat} (h : Ticked a m) : Ticked a (m.latch i c) := h.drive (Only.latch m i c)
theorem gainTorque {i : Nat} (h : Ticked a m) : Ticked a (m.gainTorque i) := h.onAx
theorem openIso {i : Nat} (h : Ticked a m) : Ticked a (m.openIso i) := h.onAx
theorem monitor {i : Nat} {safe : Bool} (h : Ticked a m) : Ticked a (m.monitor i safe) := h.onSafAx
theorem demand {g c : Nat} (h : Ticked a m) : Ticked a (m.demand g c) := h.safety (Only.demand m g c)
theorem trip {g c : Nat} (h : Ticked a m) : Ticked a (m.trip g c) := h.safety (Only.trip m g c)
theorem trig {t : Trig} (h : Ticked a m) : Ticked a (m.trig t) := h.safety (Only.trig m t)
theorem loseView {x : Bool} {k : Nat} (h : Ticked a m) : Ticked a (m.loseView x k) := h.safety (Only.loseView m x k)
theorem loopEval (h : Ticked a m) : Ticked a m.loopEval := h.safety (Only.loopEval m)

theorem loseRef {i c : Nat} (h : Ticked a m) : Ticked a (m.loseRef i c) := .ite h.onAx.raise.markRole h

/-- A stop leaves the axis to its plan, or marks it for the next tick. -/
theorem halt {i : Nat} {why : StopWhy} {toEnc : Bool} (h : Ticked a m) : Ticked a (m.halt i why toEnc) := by
  unfold Mod.halt
  split
  case h_1 =>
    extract_lets m1 m2 mv m3
    have h1 : Ticked a m1 := by
      unfold m1
      split
      · exact h.onAx
      · exact h
    have h2 : Ticked a m2 := by
      unfold m2
      split
      · exact h1.moveEnd
      · exact h1
    have h3 : Ticked a m3 := h2.onAx
    exact .ite (.ite h3 (.ite h3.monitor.markRole h3.monitor.markLearn)) h1.onAx
  case h_2 =>
    split
    · exact h.latch
    · exact h

theorem faultStop {i : Nat} {c : Option Nat} (h : Ticked a m) : Ticked a (m.faultStop i c) := h.halt

theorem safeStop {g c sto : Nat} (h : Ticked a m) : Ticked a (m.safeStop g c sto) :=
  .ite h.demand (h.saf.raise.foldl (fun n _ => (refl n).halt))

end Ticked

end Sys2Proof.Machine
end

section
/-! SUPPORT. The profile generators and the homing of a tick stay within `Ticked` (R202 to R232). -/
namespace Sys2Proof.Machine

namespace Ticked

variable {a m : Mod}

/-! ### A plan begins, ends or changes -/

theorem markLimited {i : Nat} (h : Ticked a m) : Ticked a (m.markLimited i) := h.onCyc.markLearn

theorem probeReset {p : Nat} (h : Ticked a m) : Ticked a (m.probeReset p) := h.onPo.foldl (fun n _ => (refl n).onOb)

theorem beginMove {i start : Nat} {p0 : Int} {n : Pend} (h : Ticked a m) : Ticked a (m.beginMove i start p0 n) := by
  unfold Mod.beginMove
  extract_lets m1 held m2 m3 m4 x m5 m6 m7 m8
  have h2 : Ticked a m2 := .ite h.takeDue.markLimited h.takeDue
  have h5 : Ticked a m5 := h2.onAx.onOb.ob
  have h6 : Ticked a m6 := .ite h5.probeReset h5
  have h7 : Ticked a m7 := by
    unfold m7
    split
    · exact h6.onCyc
    · exact h6
  exact h7.life.raiseT

theorem endPlan {i : Nat} (h : Ticked a m) : Ticked a (m.endPlan i) := by
  unfold Mod.endPlan
  split
  · exact h
  · extract_lets owed at_ pc m1 m2 m3 m4
    have h2 : Ticked a m2 := h.onAx.onOb
    have h3 : Ticked a m3 := .ite h2.raise.markRole h2
    have h4 : Ticked a m4 := h3.moveEndAt
    refine .ite ?_ h
    split
    · exact h4.beginMove.onAx
    · exact h4.takeDue.foldl (fun n _ => (refl n).latch)

theorem takeReplan {i : Nat} {r : Replan} {l : Lim} (h : Ticked a m) : Ticked a (m.takeReplan i r l) :=
  .ite h.onAx.raise.markRole h.onAx

theorem takeTemp {i : Nat} (h : Ticked a m) : Ticked a (m.takeTemp i) := by
  unfold Mod.takeTemp
  extract_lets x
  split
  · exact .ite h (.ite h.takeReplan.onAx.raise h.takeReplan.onAx)
  · exact h

/-! ### What arrived since the last tick (R203 to R223) -/

theorem takeMove {i : Nat} {n : Pend} {at? : Option Nat} (h : Ticked a m) : Ticked a (m.takeMove i n at?) := by
  unfold Mod.takeMove
  split
  · exact h.beginMove.answer.endPlan
  · extract_lets m1 st st' m2
    have h1 : Ticked a m1 := by
      unfold m1
      split
      · exact h.moveEnd
      · exact h
    exact h1.onAx.answer

theorem takeStop {i : Nat} {src : MSrc} (h : Ticked a m) : Ticked a (m.takeStop i src) := by
  unfold Mod.takeStop
  split
  · exact h.answer
  · extract_lets m1 st m2 m3
    have h1 : Ticked a m1 := by
      unfold m1
      split
      · exact h.moveEnd
      · exact h
    exact h1.onAx.answer.endPlan

theorem takeLimits {i : Nat} {src : MSrc} {l : LimitArgs} (h : Ticked a m) : Ticked a (m.takeLimits i src l) := by
  unfold Mod.takeLimits
  split
  · exact h.answer
  · split
    · exact h.answer
    · exact h.takeReplan.answer

theorem takeReact {i d : Nat} (h : Ticked a m) : Ticked a (m.takeReact i d) := by
  unfold Mod.takeReact
  split
  · exact .ite h h.takeReplan
  · exact h

theorem takeJog {i : Nat} {x : Hdr} {pos redirect : Bool} {speed : Nat} (h : Ticked a m) :
    Ticked a (m.takeJog i x pos redirect speed) := by
  unfold Mod.takeJog
  split
  · exact h.complete
  · exact .ite h.complete (.ite h.complete (.ite h.complete h.takeMove.onAx))

theorem refuseArr {i st : Nat} {src : MSrc} (h : Ticked a m) : Ticked a (m.refuseArr i src st) := by
  cases src
  case table => exact h.raise.onPo
  all_goals exact h.answer

theorem takeArr {i : Nat} {x : Arr} {rest : List Arr} (h : Ticked a m) : Ticked a (m.takeArr i x rest).1 := by
  cases x with
  | move src y at? =>
    have moved {n : Pend} : Ticked a (m.takeMove i n at?) := h.takeMove
    unfold Mod.takeArr
    dsimp only
    split
    · exact .ite moved moved.dropTorque
    · split
      · exact h.refuseArr
      · exact moved
  | jog => exact .ite h.complete h.takeJog
  | stop => exact .ite h.answer h.takeStop
  | react => exact h.takeReact
  | limits src l =>
    unfold Mod.takeArr
    dsimp only
    split
    · exact h.answer
    · split
      · exact h.answer
      · exact h.takeLimits

theorem takeArrs {i k : Nat} {l : List Arr} (h : Ticked a m) : Ticked a (m.takeArrs i k l) := by
  induction k generalizing m l with
  | zero => exact h
  | succ k ih =>
    cases l with
    | nil => exact h
    | cons x rest => exact ih h.takeArr

/-! ### A generator's tick -/

theorem genTick {i : Nat} (h : Ticked a m) : Ticked a (m.genTick i) := by
  unfold Mod.genTick
  extract_lets m1 m2 pe m3 m4 m5 items m6 m7 m8
  have h2 : Ticked a m2 := h.onAx.endPlan.endPlan
  have h3 : Ticked a m3 := .ite h2 h2.onAx
  have h4 : Ticked a m4 := by
    unfold m4
    split
    · exact h3.halt
    · exact h3
  have h8 : Ticked a m8 := h4.onAx.onAx.takeArrs.onAx.takeTemp
  split
  · exact h8.onAx
  · exact h8.endPlan

theorem tempTick {i : Nat} (h : Ticked a m) : Ticked a (m.tempTick i) := .ite h.onAx h

theorem inPosTick {i : Nat} (h : Ticked a m) : Ticked a (m.inPosTick i) := .ite h.onAx (.ite h.onAx h.onAx)

theorem ampUpdate {i : Nat} (h : Ticked a m) : Ticked a (m.ampUpdate i) := .ite h.onAx.raise h.onAx

/-! ### Homing (R224 to R229) -/

theorem onHome {i : Nat} {f : HomeRun → HomeRun} (h : Ticked a m) : Ticked a (m.onHome i f) := h.onAx

theorem homeBegin {i : Nat} (h : Ticked a m) : Ticked a (m.homeBegin i) := h.takeDue.loseRef.onAx

theorem homeEnd {i : Nat} {fail : Option Nat} (h : Ticked a m) : Ticked a (m.homeEnd i fail) := by
  unfold Mod.homeEnd
  extract_lets op um m1 m2
  have h2 : Ticked a m2 := by
    unfold m2
    split
    · exact .ite h.onAx.raise.onAx h.onAx.raise
    · exact h.onAx.onAx
  clear_value m2 op
  split
  · exact h2
  · split
    · exact h2.dropOps.completeTo
    · split
      · exact h2.homeBegin
      · exact h2.dropOps.completeTo
    · exact h2.dropOps.completeTo
    · exact h2

theorem homeStart {i : Nat} (h : Ticked a m) : Ticked a (m.homeStart i) :=
  .ite h (.ite h.onStart.addOp.homeBegin h.onStart.addOp.homeEnd)

theorem homeNext (h : Ticked a m) : Ticked a m.homeNext := h.foldl (fun n _ => (refl n).homeStart)

theorem homeMove {i : Nat} {target : Int} {creep : Bool} (h : Ticked a m) : Ticked a (m.homeMove i target creep) :=
  h.takeMove.onHome

theorem homeTake {i : Nat} {x : HomeRun} {ref : Int} (h : Ticked a m) : Ticked a (m.homeTake i x ref) := by
  have fixed : Ticked a (m.homeFix i x.method ref) := h.onAx.onAx.raise
  exact .ite fixed.onHome fixed.homeEnd

theorem homeTick {i : Nat} (h : Ticked a m) : Ticked a (m.homeTick i) := by
  unfold Mod.homeTick
  split
  · exact h
  · extract_lets far pe pc sw m1
    have h1 : Ticked a m1 := h.onHome
    have lost {c : Bool} {n : Mod} (hn : Ticked a n) : Ticked a (if c then n.homeEnd i (some 1) else n) :=
      .ite hn.homeEnd hn
    refine .ite h.homeEnd (.ite h.homeEnd ?_)
    split
    · exact .ite h1.homeEnd h1
    · refine .ite h1.homeTake (.ite (.ite (.ite h1.onHome h1.homeMove) (.ite h1.takeStop.onHome (lost h1)))
        (.ite h1.homeMove (lost h1.onHome)))
    · exact .ite h1 h1.onHome
    · exact .ite h1.homeMove (.ite h1.homeMove.onHome (lost h1))
    · exact .ite h1 h1.onHome
    · refine .ite h1.homeMove ?_
      split
      · exact .ite h1.onHome h1.homeTake
      · exact lost h1
    · exact lost h1
    · exact .ite h1.homeTake h1
    · exact .ite h1.homeMove (.ite h1 h1.homeEnd)

end Ticked

end Sys2Proof.Machine
end

section
/-! SUPPORT. Obstacle detection, portals, learning and the sequence tables of a tick stay within `Ticked` (R241 to R260,
R270 to R293). -/
namespace Sys2Proof.Machine

namespace Ticked

variable {a m : Mod}

/-! ### Detection of obstacles -/

theorem obstTick {i : Nat} (h : Ticked a m) : Ticked a (m.obstTick i) := by
  have h1 {f : Axis → Axis} {g k : Obst → Obst} : Ticked a (((m.onAx i f).onOb i g).onOb i k) := h.onAx.onOb.onOb
  unfold Mod.obstTick
  extract_lets x o d iq m1 m2 ok f run e m3
  split
  · exact h1
  · exact .ite h1.onOb (.ite h1.onOb h1.onOb)

theorem probeTick {i : Nat} (h : Ticked a m) : Ticked a (m.probeTick i) := by
  unfold Mod.probeTick
  extract_lets p on
  split
  · exact .ite (.ite h.onOb h.onOb) h
  · exact .ite (.ite h.onOb h.onOb) h
  · exact h

theorem capAmp {i : Nat} {f : Int} (h : Ticked a m) : Ticked a (m.capAmp i f) := h.onOb

theorem reactDecel {i : Nat} (h : Ticked a m) : Ticked a (m.reactDecel i) := .ite h (.ite h.onAx.raise h.onAx)

theorem detect {i bit : Nat} {closing : Bool} {f : Int} (h : Ticked a m) : Ticked a (m.detect i bit closing f) := by
  unfold Mod.detect
  split
  · exact h
  · extract_lets x during m1 m2 o m3 react m4 m5
    have h2 : Ticked a m2 := h.raise.onCyc
    have h3 : Ticked a m3 := .ite h2.ob h2
    have h5 : Ticked a m5 := h3.onPo.reactDecel
    exact .ite (.ite h3.capAmp h3) (.ite (.ite h5.capAmp (.ite h5 h5.onOb)) h5)

theorem edgeDeclare {e : Nat} (h : Ticked a m) : Ticked a (m.edgeDeclare e) := by
  unfold Mod.edgeDeclare
  split
  · exact h.detect
  · exact h

theorem edgeFail {e c : Nat} (h : Ticked a m) : Ticked a (m.edgeFail e c) := .ite h h.onEdge.raise

theorem edgesDeclare {i : Nat} (h : Ticked a m) : Ticked a (m.edgesDeclare i) :=
  h.foldl (fun n _ => .ite (refl n).edgeDeclare (refl n))

theorem edgeTests {p : Nat} (h : Ticked a m) : Ticked a (m.edgeTests p) := by
  refine h.foldl (fun n e => ?_)
  split
  · exact .ite (refl n).takeDue.onEdge (refl n)
  · exact refl n

theorem edgeEntry {p st : Nat} (h : Ticked a m) : Ticked a (m.edgeEntry p st) := by
  unfold Mod.edgeEntry
  extract_lets m1
  have h1 : Ticked a m1 := .ite (h.foldl (fun n _ => (refl n).edgesDeclare)) h
  exact .ite h1.edgeTests h1

theorem edgeTick {p : Nat} {l : List Nat} (h : Ticked a m) : Ticked a (m.edgeTick p l) :=
  (h.foldl (fun n _ => .ite (refl n).onEdge (refl n))).foldl (fun n _ => (refl n).edgeDeclare)

/-! ### Cycles (R272, R522, R523) -/

theorem learnLeaf {p r i : Nat} {c : CycAcc} (h : Ticked a m) : Ticked a (m.learnLeaf p r i c) := by
  unfold Mod.learnLeaf
  extract_lets o sh ceil smps x f f' f'' m1 m2 m3
  have h2 : Ticked a m2 := by
    unfold m2
    split
    · exact h.onOb.raise
    · exact h.onOb
  exact .ite (.ite h2.raise.sendTwin h2.raise) h

theorem learnCycle {x : Nat × CycAcc} (h : Ticked a m) : Ticked a (m.learnCycle x) := by
  refine h.foldl (fun n r => ?_)
  split
  · exact (refl n).learnLeaf
  · exact refl n

theorem lifeFlush (h : Ticked a m) : Ticked a m.lifeFlush := h.life.onRec.foldl (fun n _ => (refl n).life.life.onAx)

theorem lifeSaveOf {p : Nat} (h : Ticked a m) : Ticked a (m.lifeSaveOf p) := h.onRec

theorem stageRec {r : JRec} (h : Ticked a m) : Ticked a (m.stageRec r) := h.onRec

theorem cycBegin {p : Nat} (h : Ticked a m) : Ticked a (m.cycBegin p) := h.onPo

theorem cycEnd {p st : Nat} {cut : Bool} (h : Ticked a m) : Ticked a (m.cycEnd p st cut) := by
  unfold Mod.cycEnd
  split
  · exact h
  · extract_lets c good m1 flags m2 m3 m4 m5 m6 m7
    have h3 : Ticked a m3 := by
      refine foldl h.life.stageRec (fun n r => ?_)
      split
      · exact (refl n).life
      · exact refl n
    have h4 : Ticked a m4 := h3.free.lifeFlush.lifeSaveOf
    have h6 : Ticked a m6 := by
      refine foldl h4.onPo (fun n e => ?_)
      split
      · exact .ite (.ite (refl n).onEdge.edgeFail (refl n).onEdge) (refl n)
      · exact refl n
    have h7 : Ticked a m7 := h6.raise
    refine .ite (.ite h7.learnCycle h7.ob) ?_
    split
    · exact h7.raise
    · exact h7

theorem cycTick {p : Nat} (h : Ticked a m) : Ticked a (m.cycTick p) := by
  unfold Mod.cycTick
  split
  · exact h
  · exact h.onPo

/-! ### States of a portal -/

theorem countsRestart {p : Nat} (h : Ticked a m) : Ticked a (m.countsRestart p) := h.foldl (fun n _ => (refl n).onOb)

theorem toState {p new row : Nat} {c : Option Nat} (h : Ticked a m) : Ticked a (m.toState p new row c) := by
  unfold Mod.toState
  extract_lets old m1 m2 m3 m4 m5 m6 m7 m8 m9 m10 m11 m12
  have h1 : Ticked a m1 := .ite h.takeDue h
  have h3 : Ticked a m3 := h1.onPo.countsRestart.raise
  have h4 : Ticked a m4 := .ite h3.raise h3
  have h5 : Ticked a m5 := by
    unfold m5
    split
    · exact h4.life
    · exact h4
  have h6 : Ticked a m6 := .ite h5.onCyc h5
  have h7 : Ticked a m7 := .ite h6.onCyc h6
  have h8 : Ticked a m8 := .ite h7.cycBegin h7
  have h9 : Ticked a m9 := .ite h8.onCyc h8
  have h10 : Ticked a m10 := .ite h9.cycEnd h9
  have h11 : Ticked a m11 := .ite h10.demand h10
  have h12 : Ticked a m12 := .ite h11.onPo h11
  exact .ite h h12.edgeEntry

theorem fromSensors {p : Nat} (h : Ticked a m) : Ticked a (m.fromSensors p) := by
  unfold Mod.fromSensors
  extract_lets new was m1 m2
  have h2 : Ticked a m2 := h.onPo.onPo.probeReset.toState
  exact .ite (.ite h2.onPo.raise h2) h.onPo

theorem stepTick {p : Nat} {was started : Bool} (h : Ticked a m) : Ticked a (m.stepTick p was started) := by
  unfold Mod.stepTick
  split
  · exact h.onPo
  · extract_lets m1 k m2 m3 old new
    have h1 : Ticked a m1 := .ite h.onPo h
    have h2 : Ticked a m2 := .ite h1.onPo h1
    have h3 : Ticked a m3 := by
      unfold m3
      split
      · exact .ite h2.onPo h2
      · exact h2
    exact .ite h3 h3.onPo.raise

/-- A portal's moving axes stop when it faults. -/
theorem stopAxes {p : Nat} (h : Ticked a m) :
    Ticked a ((m.roleAxes p).foldl (fun m i => if m.moving i then m.faultStop i none else m) m) :=
  h.foldl (fun n _ => .ite (refl n).faultStop (refl n))

theorem portalFault {p c : Nat} (h : Ticked a m) : Ticked a (m.portalFault p c) :=
  .ite h h.toState.onPo.raise.stopAxes

theorem fixedStep {p : Nat} (h : Ticked a m) : Ticked a (m.fixedStep p) := by
  unfold Mod.fixedStep
  extract_lets st refused m1 handle m2 m3 m4 m5
  have h1 : Ticked a m1 := h.onPo
  have h5 : Ticked a m5 := h1.toState.raise
  exact .ite (.ite h1.toState h1.toState.demand) (.ite (.ite h1.toState.safeStop h1.toState)
    (.ite h1.fromSensors (.ite h1.portalFault (.ite h5.life (.ite h1.portalFault h1)))))

theorem lockTick {p : Nat} (h : Ticked a m) : Ticked a (m.lockTick p) := h.onPo

theorem probeCombine {p : Nat} (h : Ticked a m) : Ticked a (m.probeCombine p) := h.onPo

theorem publish {p : Nat} (h : Ticked a m) : Ticked a (m.publish p) := h.onPo

theorem refreshPortal {p : Nat} (h : Ticked a m) : Ticked a (m.refreshPortal p) :=
  publish (.ite h.fromSensors.ob h.fromSensors)

/-! ### Learn runs (R270) -/

theorem onLearn {p : Nat} {f : Learn → Learn} (h : Ticked a m) : Ticked a (m.onLearn p f) := h.setLearn

theorem learnWarn {p : Nat} {on : Bool} (h : Ticked a m) : Ticked a (m.learnWarn p on) := by
  unfold Mod.learnWarn
  extract_lets m1
  have h1 : Ticked a m1 := by
    unfold m1
    split
    · exact h.lsCommand
    · exact h
  split
  · exact h1.lsCommand
  · exact h1

theorem learnStop {p : Nat} (h : Ticked a m) : Ticked a (m.learnStop p) :=
  (setLearn (h.foldl (fun n _ => .ite (refl n).onAx (refl n)))).learnWarn

theorem learnFailed {p d : Nat} (h : Ticked a m) : Ticked a (m.learnFailed p d) := h.learnStop.dropOps.completeTo

theorem learnMove {p r k set : Nat} (h : Ticked a m) : Ticked a (m.learnMove p r k set) := by
  unfold Mod.learnMove
  split
  · dsimp only
    split
    · exact h.onLearn
    · exact h.onAx
  · exact h

theorem learnOpen {p : Nat} (h : Ticked a m) : Ticked a (m.learnOpen p) := h.learnMove.learnMove.onLearn

theorem learnSample {p : Nat} (h : Ticked a m) : Ticked a (m.learnSample p) := by
  refine h.foldl (fun n r => ?_)
  split
  · dsimp only
    split
    · exact .ite (refl n).onLearn (refl n)
    · exact refl n
  · exact refl n

theorem learnTick {l : Learn} (h : Ticked a m) : Ticked a (m.learnTick l) := by
  unfold Mod.learnTick
  extract_lets p m1 m2
  have h1 : Ticked a m1 := h.learnSample
  have h2 : Ticked a m2 := h1.onLearn
  split
  · exact h.learnFailed
  · exact h.learnFailed
  · split
    · split
      · exact h1.learnOpen
      · exact h1.learnFailed
      · exact h1
    · split
      · exact h1.learnWarn.onLearn
      · exact h1.learnFailed
      · exact h1
    · exact .ite h1.learnWarn.learnMove.learnMove.onLearn h1
    · split
      · exact h1.onLearn
      · exact h1.learnFailed
      · exact h1
    · exact .ite (.ite h2.learnOpen h2.learnMove.onLearn) h1
    · split
      · exact h1.onLearn
      · exact h1.learnFailed
      · exact h1
    · exact .ite h1.onLearn (.ite h1.learnFailed h1)
    · exact h1

/-! ### Sequence tables (R244 to R252) -/

theorem commitLocal {c : Nat} {at? : Option Int} {table : Option Nat} (h : Ticked a m) :
    Ticked a (m.commitLocal c at? table).1 := by
  unfold Mod.commitLocal
  extract_lets x grant bad n go t
  have staged {t : Int} : Ticked a (go t).1 := h.onTxn.onTxn
  split
  · exact h
  · split
    · exact h
    · split
      · exact h
      · split
        · split
          · exact h
          · exact staged
        · exact staged

theorem doAct {p row x w : Nat} (h : Ticked a m) : Ticked a (m.doAct p row x w) := by
  unfold Mod.doAct
  refine .ite (.ite h (h.foldl (fun n y => ?_))) (.ite (.ite h (h.foldl (fun n _ => (refl n).onAx)))
    (.ite h.lsCommand (.ite h.onPo (.ite h.onPo (.ite h.raise (.ite h.commitLocal h))))))
  split
  · exact (refl n).onAx
  · exact refl n

theorem runAct {p row : Nat} {x : Nat × Nat} (h : Ticked a m) : Ticked a (m.runAct p row x) := .ite h.onTxn h.doAct

theorem fireRow {p k : Nat} {r : List Nat} (h : Ticked a m) : Ticked a (m.fireRow p k r) := by
  unfold Mod.fireRow
  extract_lets st next m1 m2 m3
  split
  · exact h.raise.portalFault
  · have h1 : Ticked a m1 := h.foldl (fun n _ => (refl n).runAct)
    have h3 : Ticked a m3 := h1.toState.onPo.raise
    exact .ite h1 (.ite h3.stopAxes h1.toState)

theorem unhandled {p st : Nat} {fresh : List Nat} {fired : Option (List Nat)} (h : Ticked a m) :
    Ticked a (m.unhandled p fresh st fired) := by
  refine h.foldl (fun n r => ?_)
  split
  · exact .ite (refl n) (refl n).onAx.raise
  · exact refl n

theorem scan {p : Nat} (h : Ticked a m) : Ticked a (m.scan p) := by
  unfold Mod.scan
  extract_lets m1 q fresh st m2 t hits arms can fires armed now m3
  have h2 : Ticked a m2 := h.publish.onPo
  clear_value can
  refine .ite h2 ?_
  split
  · exact h2.onPo.fireRow.unhandled
  · exact h2.onPo.unhandled

/-! ### An axis and a portal at a tick -/

theorem axisTick {i : Nat} (h : Ticked a m) : Ticked a (m.axisTick i) := by
  unfold Mod.axisTick
  extract_lets n was m1 m2 m3 m4
  have h3 : Ticked a m3 := h.tempTick.genTick.homeTick.inPosTick.obstTick
  have h4 : Ticked a m4 := by
    unfold m4
    split
    · exact .ite h3.probeTick (.ite h3.stepTick h3)
    · exact h3
  exact h4.ampUpdate

theorem portalTick {p : Nat} (h : Ticked a m) : Ticked a (m.portalTick p) := by
  unfold Mod.portalTick
  extract_lets moves m1 edges m2 m3 m4 m5 m6
  have h1 : Ticked a m1 := h.foldl (fun n _ => (refl n).axisTick)
  have h3 : Ticked a m3 := h1.probeCombine.lockTick.foldl (fun n _ => (refl n).learnTick)
  have h4 : Ticked a m4 := .ite h3.fixedStep.scan (.ite h3.publish h3.refreshPortal)
  have h6 : Ticked a m6 := .ite h4.edgeTick.stepTick h4.edgeTick
  exact .ite h6.cycTick h1.onPo.publish

end Ticked

end Sys2Proof.Machine
end

section
/-! SUPPORT. The checks and the end of a tick stay within `Ticked`; the grid the ticks stand on (R201). -/
namespace Sys2Proof.Machine

open Sys2Proof.Safety

namespace Ticked

variable {a m : Mod}

/-! ### Values and tables that wait for a tick, and the twin (R163, R248, R504) -/

theorem reserveTick {x : Nat} (h : Ticked a m) : Ticked a (m.reserveTick x) :=
  .ite h.onSup.onSup.raise (.ite h.onSup.onSup h.onSup)

theorem tableTake {p : Nat} {t : List (List Nat)} (h : Ticked a m) : Ticked a (m.tableTake p t) := h.onPo.raise

theorem takeSel {l : List Nat} {i : Nat} (h : Ticked a m) : Ticked a (m.takeSel l i) :=
  .ite (.ite h.onAx.raise h.onAx) (.ite h.onAx h)

theorem takeWaiting (h : Ticked a m) : Ticked a m.takeWaiting := by
  unfold Mod.takeWaiting
  extract_lets hit m1 m2 m3
  have h2 : Ticked a m2 := h.takeDue.foldl (fun n _ => (refl n).takeSel)
  refine onFab (foldl h2 (fun n p => ?_))
  split
  · exact .ite (refl n).tableTake (refl n)
  · exact refl n

theorem closeOne {i : Nat} (h : Ticked a m) : Ticked a (m.closeOne i) := by
  unfold Mod.closeOne
  refine .ite h ?_
  split
  · exact h.raise.latch
  · exact h.onAx

theorem closeTaken (h : Ticked a m) : Ticked a m.closeTaken := (h.foldl (fun n _ => (refl n).closeOne)).onTw

theorem resumeProbe {i : Nat} (h : Ticked a m) : Ticked a (m.resumeProbe i) := by
  unfold Mod.resumeProbe
  extract_lets p st
  clear_value st
  refine .ite ?_ h
  split
  · exact h.onOb
  · exact h

theorem resumeAxis {i : Nat} (h : Ticked a m) : Ticked a (m.resumeAxis i) := by
  unfold Mod.resumeAxis
  split
  · exact h
  · dsimp only
    split
    · exact h.onOb.onAx.resumeProbe.onAx
    · exact h.onOb.onAx.onAx.onOb.takeReplan

theorem twinTick (h : Ticked a m) : Ticked a m.twinTick := by
  unfold Mod.twinTick
  extract_lets m1 go m2
  have h1 : Ticked a m1 := by
    unfold m1
    split
    · exact .ite h.closeTaken h
    · exact h
  exact (h1.foldl (fun n _ => (refl n).resumeAxis)).onTw

/-! ### Drive checks (R188, R190 to R192) -/

theorem stallTick {i : Nat} (h : Ticked a m) : Ticked a (m.stallTick i) := .ite h.onAx h.onAx

theorem crossTick {i : Nat} (h : Ticked a m) : Ticked a (m.crossTick i) :=
  .ite (.ite h.onAx.raise.loseView h.onAx) h.onAx

theorem lostTick {i : Nat} (h : Ticked a m) : Ticked a (m.lostTick i) := .ite (.ite h h.onAx.raise) h.onAx

/-! ### Safety checks (R77, R314, R317, R336, R338) -/

theorem envTick {i : Nat} (h : Ticked a m) : Ticked a (m.envTick i) := by
  unfold Mod.envTick
  extract_lets x y vr vb g
  split
  · exact h
  · extract_lets nr nb m1 m2 m3
    have h1 : Ticked a m1 := h.onSafAx
    have h3 : Ticked a m3 := h1.raise.foldl (fun n _ => (refl n).onSafAx)
    exact .ite h3.onSaf.trip h1

theorem zoneTick {p : Nat} (h : Ticked a m) : Ticked a (m.zoneTick p) := by
  unfold Mod.zoneTick
  split
  · exact h
  · exact .ite h.onSaf.raise.trip h.onSaf

theorem stepDeploy {p : Nat} (h : Ticked a m) : Ticked a (m.stepDeploy p) := by
  unfold Mod.stepDeploy
  split
  · exact .ite h.onSaf (.ite h.onSaf.raise.trip h.onSaf)
  · exact h

theorem stoTick {g : Nat} (h : Ticked a m) : Ticked a (m.stoTick g) := .ite h.onSaf.raise h.onSaf

theorem isoTick {i : Nat} (h : Ticked a m) : Ticked a (m.isoTick i) := by
  unfold Mod.isoTick
  extract_lets x
  refine .ite (.ite ?_ (.ite h.gainTorque h)) (.ite h (openIso (.ite h.dropTorque h)))
  split
  · exact h.onAx
  · exact .ite h.raise.latch (.ite h h.raise.trig)

/-! ### The whole tick -/

theorem mirrorSend (h : Ticked a m) : Ticked a m.mirrorSend := h.onTw.sendTwin.onTw

theorem tickEnd (h : Ticked a m) : Ticked a m.tickEnd := by
  unfold Mod.tickEnd
  extract_lets m1 words m2 vals m3
  have h3 : Ticked a m3 := onRec (h.foldl (fun n _ => (refl n).onAx)) |>.onFab
  exact .ite h3.mirrorSend h3

theorem takeCount {inp : TickIn} {i : Nat} (h : Ticked a m) : Ticked a (m.takeCount inp i) := by
  unfold Mod.takeCount
  extract_lets ssi b m1 c moved m2 lim x slow
  have h1 : Ticked a m1 := .ite h (.ite h.onAx.onAx h.onAx)
  exact h1.onSafAx.onSafAx

theorem fullTick {inp : TickIn} (h : Ticked a m) : Ticked a (m.fullTick inp) := by
  unfold Mod.fullTick
  extract_lets m1 m2 m3 m4 m5 m6 m7 m8 m9 m10 m11
  have h3 : Ticked a m3 := h.reserveTick.onSup.onAxes.takeWaiting.twinTick
  have h4 : Ticked a m4 := .ite h3.homeNext h3
  have h5 : Ticked a m5 := h4.foldl (fun n _ => .ite (refl n).gainTorque (refl n))
  have h6 : Ticked a m6 := h5.foldl (fun n _ => (refl n).portalTick)
  have h7 : Ticked a m7 := h6.foldl (fun n _ => (refl n).stallTick.crossTick.lostTick.envTick)
  have h8 : Ticked a m8 := h7.foldl (fun n _ => (refl n).zoneTick.stepDeploy)
  have h10 : Ticked a m10 := h8.loopEval.foldl (fun n _ => (refl n).stoTick)
  have h11 : Ticked a m11 := h10.foldl (fun n _ => (refl n).isoTick)
  exact h11.tickEnd

end Ticked

/-! ### The grid (R201) -/

theorem Mod.tickInstant_mod (m : Mod) : m.tickInstant % 20000 = 0 := Nat.mul_mod_left _ _

theorem Mod.le_tickInstant (m : Mod) : m.raw ≤ m.tickInstant := by
  have late : m.raw ≤ max m.raw m.tickAt := Nat.le_max_left _ _
  unfold Mod.tickInstant
  omega

/-- The module at the instant of its tick, before the tick acts. -/
def Mod.atInstant (m : Mod) : Mod := { m.advance m.tickInstant with tickAt := m.tickInstant + 20000 }

theorem Mod.atInstant_raw (m : Mod) : m.atInstant.raw = m.tickInstant := Nat.max_eq_right m.le_tickInstant

theorem Mod.atInstant_tickAt (m : Mod) : m.atInstant.tickAt = m.tickInstant + 20000 := rfl

/-- The module once a tick has taken the counts at its instant. -/
def Mod.counted (inp : TickIn) (m : Mod) : Mod := m.atInstant.axes.foldl (fun m i => m.takeCount inp i) m.atInstant

/-- PROFILE_TICK on the module: the counts alone while the control die is in reset, everything else when it works. -/
def Mod.profileTick (inp : TickIn) (m : Mod) : Mod :=
  if (m.counted inp).alive then (m.counted inp).fullTick inp else m.counted inp

theorem execProfileTick_eq_pow (inp : TickIn) (s : State) : execProfileTick inp s = s.pow (Mod.profileTick inp) := rfl

/-- A tick moves the module to its instant; from there it acts on the blocks of a tick alone, in reset and out of it. -/
theorem Mod.profileTick_ticked (inp : TickIn) (m : Mod) : Ticked m.atInstant (m.profileTick inp) := by
  have counts : Ticked m.atInstant (m.counted inp) := (Ticked.refl _).foldl (fun n _ => (Ticked.refl n).takeCount)
  exact .ite counts.fullTick counts

theorem execProfileTick_ticked (inp : TickIn) (s : State) (hp : s.m.sup.powered = true) :
    ∃ t, execProfileTick inp s = .next t ∧ Ticked s.m.atInstant t.m := by
  obtain ⟨t, ht, -, hm⟩ := pow_after s (Mod.profileTick inp) hp (Logged.refl _)
  refine ⟨t, (execProfileTick_eq_pow inp s).trans ht, ?_⟩
  rw [hm]
  exact (s.m.profileTick_ticked inp).logged (Logged.healthIrq _ _)

end Sys2Proof.Machine
end

section
/-! CLAIM. The ticks of the generators stand on the free-running counter (R201). -/
namespace Sys2Proof.Claims

open Sys2Proof.Machine

/-- Settles O34: nothing a tick does but its start moves R_RAW or the next boundary, and the instant it starts at reads
these two alone (a tick that acts late acts at the next such instant, assumption 19). -/
theorem tickGrid : Obligations.TickGrid := by
  intro s inp hp
  obtain ⟨t, ht, h⟩ := execProfileTick_ticked inp s hp
  exact ⟨⟨t, ht, h.raw_eq.trans s.m.atInstant_raw, h.tickAt_eq.trans s.m.atInstant_tickAt⟩,
    s.m.tickInstant_mod, s.m.le_tickInstant, fun _ => rfl⟩

end Sys2Proof.Claims
end

section
/-! SUPPORT. Load switches (R375 to R388): what a channel reads after an update, what a held channel is driven to, and
what follows a cleared thermal latch. -/
namespace Sys2Proof.Machine

open Sys2Proof.Safety

/-! ### Reading a channel after an operation -/

theorem Mod.onLs_ls (m : Mod) (n j : Nat) (f : Ls → Ls) :
    (m.onLs n f).ls j = if n = j ∧ j < m.io.ls.length then f (m.ls j) else m.ls j := upd_getD _ _ _ _ _

theorem Mod.onLs_ls_same (m : Mod) {n : Nat} (f : Ls → Ls) (hn : n < m.io.ls.length) :
    (m.onLs n f).ls n = f (m.ls n) := by
  rw [Mod.onLs_ls, if_pos ⟨rfl, hn⟩]

theorem Mod.onLs_ls_ne (m : Mod) {n j : Nat} (f : Ls → Ls) (hj : j ≠ n) : (m.onLs n f).ls j = m.ls j := by
  rw [Mod.onLs_ls, if_neg (fun h => hj h.1.symm)]

/-- What an update keeps of every channel it keeps of the channel it is made on. -/
theorem Mod.onLs_ls_keeps {α : Type} (m : Mod) (n j : Nat) {f : Ls → Ls} (g : Ls → α) (hf : ∀ c, g (f c) = g c) :
    g ((m.onLs n f).ls j) = g (m.ls j) := by
  rw [Mod.onLs_ls]
  split
  · exact hf _
  · rfl

@[simp] theorem Mod.onLs_length (m : Mod) (n : Nat) (f : Ls → Ls) :
    (m.onLs n f).io.ls.length = m.io.ls.length := upd_length _ _ _

/-- The thermal latch holds its channel off (R376, R384). -/
theorem Mod.lsHeld_of_latch {m : Mod} {n : Nat} (h : (m.ls n).latch = true) : m.lsHeld n = true := by
  simp [Mod.lsHeld, h]

/-- A held channel is driven off, whatever it is commanded to (R376). -/
theorem Mod.lsDrive_of_held {m : Mod} {n : Nat} (h : m.lsHeld n = true) :
    m.lsDrive n = m.onLs n (fun c => { c with out := false, flashing := false }) :=
  if_pos (Or.inr h)

/-! ### The thermal latch (R382, R384) -/

/-- A channel's latch set or cleared, before the channel is driven. -/
def Mod.withLatch (m : Mod) (n : Nat) (v : Bool) : Mod := m.onLs n (fun c => { c with latch := v })

/-- The module once a latch has set: its channel is driven and the event is raised. -/
def Mod.lsHeated (m : Mod) (n : Nat) : Mod := ((m.withLatch n true).lsDrive n).raise 0x5009 n [1]

/-- What follows the event of a cleared latch: nothing, one retry, or the channel is exhausted. -/
def Mod.lsResume (m : Mod) (n : Nat) : Mod :=
  if m.lsWant n = 0 ∨ (m.ls n).exhausted then m
  else if (m.ls n).retries < m.pn P.lsRetryMax n then m.lsRetryNow n
  else (m.onLs n (fun c => { c with exhausted := true })).raise 0x500B n [3]

/-- The module once a latch has cleared. -/
def Mod.lsCooled (m : Mod) (n : Nat) : Mod := ((m.withLatch n false).raise 0x5009 n [0]).lsResume n

/-- A command of a die of its own depends on what it does to the module at hand alone. -/
theorem State.pow_congr {s : State} {f g : Mod → Mod} (h : f s.m = g s.m) : s.pow f = s.pow g := by
  simp only [State.pow, State.onMod, h]

theorem execLsThermalLatchSet_eq_pow {n : Nat} {s : State} (hn : n < 24) (h : (s.m.ls n).latch = false) :
    execLsThermalLatchSet n s = s.pow (fun m => m.lsHeated n) :=
  State.pow_congr (if_pos ⟨hn, by simp [h]⟩)

theorem execLsThermalLatchClear_eq_pow {n : Nat} {s : State} (h : (s.m.ls n).latch = true) :
    execLsThermalLatchClear n s = s.pow (fun m => m.lsCooled n) :=
  State.pow_congr (if_pos h)

theorem Mod.withLatch_latch (m : Mod) {n : Nat} (v : Bool) (hn : n < m.io.ls.length) :
    ((m.withLatch n v).ls n).latch = v :=
  congrArg Ls.latch (m.onLs_ls_same _ hn)

theorem Mod.withLatch_ls_ne (m : Mod) {n j : Nat} (v : Bool) (hj : j ≠ n) : (m.withLatch n v).ls j = m.ls j :=
  m.onLs_ls_ne _ hj

theorem Mod.withLatch_length (m : Mod) (n : Nat) (v : Bool) : (m.withLatch n v).io.ls.length = m.io.ls.length :=
  m.onLs_length n _

/-- A channel whose latch has set is off (R382). -/
theorem Mod.withLatch_lsDrive_out (m : Mod) {n : Nat} (hn : n < m.io.ls.length) :
    (((m.withLatch n true).lsDrive n).ls n).out = false := by
  rw [Mod.lsDrive_of_held (Mod.lsHeld_of_latch (m.withLatch_latch true hn)),
    Mod.onLs_ls_same _ _ (by rwa [Mod.withLatch_length])]

end Sys2Proof.Machine
end

section
/-! SUPPORT. Driving a load switch acts on its channel alone, keeps its thermal latch, and only adds to the event log. -/
namespace Sys2Proof.Safety

open Sys2Proof.Machine

theorem Logged.ls {a b : Mod} (h : Logged a b) (j : Nat) : b.ls j = a.ls j :=
  h.keeps (fun m => m.ls j) (fun _ _ _ _ => rfl)

/-- The blocks that driving a channel and its events act on. -/
def lsBlks : List Blk := [.io, .live, .due, .po, .recd, .host]

/-- `b` is `a` after channel `n` was driven and events were raised: the other channels and the thermal latch of `n` are as
they were, and what was logged stays. -/
structure Driven (n : Nat) (a b : Mod) : Prop where
  blocks : Only lsBlks a b
  others : ∀ j, j ≠ n → b.ls j = a.ls j
  latch : (b.ls n).latch = (a.ls n).latch
  log : a.recd.log <+: b.recd.log

theorem Only.onLs (m : Mod) (n : Nat) (f : Ls → Ls) : Only lsBlks m (m.onLs n f) := by
  intro b hb
  cases b
  case io => exact absurd (by decide) hb
  all_goals rfl

theorem Only.takeDue (m : Mod) (f : PDef → Nat → Bool) : Only lsBlks m (m.takeDue f) := by
  intro b hb
  cases b
  case live | due => exact absurd (by decide) hb
  all_goals rfl

namespace Driven

variable {n : Nat} {a b m : Mod}

theorem refl (m : Mod) : Driven n m m := ⟨Only.refl _ _, fun _ _ => rfl, rfl, List.prefix_refl _⟩

theorem trans (h : Driven n a m) (k : Driven n m b) : Driven n a b :=
  ⟨h.blocks.trans k.blocks, fun j hj => (k.others j hj).trans (h.others j hj), k.latch.trans h.latch, h.log.trans k.log⟩

theorem ite {x y : Mod} {c : Prop} [Decidable c] (hx : Driven n a x) (hy : Driven n a y) :
    Driven n a (if c then x else y) := by
  split
  · exact hx
  · exact hy

theorem logged (h : Driven n a m) (k : Logged m b) : Driven n a b :=
  h.trans ⟨k.only.mono (by decide), fun j _ => k.ls j, congrArg Ls.latch (k.ls n), k.log⟩

theorem raise {code src : Nat} {pay : List Int} (h : Driven n a m) : Driven n a (m.raise code src pay) :=
  h.logged (Logged.raise m code src pay)

theorem onLs {f : Ls → Ls} (h : Driven n a m) (hf : ∀ c, (f c).latch = c.latch) : Driven n a (m.onLs n f) :=
  h.trans ⟨Only.onLs m n f, fun _ hj => m.onLs_ls_ne f hj, m.onLs_ls_keeps n n Ls.latch hf, List.prefix_refl _⟩

theorem takeDue {f : PDef → Nat → Bool} (h : Driven n a m) : Driven n a (m.takeDue f) :=
  h.trans ⟨Only.takeDue m f, fun _ _ => rfl, rfl, List.prefix_refl _⟩

theorem lsTurnOn {first : Bool} (h : Driven n a m) : Driven n a (m.lsTurnOn n first) :=
  h.takeDue.onLs (fun _ => rfl)

theorem lsDrive (h : Driven n a m) : Driven n a (m.lsDrive n) := by
  unfold Mod.lsDrive
  have off : Driven n a (m.onLs n (fun c => { c with out := false, flashing := false })) := h.onLs (fun _ => rfl)
  have steady : Driven n a (m.onLs n (fun c => { c with flashing := false })) := h.onLs (fun _ => rfl)
  have flash : Driven n a (m.onLs n (fun c => { c with flashing := true, flashAt := m.raw })) := h.onLs (fun _ => rfl)
  exact .ite off (.ite (.ite steady steady.lsTurnOn) (.ite h flash.lsTurnOn))

theorem lsRetryNow (h : Driven n a m) : Driven n a (m.lsRetryNow n) :=
  Driven.lsDrive (Driven.raise (h.onLs (fun _ => rfl)))

theorem lsResume (h : Driven n a m) : Driven n a (m.lsResume n) :=
  .ite h (.ite h.lsRetryNow (Driven.raise (h.onLs (fun _ => rfl))))

end Driven

/-! ### Events of a command that drives a channel -/

theorem raised_of_prefix {s t u : State} {code src : Nat} {pay : List Int} (h : Raised s t code src pay)
    (k : t.m.recd.log <+: u.m.recd.log) : Raised s u code src pay := by
  obtain ⟨e, he, is⟩ := h
  obtain ⟨more, hmore⟩ := k
  refine ⟨e, ?_, is⟩
  rw [← hmore, List.drop_append]
  exact List.mem_append_left _ he

/-! ### Commands of the thermal latch (R382, R384) -/

/-- A command of a die of its own that sets or clears the latch of channel `n`, drives the channel to `a`, raises an
event, and may drive the channel once more. -/
theorem pow_latch {s : State} {n : Nat} {v : Bool} {g : Mod → Mod} {a : Mod} {code src : Nat} {pay : List Int}
    (hp : s.m.sup.powered = true) (hn : n < s.m.io.ls.length) (ha : Driven n (s.m.withLatch n v) a)
    (hb : Driven n (a.raise code src pay) (g s.m)) :
    ∃ t, s.pow g = .next t ∧ Logged (g s.m) t.m ∧ (t.m.ls n).latch = v ∧ Raised s t code src pay
      ∧ (∀ j, j ≠ n → t.m.ls j = s.m.ls j) ∧ Frame lsBlks s t := by
  obtain ⟨t, ht, ⟨hpend, hpar, hboot, hkept, hlog⟩, -⟩ := pow_after s g hp (Logged.refl _)
  have after : Driven n (a.raise code src pay) t.m := hb.logged hlog
  have whole : Driven n (s.m.withLatch n v) t.m := ha.raise.trans after
  have latch : (t.m.ls n).latch = v := whole.latch.trans (s.m.withLatch_latch v hn)
  have now : Raised s { s with m := a.raise code src pay } code src pay := raised_of _ _ _ ha.log (Logged.refl _)
  have others (j : Nat) (hj : j ≠ n) : t.m.ls j = s.m.ls j := (whole.others j hj).trans (s.m.withLatch_ls_ne v hj)
  exact ⟨t, ht, hlog, latch, raised_of_prefix now after.log, others, hpend, hpar, hboot, hkept,
    (Only.onLs _ _ _).trans whole.blocks⟩

theorem execLsThermalLatchSet_off {s : State} {n : Nat} (hp : s.m.sup.powered = true) (h24 : n < 24)
    (hn : n < s.m.io.ls.length) (h : (s.m.ls n).latch = false) :
    ∃ t, execLsThermalLatchSet n s = .next t ∧ (t.m.ls n).latch = true ∧ (t.m.ls n).out = false
      ∧ Raised s t 0x5009 n [1] ∧ (∀ j, j ≠ n → t.m.ls j = s.m.ls j) ∧ Frame lsBlks s t := by
  rw [execLsThermalLatchSet_eq_pow h24 h]
  obtain ⟨t, ht, hlog, latch, rest⟩ := pow_latch (g := fun m => m.lsHeated n) hp hn (Driven.refl _).lsDrive (Driven.refl _)
  have off : (t.m.ls n).out = false := by
    rw [((Logged.raise _ _ _ _).trans hlog).ls]
    exact s.m.withLatch_lsDrive_out hn
  exact ⟨t, ht, latch, off, rest⟩

theorem execLsThermalLatchClear_clears {s : State} {n : Nat} (hp : s.m.sup.powered = true)
    (hn : n < s.m.io.ls.length) (h : (s.m.ls n).latch = true) :
    ∃ t, execLsThermalLatchClear n s = .next t ∧ (t.m.ls n).latch = false
      ∧ Raised s t 0x5009 n [0] ∧ (∀ j, j ≠ n → t.m.ls j = s.m.ls j) ∧ Frame lsBlks s t := by
  rw [execLsThermalLatchClear_eq_pow h]
  obtain ⟨t, ht, -, rest⟩ := pow_latch (g := fun m => m.lsCooled n) hp hn (Driven.refl _) (Driven.refl _).lsResume
  exact ⟨t, ht, rest⟩

end Sys2Proof.Safety
end

section
/-! CLAIM. The thermal latch of every load switch sets and clears (R382). -/
namespace Sys2Proof.Claims

open Sys2Proof.Machine Sys2Proof.Safety

/-- Settles O47: a set latch holds its channel, so the drive that follows turns it off; the retry or exhaustion that may
follow a cleared latch drives the channel and leaves the latch as it is. -/
theorem thermalLatch : Obligations.ThermalLatch :=
  fun _ _ hp hn hl => ⟨execLsThermalLatchSet_off hp hn hl, execLsThermalLatchClear_clears hp hl⟩

end Sys2Proof.Claims
end

section
/-! SUPPORT. Fabric time as a function of R_RAW, OFFSET and RATE_ADJ (R443), and the relation `SameClock` of what keeps
the three, with the shared operations that do. -/
namespace Sys2Proof.Machine

open Sys2Proof.Safety

/-! ### Fabric time (R443) -/

/-- Both terms of R_RAW in one quotient: fabric time runs at 1 + RATE_ADJ. -/
theorem fabAt_eq_ediv (x : TimeSt) (r : Nat) :
    fabAt x r = x.offset + (r : Int) * 5 * (4294967296 + x.rate) / 4294967296 := by
  rw [fabAt, Int.mul_add, Int.add_comm (_ * 4294967296), Int.add_mul_ediv_right _ _ (by decide), Int.add_assoc,
    Int.add_comm (_ / _)]

/-- A rate of -1 or more never runs fabric time backward. -/
theorem fabAt_mono {x : TimeSt} (h : -4294967296 ≤ x.rate) {a b : Nat} (hab : a ≤ b) : fabAt x a ≤ fabAt x b := by
  have run : (a : Int) * 5 * (4294967296 + x.rate) ≤ (b : Int) * 5 * (4294967296 + x.rate) :=
    Int.mul_le_mul_of_nonneg_right (by omega) (by omega)
  rw [fabAt_eq_ediv, fabAt_eq_ediv]
  exact Int.add_le_add_left (Int.ediv_le_ediv (by decide) run) _

/-! ### What keeps the clock -/

/-- `b` reads fabric time as `a` does: R_RAW, OFFSET and RATE_ADJ are the same. -/
structure SameClock (a b : Mod) : Prop where
  raw : b.raw = a.raw
  offset : b.time.offset = a.time.offset
  rate : b.time.rate = a.time.rate

namespace SameClock

variable {a b m : Mod}

theorem refl (m : Mod) : SameClock m m := ⟨rfl, rfl, rfl⟩

theorem trans (h : SameClock a m) (k : SameClock m b) : SameClock a b :=
  ⟨k.raw.trans h.raw, k.offset.trans h.offset, k.rate.trans h.rate⟩

theorem now_eq (h : SameClock a b) : b.now = a.now := by
  simp only [Mod.now, fabAt, h.raw, h.offset, h.rate]

/-- For a stage `b` of a longer command, named by `extract_lets`: comparing `b` with its value `m` first keeps the kernel
from evaluating both. -/
theorem of_eq (h : SameClock a m) (e : b = m) : SameClock a b := e ▸ h

/-- An update that writes neither R_RAW nor the time unit. -/
theorem upd (h : SameClock a m) (hr : b.raw = m.raw) (ht : b.time = m.time) : SameClock a b :=
  h.trans ⟨hr, congrArg TimeSt.offset ht, congrArg TimeSt.rate ht⟩

theorem onTime {f : TimeSt → TimeSt} (h : SameClock a m) (ho : (f m.time).offset = m.time.offset)
    (hr : (f m.time).rate = m.time.rate) : SameClock a (m.onTime f) :=
  h.trans ⟨rfl, ho, hr⟩

theorem only {l : List Blk} (h : SameClock a m) (k : Only l m b) (hr : .raw ∉ l) (ht : .time ∉ l) : SameClock a b :=
  h.upd (k .raw hr) (k .time ht)

theorem logged (h : SameClock a m) (k : Logged m b) : SameClock a b := h.only k.only (by decide) (by decide)

theorem drive (h : SameClock a m) (k : Only driveBlks m b) : SameClock a b := h.only k (by decide) (by decide)

theorem safety (h : SameClock a m) (k : Only safBlks m b) : SameClock a b := h.only k (by decide) (by decide)

theorem ite {x y : Mod} {c : Prop} [Decidable c] (hx : SameClock a x) (hy : SameClock a y) :
    SameClock a (if c then x else y) := by
  split
  · exact hx
  · exact hy

theorem foldl {α : Type} {l : List α} {f : Mod → α → Mod} (h : SameClock a m) (hf : ∀ n x, SameClock n (f n x)) :
    SameClock a (l.foldl f m) := by
  induction l generalizing m with
  | nil => exact h
  | cons x l ih => exact ih (h.trans (hf m x))

/-! ### Updates of one block -/

theorem onPo {p : Nat} {f : Portal → Portal} (h : SameClock a m) : SameClock a (m.onPo p f) := h.upd rfl rfl
theorem onHost {f : HostSt → HostSt} (h : SameClock a m) : SameClock a (m.onHost f) := h.upd rfl rfl
theorem onFab {f : FabSt → FabSt} (h : SameClock a m) : SameClock a (m.onFab f) := h.upd rfl rfl
theorem onTxn {f : TxnSt → TxnSt} (h : SameClock a m) : SameClock a (m.onTxn f) := h.upd rfl rfl
theorem onSaf {f : Machine.Safety → Machine.Safety} (h : SameClock a m) : SameClock a (m.onSaf f) := h.upd rfl rfl
theorem onIo {f : IoSt → IoSt} (h : SameClock a m) : SameClock a (m.onIo f) := h.upd rfl rfl
theorem onMode {f : ModeSt → ModeSt} (h : SameClock a m) : SameClock a (m.onMode f) := h.upd rfl rfl
theorem onStart {f : StartSt → StartSt} (h : SameClock a m) : SameClock a (m.onStart f) := h.upd rfl rfl
theorem onSec {f : SecSt → SecSt} (h : SameClock a m) : SameClock a (m.onSec f) := h.upd rfl rfl
theorem onFw {f : UpdSt → UpdSt} (h : SameClock a m) : SameClock a (m.onFw f) := h.upd rfl rfl
theorem onCan {p : Nat} {f : CanPort → CanPort} (h : SameClock a m) : SameClock a (m.onCan p f) := h.upd rfl rfl
theorem onAx {i : Nat} {f : Axis → Axis} (h : SameClock a m) : SameClock a (m.onAx i f) := h.upd rfl rfl
theorem onLs {n : Nat} {f : Ls → Ls} (h : SameClock a m) : SameClock a (m.onLs n f) := h.upd rfl rfl
theorem onSide {s : Side} {f : SideSt → SideSt} (h : SameClock a m) : SameClock a (m.onSide s f) := h.upd rfl rfl

/-! ### Events, load switches and the release of a side -/

theorem raise {code src : Nat} {pay : List Int} (h : SameClock a m) : SameClock a (m.raise code src pay) :=
  h.logged (Logged.raise m code src pay)

theorem lsDriveAll (h : SameClock a m) : SameClock a m.lsDriveAll :=
  h.foldl (fun n k => (refl n).only (Driven.refl n).lsDrive.blocks (by decide) (by decide))

theorem openOnRelease {s : Side} (h : SameClock a m) : SameClock a (m.openOnRelease s) :=
  h.foldl (fun n _ => .ite (refl n).onPo.raise (.ite (refl n).onPo.raise (refl n)))

theorem trig {t : Trig} (h : SameClock a m) : SameClock a (m.trig t) := h.safety (Only.trig m t)

theorem evalSide {s : Side} (h : SameClock a m) : SameClock a (m.evalSide s) := by
  unfold Mod.evalSide
  extract_lets was r0 r b saf m1 en m2 rel old m3
  have h1 : SameClock a m1 := h.upd rfl rfl
  have h2 : SameClock a m2 := .ite h1 h1.raise
  have h3 : SameClock a m3 := h2.onSide
  exact .ite h3 (.ite h3.openOnRelease.trig (.ite h3 h3.trig))

theorem withdraw {s : Side} {cause : Nat} (h : SameClock a m) : SameClock a (m.withdraw s cause) :=
  .ite (h.onSide.raise.foldl (fun n _ => (refl n).onPo)).evalSide h

end SameClock

end Sys2Proof.Machine
end

section
/-! SUPPORT. A reset of the control die keeps the clock, and a cold start puts OFFSET and RATE_ADJ to 0 (R444). -/
namespace Sys2Proof.Machine

open Sys2Proof.Safety

namespace SameClock

variable {a m : Mod}

/-! ### The resets' parts -/

theorem degCount (h : SameClock a m) : SameClock a m.degCount := h.upd rfl rfl

theorem holdLoops (h : SameClock a m) : SameClock a m.holdLoops := by
  unfold Mod.holdLoops
  extract_lets ms l r m1 m2
  have h1 : SameClock a m1 := h.onStart
  have h2 : SameClock a m2 := .ite (h1.safety (Only.dropHold m1 .L 3)) h1
  exact .ite (.ite (h2.safety (Only.dropHold m2 .R 3)) h2) h1

theorem txnOut {c : Nat} {o : TxnOut} (h : SameClock a m) : SameClock a (m.txnOut c o) := by
  unfold Mod.txnOut
  extract_lets x m1 m2
  have h1 : SameClock a m1 := h.upd rfl rfl
  have h2 : SameClock a m2 := by
    unfold m2
    split
    · exact h1.onPo
    · exact h1
  exact h2.raise

theorem tear {f : Nat → Bool} (h : SameClock a m) : SameClock a (m.tear f) :=
  h.foldl (fun n _ => .ite (refl n).txnOut.raise (refl n))

theorem txnLost (h : SameClock a m) : SameClock a m.txnLost := h.upd rfl rfl

theorem txnReset (h : SameClock a m) : SameClock a m.txnReset := by
  unfold Mod.txnReset
  extract_lets m1
  have h1 : SameClock a m1 := h.tear
  exact h1.txnLost.onTxn

theorem canAbortAll {p reason : Nat} (h : SameClock a m) : SameClock a (m.canAbortAll p reason) :=
  h.foldl (fun n _ => (refl n).onCan.raise)

theorem canReset (h : SameClock a m) : SameClock a m.canReset :=
  h.foldl (fun n _ => (refl n).canAbortAll.onCan)

theorem ssiStops (h : SameClock a m) : SameClock a m.ssiStops :=
  h.foldl (fun n _ => .ite (refl n).onAx (refl n))

theorem workReset (h : SameClock a m) : SameClock a m.workReset := by
  unfold Mod.workReset
  extract_lets m1 ax po
  have h1 : SameClock a m1 := h.ssiStops
  exact h1.upd rfl rfl

theorem debugLock {cause : Nat} (h : SameClock a m) : SameClock a (m.debugLock cause) := by
  unfold Mod.debugLock
  split
  · exact h
  · extract_lets m1
    have h1 : SameClock a m1 := h.onSec.raise
    exact h1.upd rfl rfl

theorem secReset (h : SameClock a m) : SameClock a m.secReset := by
  unfold Mod.secReset
  extract_lets m1 m2
  have h2 : SameClock a m2 := h.debugLock.onSec
  exact h2.onFw

theorem closeSess {k cause : Nat} (h : SameClock a m) : SameClock a (m.closeSess k cause) :=
  .ite (h.onFab.foldl (fun n x => (refl n).logged (Logged.complete n x _))).raise h

theorem closeAllSess {cause : Nat} (h : SameClock a m) : SameClock a (m.closeAllSess cause) :=
  h.foldl (fun n _ => (refl n).closeSess)

theorem cancelOps {d : Nat} {f : LongOp → Bool} (h : SameClock a m) : SameClock a (m.cancelOps d f) := h.onHost

theorem setNeg {p : Nat} {v : Option (Nat × Nat)} (h : SameClock a m) : SameClock a (m.setNeg p v) := h.upd rfl rfl

theorem linkReset {cause : Nat} (h : SameClock a m) : SameClock a (m.linkReset cause) :=
  h.cancelOps.onHost.setNeg.closeAllSess.raise

/-- The registers return to their reset values but for these two (R444 against R117, assumption 134). -/
theorem regReset (h : SameClock a m) : SameClock a m.regReset := by
  unfold Mod.regReset
  extract_lets m1 host m2 fab m3
  have h1 : SameClock a m1 := h.linkReset
  have h2 : SameClock a m2 := h1.onHost
  have h3 : SameClock a m3 := h2.onFab
  clear_value m3
  exact h3.trans ⟨rfl, rfl, rfl⟩

/-! ### The two kinds of start (R92, R98) -/

theorem dieReset {cause : ResetCause} (h : SameClock a m) : SameClock a (m.dieReset cause) := by
  unfold Mod.dieReset
  extract_lets fail m1 m2 m3 m4 m5 m6 m7 m8 m9 old m10 m11
  have h1 : SameClock a m1 := h.degCount
  have h2 : SameClock a m2 := h1.holdLoops.of_eq rfl
  have h3 : SameClock a m3 := (h2.foldl (fun n g => (refl n).safety (Only.demand n g 5))).of_eq rfl
  have h4 : SameClock a m4 := (h3.foldl (fun n i => (refl n).drive (Only.dropTorque n i))).of_eq rfl
  have h5 : SameClock a m5 := h4.withdraw.withdraw.of_eq rfl
  have h6 : SameClock a m6 := h5.txnReset.canReset.workReset.secReset.regReset.of_eq rfl
  have h8 : SameClock a m8 := h6.onSaf.onIo
  have h9 : SameClock a m9 := h8.lsDriveAll.of_eq rfl
  have h10 : SameClock a m10 := h9.onMode
  have h11 : SameClock a m11 := (SameClock.ite h10 h10.raise).of_eq rfl
  exact h11.onStart

end SameClock

theorem Mod.coldReset_offset (m : Mod) (svc low : Bool) : (m.coldReset svc low).time.offset = 0 := rfl

theorem Mod.coldReset_rate (m : Mod) (svc low : Bool) : (m.coldReset svc low).time.rate = 0 := rfl

/-- The events of a cold start leave the clock as the reset put it. -/
theorem Mod.coldStart_sameClock (m : Mod) (svc low : Bool) :
    SameClock (m.coldReset svc low) (m.coldStart svc low) :=
  have base := SameClock.refl (m.coldReset svc low)
  SameClock.foldl (.ite base base.raise) (fun n _ => (SameClock.refl n).raise)

theorem execLogicPowerOn_clears {s : State} {svc low : Bool} (h : s.m.sup.powered = false) :
    ∃ t, execLogicPowerOn svc low s = .next t ∧ t.m.time.offset = 0 ∧ t.m.time.rate = 0 := by
  obtain ⟨t, ht, ⟨-, -, -, -, hlog⟩, -⟩ :=
    onMod_after s (fun m => if m.sup.powered then m else m.coldStart svc low) (Logged.refl _)
  have start : Logged (s.m.coldStart svc low) t.m := by simpa [h] using hlog
  have clock := (s.m.coldStart_sameClock svc low).logged start
  exact ⟨t, ht, clock.offset.trans (Mod.coldReset_offset _ _ _), clock.rate.trans (Mod.coldReset_rate _ _ _)⟩

theorem execControlDieReset_sameClock {s : State} (c : ResetCause) (h : s.m.alive = true) :
    ∃ t, execControlDieReset c s = .next t ∧ SameClock s.m t.m := by
  obtain ⟨t, ht, ⟨-, -, -, -, hlog⟩, -⟩ := live_after s (fun m => m.dieReset c) h (Logged.refl _)
  exact ⟨t, ht, (SameClock.refl s.m).dieReset.logged hlog⟩

end Sys2Proof.Machine
end

section
/-! SUPPORT. A measurement within the step threshold steers the rate and keeps the present fabric time (R444, R445). -/
namespace Sys2Proof.Machine

open Sys2Proof.Safety

/-! ### The limit of the rate -/

theorem clampI_mem {l x : Int} (h : 0 ≤ l) : -l ≤ clampI (-l) l x ∧ clampI (-l) l x ≤ l := by
  unfold clampI
  omega

/-- The servo's rate stays within RATE_LIMIT, in 2^-32 (assumption 104). -/
theorem Mod.rateClamp_mem (m : Mod) (x : Int) (h : 0 ≤ m.p P.rateLimit 0) :
    -(m.p P.rateLimit 0 * 4294967296 / 1000000) ≤ m.rateClamp x
      ∧ m.rateClamp x ≤ m.p P.rateLimit 0 * 4294967296 / 1000000 :=
  clampI_mem (by omega)

/-! ### The parts of PTP_SYNC_RX -/

/-- OFFSET takes up at the present tick what the new rate changes (R444). -/
theorem Mod.setRate_now (m : Mod) (r : Int) : (m.setRate r).now = m.now := by
  simp only [Mod.now, fabAt, Mod.setRate, Mod.onTime_raw, Mod.onTime_time]
  omega

/-- A measurement is noted, whatever the servo makes of it. -/
def Mod.measured (m : Mod) (o : Int) : Mod := m.onTime (fun t => { t with lastMsg := m.raw, lastMeas := o })

/-- The integral that a measurement within the threshold leaves (R445). -/
def Mod.servoIntegral (m : Mod) (o : Int) : Int := m.time.integral - m.servoTerm (m.p P.servoKi 0) o

/-- The rate that a measurement within the threshold asks for (R445). -/
def Mod.servoRate (m : Mod) (o : Int) : Int :=
  m.rateClamp (m.servoIntegral o - m.servoTerm (m.p P.servoKp 0) o)

/-- A limit of at most 10^6 ppm keeps the rate between -1 and 1. -/
theorem Mod.servoRate_le_one (m : Mod) (o : Int) (h : 0 ≤ m.p P.rateLimit 0) (h1 : m.p P.rateLimit 0 ≤ 1000000) :
    -4294967296 ≤ m.servoRate o ∧ m.servoRate o ≤ 4294967296 := by
  obtain ⟨low, high⟩ : _ ≤ m.servoRate o ∧ m.servoRate o ≤ _ := m.rateClamp_mem _ h
  omega

/-- The module once the servo has taken a measurement within the threshold (R445). -/
def Mod.slewed (m : Mod) (o : Int) : Mod :=
  (m.onTime (fun t => { t with integral := m.servoIntegral o })).setRate (m.servoRate o)

/-- The measurement counted, and the state of synchronisation it leads to (R447). -/
def Mod.syncJudged (m : Mod) (o : Int) : Mod :=
  let m := m.onTime (fun t => { t with
    good := if o.natAbs < 200 then t.good + 1 else 0,
    bad := if 1000 < o.natAbs then t.bad + 1 else 0 })
  if m.time.sync = .locked ∧ 3 ≤ m.time.bad then m.setSync .acquiring
  else if m.time.sync = .acquiring ∧ 8 ≤ m.time.good then m.setSync .locked
  else m

/-- What PTP_SYNC_RX makes of the module when the measurement is within the threshold. -/
def Mod.steered (m : Mod) (o : Int) : Mod := (((m.measured o).slewed o).retime).syncJudged o

/-- A command of the control die depends on what it does to the module at hand alone. -/
theorem State.live_congr {s : State} {f g : Mod → Mod} (h : f s.m = g s.m) : s.live f = s.live g := by
  simp only [State.live, State.onMod, h]

theorem execPtpSyncRx_eq_live {o : Int} {s : State} (hp : s.m.time.profile ≠ 0) (hs : s.m.time.self = false)
    (ho : (o.natAbs : Int) ≤ s.m.p P.stepThreshold 0 * 1000) :
    execPtpSyncRx o s = s.live (fun m => m.steered o) := by
  refine State.live_congr ?_
  have off : ¬ (s.m.time.profile = 0 ∨ s.m.time.self = true) := by simp [hp, hs]
  have small : ¬ (s.m.measured o).p P.stepThreshold 0 * 1000 < o.natAbs := Int.not_lt.mpr ho
  exact (if_neg off).trans (congrArg (fun m => Mod.syncJudged (Mod.retime m) o) (if_neg small))

/-! ### The clock after each part -/

namespace SameClock

variable {a m : Mod}

theorem measured {o : Int} (h : SameClock a m) : SameClock a (m.measured o) := h.onTime rfl rfl

theorem setSync {st : SyncSt} (h : SameClock a m) : SameClock a (m.setSync st) := by
  unfold Mod.setSync
  extract_lets old was m1 tr m2
  have h2 : SameClock a m2 := (h.onTime rfl rfl).onTime rfl rfl
  exact .ite h2 h2.raise

theorem syncJudged {o : Int} (h : SameClock a m) : SameClock a (m.syncJudged o) :=
  have counted : SameClock a (m.onTime (fun t => { t with
      good := if o.natAbs < 200 then t.good + 1 else 0, bad := if 1000 < o.natAbs then t.bad + 1 else 0 })) :=
    h.onTime rfl rfl
  .ite counted.setSync (.ite counted.setSync counted)

theorem retime (h : SameClock a m) : SameClock a m.retime := by
  refine h.foldl (fun n c => .ite ((refl n).foldl (fun n act => ?_)) (refl n))
  split
  · exact (refl n).onLs
  · exact refl n

end SameClock

theorem Mod.slewed_raw (m : Mod) (o : Int) : (m.slewed o).raw = m.raw := rfl

theorem Mod.slewed_now (m : Mod) (o : Int) : (m.slewed o).now = m.now := Mod.setRate_now _ _

theorem Mod.slewed_rate (m : Mod) (o : Int) : (m.slewed o).time.rate = m.servoRate o := rfl

/-- The servo reads neither the instant nor the value that is noted. -/
theorem Mod.measured_servoRate (m : Mod) (o : Int) : (m.measured o).servoRate o = m.servoRate o := rfl

/-- What follows the servo keeps the clock it leaves. -/
theorem Mod.slewed_steered (m : Mod) (o : Int) : SameClock ((m.measured o).slewed o) (m.steered o) :=
  (SameClock.refl _).retime.syncJudged

/-- Where the time at a tick is kept, OFFSET has changed by what the rate term lost. -/
theorem offset_of_now_eq {a b : Mod} (hr : b.raw = a.raw) (hn : b.now = a.now) :
    b.time.offset = a.time.offset + (a.raw * 5 * a.time.rate) / 4294967296
      - (a.raw * 5 * b.time.rate) / 4294967296 := by
  simp only [Mod.now, fabAt, hr] at hn
  omega

theorem execPtpSyncRx_steers {s : State} {o : Int} (ha : s.m.alive = true) (hp : s.m.time.profile ≠ 0)
    (hs : s.m.time.self = false) (ho : (o.natAbs : Int) ≤ s.m.p P.stepThreshold 0 * 1000) :
    ∃ t, execPtpSyncRx o s = .next t ∧ t.m.raw = s.m.raw ∧ t.m.now = s.m.now ∧ t.m.time.rate = s.m.servoRate o := by
  obtain ⟨t, ht, ⟨-, -, -, -, hlog⟩, -⟩ := live_after s (fun m => m.steered o) ha (Logged.refl _)
  have noted : SameClock s.m (s.m.measured o) := (SameClock.refl s.m).measured
  have after : SameClock ((s.m.measured o).slewed o) t.m := (s.m.slewed_steered o).logged hlog
  have raw : t.m.raw = s.m.raw :=
    calc t.m.raw = ((s.m.measured o).slewed o).raw := after.raw
      _ = (s.m.measured o).raw := Mod.slewed_raw _ _
      _ = s.m.raw := noted.raw
  have now : t.m.now = s.m.now :=
    calc t.m.now = ((s.m.measured o).slewed o).now := after.now_eq
      _ = (s.m.measured o).now := Mod.slewed_now _ _
      _ = s.m.now := noted.now_eq
  have rate : t.m.time.rate = s.m.servoRate o :=
    calc t.m.time.rate = ((s.m.measured o).slewed o).time.rate := after.rate
      _ = (s.m.measured o).servoRate o := Mod.slewed_rate _ _
      _ = s.m.servoRate o := s.m.measured_servoRate o
  exact ⟨t, (execPtpSyncRx_eq_live hp hs ho).trans ht, raw, now, rate⟩

end Sys2Proof.Machine
end

section
/-! CLAIM. A change of the rate leaves the time unchanged, and fabric time never falls between jumps (R444). -/
namespace Sys2Proof.Claims

open Sys2Proof.Machine

/-- Settles O53: the servo's change of OFFSET follows from the time it keeps, and the rate it puts is clamped, so the
clock it leaves runs forward (assumption 104); what follows the servo, and a reset of the control die, keep R_RAW, OFFSET
and RATE_ADJ (assumption 134). -/
theorem servoKeepsTime : Obligations.ServoKeepsTime := by
  refine ⟨fun s o ha hp hs ho h0 h1 => ?_, fun x a b hx hab => fabAt_mono hx hab,
    fun s svc low h => execLogicPowerOn_clears h, fun s c ha => ?_⟩
  · obtain ⟨t, ht, raw, now, rate⟩ := execPtpSyncRx_steers ha hp hs ho
    have limit := s.m.servoRate_le_one o h0 h1
    exact ⟨t, ht, raw, now, offset_of_now_eq raw now, rate ▸ limit.1, rate ▸ limit.2⟩
  · obtain ⟨t, ht, clock⟩ := execControlDieReset_sameClock c ha
    exact ⟨t, ht, clock.offset, clock.rate⟩

end Sys2Proof.Claims
end
